-- ==== Sys2Proof/Word.lean ====
section
/-! DEFINITION. The names and plain data of the manual: index ranges (Conventions 4.1), bytes, complex
samples, and the fixed-length tables (`Vector`) in which indexed items are held. -/

namespace Sys2Proof

/-- A byte, bit 7 the most significant (Formats, opening). -/
abbrev Byte := BitVec 8

/-- Remote port RP0..RP23. -/
abbrev PortId := Fin 24
/-- Band lane B0..B3. -/
abbrev Lane := Fin 4
/-- Donor port DN0..DN7. -/
abbrev DonorId := Fin 8
/-- Sector SC0..SC11. -/
abbrev SectorId := Fin 12
/-- Carrier C0..C31 (carrier index = 4 × donor + slot). -/
abbrev CarrierId := Fin 32
/-- Operator OP0..OP5. -/
abbrev OperatorId := Fin 6

/-- A lane mask: bit b for lane Bb (R1, R11). -/
abbrev LaneMask := BitVec 4

/-- One of the 33 span links: 24 remote, 8 donor, the trunk (Chapter 1). -/
inductive LinkId where
  | remote (p : PortId)
  | donor (d : DonorId)
  | trunk
deriving DecidableEq, Repr

/-- The eight fault classes that a remote port has, in the class order of R28. -/
inductive PortClass where
  | linkLoss | crcRate | rauNoReply | ulOverload | ulSilent | dlOverdrive | rauAlarm | delayRange
deriving DecidableEq, Repr

/-- The source and class of one of the 200 fault records (R136): a port with one of its eight
classes, or a donor, whose one class is DONOR_LOSS. -/
inductive FaultKey where
  | port (p : PortId) (c : PortClass)
  | donor (d : DonorId)
deriving DecidableEq, Repr

/-- A complex sample (I, Q) (Conventions 4.3). The hub computes with the integers. -/
structure Sample where
  i : Int
  q : Int
deriving DecidableEq, Repr

/-- The sample (0, 0). -/
def Sample.zero : Sample := ⟨0, 0⟩

/-- One sample instant of the four lanes of a port, or of the four slots of a donor. -/
abbrev Quad := Vector Sample 4

/-- Four zero samples. -/
def Quad.zero : Quad := Vector.replicate 4 Sample.zero

/-- The table whose item `i` is `f i`. -/
def tab {α : Type} {n : Nat} (f : Fin n → α) : Vector α n :=
  ⟨⟨(List.finRange n).map f⟩, by simp⟩

/-- The table `v` with item `i` replaced by `f` of it. -/
def upd {α : Type} {n : Nat} (v : Vector α n) (i : Fin n) (f : α → α) : Vector α n :=
  v.set i.val (f v[i]) i.isLt

/-- The table with `f` applied to every item. -/
def mapTab {α β : Type} {n : Nat} (f : α → β) (v : Vector α n) : Vector β n :=
  tab fun i => f v[i]

/-- `f 0`, then `f 1`, ... applied in ascending index. -/
def each {σ : Type} {n : Nat} (f : Fin n → σ → σ) (s : σ) : σ :=
  (List.finRange n).foldl (fun t i => f i t) s

end Sys2Proof
end

