-- ==== Sys2Proof/Config.lean ====
section
/-! DEFINITION. What the manufacturer fixes in one part and the manual gives no value for: opaque
constants, so that nothing can be proved from a value of them (R172: "the revision code, the 32-bit
device serial set at manufacture"). -/

namespace Sys2Proof.Config

/-- The device serial set at manufacture (R172, R181): the manual gives no value. -/
opaque deviceSerial : BitVec 32

/-- The revision code of the identification record (R172, R181): the manual gives no value. -/
opaque revision : BitVec 4

end Sys2Proof.Config
end

