-- ==== Sys2Proof/Syntax.lean ====
section
/-! DEFINITION. The commands of the hub: one constructor per row of spec/opcode_table.json. A command is
an event that reaches the hub from outside, an event that the hub takes by itself at a frame boundary,
or the taking of the request at the head of the request queue. Where a row concerns one link, port,
lane or fault record, that is its operand. The requests carry no operand: the hub takes them, with
their tag and arguments, from the head of its own request queue (R170). -/

namespace Sys2Proof

/-- A stretch of received bits, one frame long, that became complete since the previous frame boundary: where its link
has its frames at the same position, a received span frame (R2, R4). A stretch that lies at the position of the one
before it follows that one in the bit stream. -/
structure Arrival where
  /-- bit position, within the link's frame period, at which the stretch begins (R4, R5) -/
  pos : Nat
  /-- the hub frame in which the stretch's first marker bits were received (R17): 0 the hub frame that has just
  ended, 1 the one before it -/
  framesAgo : Nat
  /-- the sample instant within that hub frame at which a marker there was found (R1, R17) -/
  instant : Nat
  /-- its bytes in order of transmission (R177) -/
  bytes : List Byte
deriving DecidableEq, Repr

/-- FRAME_BOUNDARY is one step, but the rules state outcomes for both orders of some of its updates
with other events of the same boundary. `whole` is the step itself. The other values take one of its
updates early, before the events that follow it in the queue; `whole` then takes only the rest. -/
inductive BoundaryPart where
  /-- everything that the boundary still has to do; the next frame begins -/
  | whole
  /-- the frame under way ends and the boundary begins (R1, R95, R97) -/
  | frameEnd
  /-- PLM's update of the ended frame (R61) -/
  | limiterUpdate
  /-- DEQ's recomputation (R69) -/
  | deqRecompute
  /-- the join of ports that were UP in the ended frame (R40) -/
  | combiningJoin
  /-- MGA's supply of the next trunk cell (R171) -/
  | trunkSupply
deriving DecidableEq, Repr

/-- The commands: one constructor per row of spec/opcode_table.json. -/
inductive Instr where
  /-- POWER_ON (R20). Power is applied and every block starts in its power-on state, with the hub in CONFIG and the remote ports DISABLED. -/
  | powerOn
  /-- SIGNAL_PRESENT (R3). A link's optical receiver reports light above its detection level; at the next frame boundary a link in DOWN moves to HUNT. -/
  | signalPresent (l : LinkId)
  /-- SIGNAL_ABSENT (R3). A link's optical receiver reports loss of light; at the next frame boundary an enabled link moves to DOWN with every exit effect. -/
  | signalAbsent (l : LinkId)
  /-- FRAME_BOUNDARY (R1). The hub frame number advances, and each block forms its frame records and takes its per-frame updates for the frame that begins. -/
  | frameBoundary (part : BoundaryPart)
  /-- RECEIVE_FRAME (R2). A received span frame, or the absence of one, is handed on at a frame boundary with its verdict, header, control part and payload. -/
  | receiveFrame (l : LinkId) (done : List Arrival)
  /-- LINK_ALIGNED (R4). The good-marker count reaches 4, and the link enters PROVING (remote) or UP (donor, trunk). -/
  | linkAligned (l : LinkId)
  /-- LINK_ALIGNMENT_LOST (R5). The bad-marker count reaches 8, and the link leaves its aligned state for HUNT. -/
  | linkAlignmentLost (l : LinkId)
  /-- DELAY_MEASUREMENT_START (R19). At the boundary after an accepted MEASURE_DELAY, a measurement with origin REQUEST starts. -/
  | delayMeasurementStart
  /-- MEASUREMENT_DONE (R18). The fourth round trip completes the measurement, sets D_p, last RT and the RT-range indication, and answers a waiting request. -/
  | measurementDone (p : PortId)
  /-- MEASUREMENT_TIMEOUT (R18). Elapsed reaches 16 with fewer than four round trips, and the measurement ends as TIMEOUT. -/
  | measurementTimeout (p : PortId)
  /-- IDENTIFY_REPLY (R154). A matching IDENTIFY reply with a non-empty lane mask answers the transaction, updates the RAU record and moves a port from PROVING to UP or replaces its lane mask. -/
  | identifyReply
  /-- STATUS_REPLY (R154). A matching STATUS reply answers the transaction, updates the RAU record, and presents or clears RAU_ALARM. -/
  | statusReply
  /-- CTE_SELECT (R151). With no transaction in flight, the engine selects an identify, a priority turn or a regular turn and starts an attempt. -/
  | cteSelect
  /-- ATTEMPT_MISS (R153). An attempt's frames remaining reach 0 unanswered: the next identify attempt is marked pending, or the STATUS miss count rises. -/
  | attemptMiss
  /-- POLL_INTERVAL (R152). The poll count reaches the status poll interval, and a regular pass starts or pass waiting is set. -/
  | pollInterval
  /-- SECOND_MARK (R167). The frame count reaches 16,000: the hub second count rises and per-second timers and counts are served. -/
  | secondMark
  /-- CRC_RATE_PRESENT (R139). The errored-this-second count reaches the class parameter, and CRC_RATE is presented. -/
  | crcRatePresent (p : PortId)
  /-- UL_SILENT_PRESENT (R141). The silence count reaches the class parameter in seconds, and UL_SILENT is presented. -/
  | ulSilentPresent (p : PortId)
  /-- WINDOW_END (R95). The window count reaches W: every meter completes its window and hands its results to the gates, the detectors and the quiet wake. -/
  | windowEnd
  /-- UL_OVERLOAD_PRESENT (R140). The overload run reaches the class parameter, and UL_OVERLOAD is presented. -/
  | ulOverloadPresent (p : PortId)
  /-- HOLD_RESTORE (R60). The HOLD-mode hold count reaches the port's hold frames, and L returns to 4096. -/
  | holdRestore (p : PortId) (b : Lane)
  /-- DL_OVERDRIVE_PRESENT (R63). A lane's overdrive count reaches 16, and the port's flag goes PRESENT and presents DL_OVERDRIVE. -/
  | dlOverdrivePresent (p : PortId)
  /-- DL_OVERDRIVE_CLEAR (R63). The clean count reaches 16 while the flag is PRESENT, and DL_OVERDRIVE is cleared. -/
  | dlOverdriveClear (p : PortId)
  /-- IDLE_CELL (R169). An IDLE cell of a GOOD trunk frame is handed on and causes nothing. -/
  | idleCell
  /-- REQUEST_CELL (R169). A REQUEST cell is handed on and joins the request queue, or is discarded by overrun. -/
  | requestCell
  /-- DATA_CELL (R161). The table loader takes a DATA cell: it checks the tag, adds to the burst CRC and appends the bytes, or counts a stray. -/
  | dataCell
  /-- CHECK_CELL (R162). The table loader takes a CHECK cell, compares the burst CRC and closes the burst, or counts a stray. -/
  | checkCell
  /-- RESPONSE_CELL (R169). A received RESPONSE cell, or a cell of undefined type, is discarded and the unexpected-cell count rises. -/
  | responseCell
  /-- HELLO (R172). Returns the identification record. -/
  | hello
  /-- READ_PORT_STATUS (R172). Returns a part of the named port's status record from every block. -/
  | readPortStatus
  /-- READ_SECTOR_STATUS (R80). Returns a part of the named sector's equalization, uplink and balancer status. -/
  | readSectorStatus
  /-- READ_CARRIER_STATUS (R37). Returns the carrier states, hold flags, uplink gains and uplink clip counters. -/
  | readCarrierStatus
  /-- READ_METER (R111). Returns a part of the named port's meter record. -/
  | readMeter
  /-- READ_EXTREMES (R99). Returns the port's extremes records and empties them when reset is asked. -/
  | readExtremes
  /-- READ_DL_POWER (R67). Returns the port's limiter state and power readout. -/
  | readDlPower
  /-- READ_FAULTS (R158). Returns the port's or the donors' fault records, then clears the FAULT notice. -/
  | readFaults
  /-- READ_FAULT_HISTORY (R148). Returns and removes the oldest fault history entry, with the number left and the lost count. -/
  | readFaultHistory
  /-- READ_MOVE_QUEUE (R120). Returns the move queue entries and the move in flight. -/
  | readMoveQueue
  /-- READ_MOVE_LOG (R128). Returns the move log and the log sequence, then clears the MOVE notice. -/
  | readMoveLog
  /-- READ_ADVICE (R135). Returns the advice list and its stamp, then clears the ADVICE notice. -/
  | readAdvice
  /-- READ_COUNTERS (R176). Returns the hub counters, then clears the OVERRUN notice. -/
  | readCounters
  /-- READ_NOTICES (R174). Returns the pending marks, the attention enable mask and the attention value. -/
  | readNotices
  /-- READ_LOAD_STATUS (R166). Returns the table loader state, then clears the LOAD notice. -/
  | readLoadStatus
  /-- READ_LINK_SUMMARY (R9). Returns all link states, lane masks and link counters, then clears the LINK notice. -/
  | readLinkSummary
  /-- READ_QUIET_SUMMARY (R135). Returns every port's quiet state, then clears the QUIET notice. -/
  | readQuietSummary
  /-- TABLE_READ (R172). Returns 12 bytes of an active table image from the given offset. -/
  | tableRead
  /-- LOAD_BEGIN (R160). Opens a table load for the named table and length. -/
  | loadBegin
  /-- LOAD_END (R163). Ends the load: it is judged as FAILED, LENGTH, UNCHECKED or REJECTED, or is SCHEDULED. -/
  | loadEnd
  /-- LOAD_ABORT (R164). Ends an open or closing load as ABANDONED with cause REQUEST. -/
  | loadAbort
  /-- LOAD_TIMEOUT (R164). The silence count of an OPEN load reaches 16,000, and the load ends as TIMEOUT. -/
  | loadTimeout
  /-- TABLE_ACTIVATION (R165). At the boundary after a SCHEDULED LOAD_END, the image becomes active with every activation effect. -/
  | tableActivation
  /-- ENTER_SERVICE (R168). Judges the request to enter SERVICE and, if accepted, keeps the agent busy until the next boundary. -/
  | enterService
  /-- SERVICE_ENTRY (R168). At the boundary after an accepted ENTER_SERVICE, the hub enters SERVICE and places ports, resets A_p and L, and restarts the window count. -/
  | serviceEntry
  /-- RESTART (R173). Queues its OK response and keeps the agent busy until the restart takes effect. -/
  | restart
  /-- RESTART_EFFECT (R173). At the next boundary queued requests are discarded and every block returns to its power-on state, except the kept items. -/
  | restartEffect
  /-- PORT_RESET (R173). Accepts a reset of the named port and keeps the agent busy until the next boundary. -/
  | portReset
  /-- PORT_RESET_EFFECT (R21). At the next boundary the port's link, meters, limiter, lines, gates, faults, transactions and balancer state are reset. -/
  | portResetEffect
  /-- CLEAR_COUNTERS (R176). Returns the listed counters to 0. -/
  | clearCounters
  /-- OPERATOR_HOLD (R38). Sets an operator's hold flag; the carriers change at the next boundary. -/
  | operatorHold
  /-- OPERATOR_RELEASE (R38). Clears an operator's hold flag; the carriers change at the next boundary. -/
  | operatorRelease
  /-- OPERATOR_HOLD_EFFECT (R38). At the boundary after a hold, the operator's ACTIVE carriers become HELD and the response is queued. -/
  | operatorHoldEffect
  /-- OPERATOR_RELEASE_EFFECT (R38). At the boundary after a release, the operator's HELD carriers become ACTIVE and the response is queued. -/
  | operatorReleaseEffect
  /-- MEASURE_DELAY (R19). Starts or attaches to a delay measurement of the named port. -/
  | measureDelay
  /-- LOOP_TEST (R104). Judges a loop test of the named port and, if accepted, makes its record PENDING. -/
  | loopTest
  /-- MOVE (R121). Places or replaces a MANUAL move entry for the named port in the move queue. -/
  | move
  /-- CANCEL_MOVE (R122). Removes the port's queued entry, or marks its move in flight ENDING with cause CANCEL. -/
  | cancelMove
  /-- WAKE (R132). Wakes the named port with cause REQUEST, or resets its quiet count. -/
  | wake
  /-- CLEAR_FAULTS (R145). Returns LATCHED records of the scope to IDLE and reports records still ACTIVE. -/
  | clearFaults
  /-- PRIORITY_POLL (R157). Replaces the priority set, and the priority position returns to 0. -/
  | priorityPoll
  /-- BALANCE_INTERVAL (R114). The interval count reaches the balance interval: loads are taken, candidates made, quiet conditions tested and hold-offs lowered. -/
  | balanceInterval
  /-- QUIET_ENTRY (R130). A port's quiet count reaches the SITE quiet count, and the port enters QUIET. -/
  | quietEntry (p : PortId)
  /-- MOVE_START (R123). With no move in flight, the queue head is validated and starts its ramp, or is refused and logged. -/
  | moveStart
  /-- RAMP_STEP (R125). The step k of a RAMPING move rises, and the weights change. -/
  | rampStep
  /-- MOVE_COMMIT (R125). k reaches R: the port joins the target alone, hold-off is set and DONE is logged. -/
  | moveCommit
  /-- MOVE_ABANDON (R127). At the boundary after its marking, a move is abandoned: the port returns to its source and ABANDONED is logged. -/
  | moveAbandon
  /-- COOLING_EXPIRY (R143). A COOLING record's retry timer reaches 0: it releases, detects again, or escalates. -/
  | coolingExpiry (k : FaultKey)
  /-- SETTLE_EXPIRY (R143). An IDLE record's settle timer reaches 0, and its retry count returns to 0. -/
  | settleExpiry (k : FaultKey)
  /-- UNKNOWN_REQUEST (R170). A request whose kind is none of this manual's kinds (kind 0 or 20..255) is taken from the head of the request queue and answered BAD_REQUEST. -/
  | unknownRequest
deriving DecidableEq, Repr

end Sys2Proof
end

