-- ==== Sys2Proof/Machine/State.lean ====
section
/-! DEFINITION. The whole state of the hub, block by block (00_scope.md, Block Overview), as plain data,
the reasons a step can stop, and the state at power-on. A field marked MODEL is the model's own: it
holds no register of the hub, but which of a boundary's events have already been taken, or how an input
stood in the frame that ended. -/

namespace Sys2Proof.Machine

/-- No command of the hub ends in a fault: the manual gives every event and request an effect, an answer
or nothing to do. The type has no constructor. -/
inductive Fault where
deriving DecidableEq, Repr

/-- Why a command has no meaning in the model. -/
inductive Refusal where
  /-- raised by an arm of `exec` for a command the model gives no meaning yet (safe); none is left -/
  | notModelled (mnemonic : String)
deriving DecidableEq, Repr

/-! ## LNK (Chapter 1) -/

/-- Link states. A remote port has all five (R7); a donor or the trunk has DOWN, HUNT and UP (R14, R15). -/
inductive LinkState where
  | disabled | down | hunt | proving | up
deriving DecidableEq, Repr

/-- The verdict of a delivered frame (R5). -/
inductive Verdict where
  | good | errored | slipped
deriving DecidableEq, Repr

/-- What LNK holds for each of the 33 links (R3 to R5, R13). -/
structure LinkCore where
  state : LinkState
  /-- the receiver reports signal present (R3) -/
  signal : Bool
  /-- good-marker count, 0..4 (R4) -/
  good : Nat
  /-- bad-marker count, 0..8 (R5) -/
  bad : Nat
  /-- candidate position, then the aligned position (R4) -/
  cand : Option Nat
  /-- MODEL: the last stretch of received bits, in which a marker or a frame may have begun (R4) -/
  last : Option Arrival
  /-- errored total (R13), 32-bit saturating -/
  errored : Nat
  /-- slip count (R13), 32-bit saturating -/
  slips : Nat
  /-- drop count (R13), 32-bit saturating -/
  drops : Nat
  /-- MODEL: a frame of the link, or its absence, has been handed on at the boundary under way -/
  handed : Bool
  /-- MODEL: the frame of the fourth good marker, complete at this boundary, kept until LINK_ALIGNED delivers it (R4) -/
  arrival : Option Arrival
  /-- verdict of the frame handed on at this boundary, or none (R2, R5) -/
  verdict : Option Verdict
  /-- the payload handed on: the link's received samples for the frame that begins (R2) -/
  samples : List Quad
deriving DecidableEq, Repr

/-- What started a delay measurement (R18). -/
inductive Origin where
  | entry
  | request (tag : Byte)
deriving DecidableEq, Repr

/-- The delay measurement record of a remote port (R18). -/
structure Measurement where
  running : Bool
  origin : Origin
  /-- round trips collected, 0..4 -/
  taken : Nat
  /-- least round trip and its out-of-range mark -/
  minimum : Option (Nat × Bool)
  /-- frame boundaries since the start, 0..16 -/
  elapsed : Nat
deriving DecidableEq, Repr

/-- LNK's state of one remote port. -/
structure RemoteLink where
  core : LinkCore
  /-- the lane mask of the RAU (R11) -/
  mask : LaneMask
  /-- errored this second, 0..16,000 (R13) -/
  erroredSec : Nat
  meas : Measurement
  /-- D_p, 0..2048 (R18) -/
  delay : Nat
  /-- last RT, 0..4095 (R18) -/
  lastRT : Nat
  /-- the RT-range indication (R18) -/
  rtRange : Bool
deriving DecidableEq, Repr

/-- The link interface. -/
structure Lnk where
  /-- hub frame number (R1) -/
  frameNumber : BitVec 8
  remote : Vector RemoteLink 24
  donor : Vector LinkCore 8
  trunk : LinkCore
  /-- the frame sent on each remote port in the frame under way; none when nothing is sent (R1) -/
  sentRemote : Vector (Option (List Byte)) 24
  /-- the frame sent on each donor link -/
  sentDonor : Vector (List Byte) 8
  /-- the frame sent on the trunk -/
  sentTrunk : List Byte
deriving DecidableEq, Repr

/-! ## SBL (Chapter 8): the assignment, needed by the frame's inputs -/

/-- The assignment of a port (R113). -/
inductive Assign where
  | none
  | one (s : SectorId)
  | two (source target : SectorId)
deriving DecidableEq, Repr

/-- MODEL: the inputs of one port as they stood throughout the frame under way, taken when that frame
began. Rules that speak of "the frame that ended" read them (R69, R83, R89, R96, R97, R101, R102). -/
structure FrameInput where
  link : LinkState
  mask : LaneMask
  verdict : Option Verdict
  combining : Bool
  /-- MUTE or ISOLATE stood in the effective action set (R101) -/
  silenced : Bool
  delay : Nat
  rtRange : Bool
  assign : Assign
deriving DecidableEq, Repr

/-! ## DLC (Chapters 2 and 3) -/

/-- Runtime state of a carrier (R37). -/
inductive CarrierState where
  | absent | active | lost | held
deriving DecidableEq, Repr

/-- One entry of a summand list (R39, R43). -/
structure Summand where
  carrier : CarrierId
  /-- effective carrier gain G_c (R42) -/
  gain : Nat
  contributing : Bool
deriving DecidableEq, Repr

/-- The port-lane fields of a downlink frame record (R39). -/
structure LaneRecord where
  summands : List Summand
  trim : Nat
  factor : Nat
  output : Nat
deriving DecidableEq, Repr

/-- A port's downlink frame record (R39). -/
structure PortRecord where
  combining : Bool
  swap : Bool
  /-- MUTE in the effective action set when the record was formed (R48) -/
  mute : Bool
  lanes : Vector LaneRecord 4
deriving DecidableEq, Repr

/-- The downlink combiner. -/
structure Dlc where
  /-- combining state: COMBINING or SILENT (R40) -/
  combining : Vector Bool 24
  records : Vector PortRecord 24
  /-- clip counters (R50) -/
  clips : Vector (Vector Nat 4) 24
  /-- runtime state of each carrier (R37) -/
  carriers : Vector CarrierState 32
  /-- operator hold flags (R38) -/
  holds : Vector Bool 6
deriving DecidableEq, Repr

/-! ## PLM (Chapter 4) -/

/-- Class of a completed frame (R57). -/
inductive FrameClass where
  | excess | between | clean
deriving DecidableEq, Repr

/-- Limiter state of one port-lane (R55). -/
structure LaneLimiter where
  powerSum : Nat
  power : Nat
  cls : FrameClass
  /-- limiter factor L, 512..4096 -/
  factor : Nat
  hold : Nat
  overdrive : Nat
  attack : Nat
  /-- MODEL: the hold count has reached the hold frames; HOLD_RESTORE is due (R60) -/
  restoreDue : Bool
deriving DecidableEq, Repr

/-- Limiter state of one port (R55). -/
structure PortLimiter where
  lanes : Vector LaneLimiter 4
  /-- the overdrive flag is PRESENT (R63) -/
  flag : Bool
  /-- clean count, 0..16 (R63) -/
  clean : Nat
  /-- MODEL: cleared at the boundary under way before PLM's update (R65, R66) -/
  cleared : Bool
deriving DecidableEq, Repr

/-! ## DEQ (Chapter 5) -/

/-- Sector equalization record (R68). -/
structure SectorEq where
  target : Nat
  counted : Nat
  least : Nat
deriving DecidableEq, Repr

/-- Port equalization record and the two delay lines, newest sample first (R68). -/
structure PortEq where
  countedIn : Option SectorId
  delayTaken : Nat
  /-- compensation c_p, 0..1023 -/
  comp : Nat
  compRange : Bool
  rtTaken : Bool
  /-- DELAY_RANGE state is PRESENT -/
  range : Bool
  steps : Nat
  downLine : List Quad
  upLine : List Quad
deriving DecidableEq, Repr

/-- The delay equalizer. -/
structure Deq where
  sectors : Vector SectorEq 12
  ports : Vector PortEq 24
deriving DecidableEq, Repr

/-! ## ULC (Chapter 6) -/

/-- Why a port-lane does not contribute to a sector (R81, R83). -/
inductive Reason where
  | none | link | frame | lane | action | loop | gate
deriving DecidableEq, Repr

/-- One entry of a contributor list (R82). It contributes when its reason is NONE. -/
structure Contributor where
  port : PortId
  gain : Nat
  reason : Reason
deriving DecidableEq, Repr

/-- One entry of the carrier list of an uplink frame record (R82). -/
structure CarrierEntry where
  carrier : CarrierId
  gain : Nat
  active : Bool
deriving DecidableEq, Repr

/-- The uplink frame record of a sector-lane (R82), with the composite Z at the last sample instant (R81). -/
structure SectorLane where
  contributors : List Contributor
  carriers : List CarrierEntry
  gated : Bool
  z : Sample
deriving DecidableEq, Repr

/-- Gate states (R88). -/
inductive GateState where
  | opened | holding | closed
deriving DecidableEq, Repr

/-- The gate of a port-lane (R81, R88). -/
structure Gate where
  state : GateState
  count : Nat
deriving DecidableEq, Repr

/-- The uplink combiner. -/
structure Ulc where
  records : Vector (Vector SectorLane 4) 12
  gates : Vector (Vector Gate 4) 24
  /-- exclusion reason of port-lane (p, b) in sector s for the frame under way; none where the port has no
  entry for the sector (R81, R83) -/
  reasons : Vector (Vector (Vector (Option Reason) 12) 4) 24
  /-- uplink clip counters (R87) -/
  clips : Vector Nat 32
deriving DecidableEq, Repr

/-! ## LVM (Chapter 7) -/

/-- Last window record of a meter (R94). -/
structure LastWindow where
  mean : Nat
  code : Nat
  net : Nat
  held : Nat
  void : Bool
deriving DecidableEq, Repr

/-- Extremes record; empty while the count is 0 (R99). -/
structure Extremes where
  largest : Nat
  smallest : Nat
  count : Nat
deriving DecidableEq, Repr

/-- One level meter (R94). -/
structure Meter where
  integrator : Nat
  lastGood : Option Nat
  acc : Nat
  held : Nat
  last : LastWindow
  extremes : Extremes
deriving DecidableEq, Repr

/-- Loop-test record (R104). -/
inductive LoopTest where
  | none
  | pending (tag : Byte)
  | running (tag : Byte)
deriving DecidableEq, Repr

/-- LVM's state of one port (R94). -/
structure PortMeter where
  meters : Vector Meter 4
  void : Bool
  /-- activity a_p -/
  activity : Nat
  /-- smoothed activity A_p -/
  smoothed : Nat
  loop : LoopTest
  /-- MODEL: the meters were cleared at the boundary under way before its window end (R110) -/
  cleared : Bool
deriving DecidableEq, Repr

/-- The level meters. -/
structure Lvm where
  ports : Vector PortMeter 24
  windowCount : Nat
  windowNumber : BitVec 32
deriving DecidableEq, Repr

/-! ## SBL (Chapter 8) -/

/-- Cause of a move (R120). -/
inductive MoveCause where
  | auto | returning | manual
deriving DecidableEq, Repr

/-- A queue entry (R120), an advice entry (R119) and a candidate (R114). -/
structure MoveEntry where
  port : PortId
  source : SectorId
  target : SectorId
  cause : MoveCause
deriving DecidableEq, Repr

/-- Cause recorded when a move is marked ENDING (R126). -/
inductive EndingCause where
  | link | action | cancel
deriving DecidableEq, Repr

/-- The move record (R124). `ending` is none while the move is RAMPING. -/
structure MoveRecord where
  entry : MoveEntry
  /-- ramp length R in frames -/
  length : Nat
  /-- step k -/
  step : Nat
  ending : Option EndingCause
  /-- hub second count at the start -/
  stamp : Nat
deriving DecidableEq, Repr

/-- Outcome and detail of a logged move (R123, R127, R128). -/
inductive MoveOutcome where
  | done
  | refusedNotUp | refusedTargetFull | refusedSourceMin | refusedSpread | refusedAction
  | abandonedLink | abandonedAction | abandonedCancel | abandonedActivation | abandonedReset
  | cancelledRequest | cancelledActivation | cancelledReset
deriving DecidableEq, Repr

/-- A move log entry (R128). -/
structure LogEntry where
  sequence : BitVec 32
  entry : MoveEntry
  outcome : MoveOutcome
  stamp : Nat
deriving DecidableEq, Repr

/-- Why a port last woke (R131). -/
inductive WakeCause where
  | none | level | move | fault | request | reset | link | table
deriving DecidableEq, Repr

/-- SBL's state of one port (R112). -/
structure PortBalance where
  assign : Assign
  holdOff : Nat
  returns : Nat
  quiet : Bool
  quietCount : Nat
  wakeCause : WakeCause
  /-- MODEL: the quiet count reached the SITE quiet count at this balance interval; QUIET_ENTRY is due -/
  quietDue : Bool
deriving DecidableEq, Repr

/-- SBL's state of one sector (R112, R115). -/
structure SectorBalance where
  workLoad : Nat
  workCount : Nat
  lastLoad : Nat
  overloaded : Bool
deriving DecidableEq, Repr

/-- The sector balancer. -/
structure Sbl where
  ports : Vector PortBalance 24
  sectors : Vector SectorBalance 12
  flight : Option MoveRecord
  queue : List MoveEntry
  log : List LogEntry
  logSequence : BitVec 32
  advice : List MoveEntry
  /-- hub second count of the interval that made the advice list (R119) -/
  adviceStamp : Nat
  intervalCount : Nat
  skips : Nat
  /-- MODEL: the second mark of this boundary is a balance interval that has not been taken yet (R114) -/
  intervalDue : Bool
deriving DecidableEq, Repr

/-! ## FSV and CTE (Chapter 9) -/

/-- State of a fault record (R136). -/
inductive RecordState where
  | idle | active | cooling | latched
deriving DecidableEq, Repr

/-- A fault record (R136). -/
structure FaultRecord where
  state : RecordState
  /-- the condition is PRESENT -/
  present : Bool
  occurrences : Nat
  retries : Nat
  timer : Nat
  /-- MODEL: the timer was set at the boundary under way, so this boundary's second mark does not
  lower it (R136) -/
  fresh : Bool
deriving DecidableEq, Repr

/-- FSV's own detectors of one port (R139 to R141). -/
structure Detectors where
  /-- overload run, 0..255 windows -/
  run : Nat
  /-- silence count, 0..3,600 seconds -/
  silence : Nat
  /-- the silent-second mark -/
  silentMark : Bool
  /-- MODEL: the evaluation at this boundary presents CRC_RATE -/
  crcDue : Bool
  /-- MODEL: the evaluation at this boundary presents UL_OVERLOAD -/
  overloadDue : Bool
  /-- MODEL: the evaluation at this boundary presents UL_SILENT -/
  silentDue : Bool
deriving DecidableEq, Repr

/-- History transitions (R147). -/
inductive Transition where
  | detected | retryExpired | escalated | latched | cleared
deriving DecidableEq, Repr

/-- An entry of the fault history (R148). -/
structure HistoryEntry where
  key : FaultKey
  transition : Transition
  stamp : Nat
deriving DecidableEq, Repr

/-- The fault supervisor without the transaction engine. -/
structure Fsv where
  portRecords : Vector (Vector FaultRecord 8) 24
  donorRecords : Vector FaultRecord 8
  detectors : Vector Detectors 24
  history : List HistoryEntry
  /-- lost count (R148) -/
  lost : Nat
deriving DecidableEq, Repr

/-- Kinds of RAU transaction (R150). -/
inductive TxKind where
  | identify | status
deriving DecidableEq, Repr

/-- The transaction record (R150). -/
structure Transaction where
  port : PortId
  kind : TxKind
  attempt : Nat
  sequence : BitVec 8
  remaining : Nat
deriving DecidableEq, Repr

/-- Fields of the last good identify (R150, R154). -/
structure IdentifyInfo where
  rauClass : Byte
  mask : LaneMask
  serial : BitVec 32
deriving DecidableEq, Repr

/-- Fields of the last status reply (R150, R154). -/
structure StatusInfo where
  alarms : BitVec 16
  /-- degrees Celsius in two's complement -/
  temperature : Byte
  paOn : LaneMask
  stamp : Nat
deriving DecidableEq, Repr

/-- The CTE's state of one port (R150). -/
structure PortCte where
  pending : Bool
  hold : Bool
  nextAttempt : Nat
  misses : Nat
  identify : Option IdentifyInfo
  status : Option StatusInfo
  /-- MODEL: the control field of the GOOD frame handed on at this boundary (R12) -/
  field : Option (List Byte)
deriving DecidableEq, Repr

/-- The control transaction engine. -/
structure Cte where
  transaction : Option Transaction
  sequence : BitVec 8
  ports : Vector PortCte 24
  priority : Vector Bool 24
  priorityPos : Nat
  /-- the regular pass: none when IDLE, else its position (R152) -/
  pass : Option Nat
  passWaiting : Bool
  pollCount : Nat
  /-- MODEL: the second mark of this boundary is a poll interval that has not been taken yet (R152) -/
  pollDue : Bool
deriving DecidableEq, Repr

/-! ## MGA and TLD (Chapters 10 and 11) -/

/-- The five tables (R22), in the order of their codes (R179). -/
inductive TableId where
  | site | sector | carrier | port | response
deriving DecidableEq, Repr

/-- The checks of R29 and R30, in the order of their codes (R182). -/
inductive CheckName where
  | range | pad | alternates | memberLimits | markOrder | donorPolicy
  | carrierHome | portSectors | memberCount | laneCarriers
deriving DecidableEq, Repr

/-- Kinds of first error of a load (R162). -/
inductive LoadErrorKind where
  | sequence | crcMismatch | lateCell
deriving DecidableEq, Repr

/-- Cause of an ABANDONED load (R164). -/
inductive AbandonCause where
  | request | trunk | restart
deriving DecidableEq, Repr

/-- Outcome and detail of a load (R163 to R165). -/
inductive LoadOutcome where
  | failed (burst : Nat) (kind : LoadErrorKind)
  | length (received : Nat)
  | unchecked (burst : Nat)
  | rejected (check : CheckName) (idx : Nat)
  | scheduled
  | timeout
  | abandoned (cause : AbandonCause)
  | activated
deriving DecidableEq, Repr

/-- The last outcome record (R159). -/
structure LastOutcome where
  table : TableId
  outcome : LoadOutcome
  stamp : Nat
deriving DecidableEq, Repr

/-- Phase of the table loader (R159). -/
inductive Phase where
  | none | opened | closing
deriving DecidableEq, Repr

/-- The five active images (R22). -/
structure Tables where
  site : List Byte
  sector : List Byte
  carrier : List Byte
  port : List Byte
  response : List Byte
deriving DecidableEq, Repr

/-- The table loader (R22, R159). -/
structure Tld where
  tables : Tables
  carrierLoaded : Bool
  sectorLoaded : Bool
  portLoaded : Bool
  phase : Phase
  /-- table and declared length of the load (R159 gives no value at power-on) -/
  table : TableId
  declared : Nat
  image : List Byte
  received : Nat
  expectedTag : BitVec 8
  burstsClosed : Nat
  burstCells : Nat
  burstCrc : BitVec 16
  firstError : Option (Nat × LoadErrorKind)
  silence : Nat
  scheduled : Option (TableId × List Byte)
  /-- MODEL: a boundary has begun since the image was scheduled, so its activation is due (R165) -/
  scheduledRipe : Bool
  last : Option LastOutcome
  stray : Nat
deriving DecidableEq, Repr

/-- Hub state (R167). -/
inductive HubState where
  | config | service
deriving DecidableEq, Repr

/-- A trunk control cell as received (R179): type, tag, length and the 12 payload bytes. -/
structure Cell where
  type : Byte
  tag : Byte
  length : Byte
  payload : List Byte
deriving DecidableEq, Repr

/-- Status codes of a response (R179). -/
inductive Status where
  | ok | refused | notInService | badRequest | timeout
deriving DecidableEq, Repr

/-- A queued response: its tag, status and payload bytes (R179). -/
structure Response where
  tag : Byte
  status : Status
  /-- number of payload bytes used, 0..12 -/
  used : Nat
  payload : List Byte
deriving DecidableEq, Repr

/-- What keeps the agent busy (R170). -/
inductive Busy where
  | enterService (tag : Byte)
  | operatorHold (tag : Byte) (op : OperatorId)
  | operatorRelease (tag : Byte) (op : OperatorId)
  /-- MEASURE_DELAY accepted, its measurement not started yet (R19) -/
  | measureStart (tag : Byte) (p : PortId)
  /-- MEASURE_DELAY waiting on a running measurement -/
  | measuring (p : PortId)
  | loopTest (p : PortId)
  | portReset (tag : Byte) (p : PortId)
  | restart
deriving DecidableEq, Repr

/-- The seven notice classes in order of priority (R174). -/
inductive Notice where
  | fault | overrun | load | move | link | advice | quiet
deriving DecidableEq, Repr

/-- The management agent without the table loader. -/
structure Mga where
  hubState : HubState
  /-- frame count toward the next second mark, 0..15,999 (R167) -/
  frameCount : Nat
  /-- hub second count, 32-bit saturating (R167) -/
  seconds : Nat
  /-- request queue: the REQUEST cells, oldest first, at most 4 (R169) -/
  requests : List Cell
  /-- response queue, oldest first, at most 8 (R171) -/
  responses : List Response
  busy : Option Busy
  /-- MODEL: a boundary has begun since the busy request was taken, so its effect is due -/
  busyRipe : Bool
  /-- pending marks, index = priority − 1 (R174) -/
  marks : Vector Bool 7
  overrun : Nat
  unexpected : Nat
  /-- MODEL: the cell handed on at this boundary, not yet acted on (R169) -/
  cell : Option Cell
  /-- the cell supplied for the trunk frame under way (R16, R171) -/
  sent : List Byte
deriving DecidableEq, Repr

/-! ## The boundary under way -/

/-- MODEL: which of the boundary's updates have been taken. All its events are taken between the end of
one frame and the beginning of the next; `isOpen` is true in that interval. -/
structure Boundary where
  isOpen : Bool
  limiterDone : Bool
  deqDone : Bool
  joinDone : Bool
  supplyDone : Bool
  /-- the engine has made its selection of this boundary (R151); the model allows no second one (log 55) -/
  selectDone : Bool
  /-- a move was in flight when the boundary began, or the queue has been considered, empty or not (R123) -/
  headSeen : Bool
  /-- ENTER_SERVICE has taken effect at this boundary, so its second mark is not counted (R133) -/
  serviceBegun : Bool
  /-- a ramp step is due at this boundary (R125) -/
  rampDue : Bool
  /-- the abandonment of a move marked at an earlier boundary is due (R127) -/
  abandonDue : Bool
  /-- the tables that a TABLE_ACTIVATION of this boundary replaced, whose parameters its window end, balance
  interval and second mark still take (R31) -/
  before : Option Tables
deriving DecidableEq, Repr

/-- The hub: its nine blocks, and the model's view of the frame and the boundary under way. -/
structure Hub where
  lnk : Lnk
  dlc : Dlc
  plm : Vector PortLimiter 24
  deq : Deq
  ulc : Ulc
  lvm : Lvm
  sbl : Sbl
  fsv : Fsv
  cte : Cte
  mga : Mga
  tld : Tld
  /-- MODEL: inputs of the frame under way -/
  frame : Vector FrameInput 24
  /-- MODEL: the boundary under way -/
  bd : Boundary
deriving DecidableEq, Repr

/-- The machine: the hub and the commands that wait, first in, first out. -/
structure State where
  hub : Hub
  pending : List Instr
deriving DecidableEq, Repr

/-! ## Power-on values -/

/-- A link in `st` with cleared alignment and counters. -/
def LinkCore.init (st : LinkState) (signal : Bool) : LinkCore :=
  { state := st, signal := signal, good := 0, bad := 0, cand := none, last := none, errored := 0, slips := 0,
    drops := 0, handed := false, arrival := none, verdict := none, samples := [] }

/-- An IDLE measurement record (R20). DESIGN CHOICE (log 32): the manual gives the other fields no value before
the first measurement; the model takes origin ENTRY, taken 0, no minimum and elapsed 0. -/
def Measurement.init : Measurement :=
  { running := false, origin := .entry, taken := 0, minimum := none, elapsed := 0 }

/-- A remote port at power-on (R20). -/
def RemoteLink.init (st : LinkState) (signal : Bool) : RemoteLink :=
  { core := .init st signal, mask := 0, erroredSec := 0, meas := .init, delay := 0, lastRT := 0,
    rtRange := false }

/-- The frame that the hub sends in hub frame 0 on a donor link or the trunk: marker, frame number 0, no
echo, empty lane mask, `n` zero bytes of control part and payload, and their CRC (R1, R6, R16, R177). -/
def firstFrame (n : Nat) (crc : List Byte) : List Byte :=
  [0xE4, 0x1B, 0x7D, 0x28, 0, 0, 0, 0] ++ List.replicate n 0 ++ crc

/-- LNK at power-on (R20), with the receivers reporting no light. -/
def Lnk.init : Lnk :=
  { frameNumber := 0
    remote := .replicate 24 (.init .disabled false)
    donor := .replicate 8 (.init .down false)
    trunk := .init .down false
    sentRemote := .replicate 24 none
    sentDonor := .replicate 8 (firstFrame 4104 [0xBC, 0x01])
    sentTrunk := firstFrame 16 [0x61, 0x51] }

/-- The inputs of a frame in which the port is DISABLED. -/
def FrameInput.init : FrameInput :=
  { link := .disabled, mask := 0, verdict := none, combining := false, silenced := false,
    delay := 0, rtRange := false, assign := .none }

/-- A lane of the frame record of a SILENT port. -/
def LaneRecord.init : LaneRecord := { summands := [], trim := 0, factor := 4096, output := 0 }

/-- The frame record of a SILENT port. -/
def PortRecord.init : PortRecord :=
  { combining := false, swap := false, mute := false, lanes := .replicate 4 .init }

/-- DLC at power-on (R37, R38, R40, R50). -/
def Dlc.init : Dlc :=
  { combining := .replicate 24 false
    records := .replicate 24 .init
    clips := .replicate 24 (.replicate 4 0)
    carriers := .replicate 32 .absent
    holds := .replicate 6 false }

/-- A port-lane limiter at power-on (R55), with the given attack counter. -/
def LaneLimiter.init (attack : Nat) : LaneLimiter :=
  { powerSum := 0, power := 0, cls := .clean, factor := 4096, hold := 0, overdrive := 0,
    attack := attack, restoreDue := false }

/-- A port's limiter at power-on (R55). -/
def PortLimiter.init : PortLimiter :=
  { lanes := .replicate 4 (.init 0), flag := false, clean := 0, cleared := false }

/-- A delay line of 1024 zeros (R68). -/
def zeroLine : List Quad := List.replicate 1024 Quad.zero

/-- A sector equalization record at power-on (R68). -/
def SectorEq.init : SectorEq := { target := 0, counted := 0, least := 0 }

/-- A port equalization record at power-on (R68). -/
def PortEq.init : PortEq :=
  { countedIn := none, delayTaken := 0, comp := 0, compRange := false, rtTaken := false,
    range := false, steps := 0, downLine := zeroLine, upLine := zeroLine }

/-- DEQ at power-on (R68). -/
def Deq.init : Deq := { sectors := .replicate 12 .init, ports := .replicate 24 .init }

/-- An empty uplink frame record (R81). -/
def SectorLane.init : SectorLane :=
  { contributors := [], carriers := [], gated := false, z := .zero }

/-- A closed gate (R81). -/
def Gate.closed : Gate := { state := .closed, count := 0 }

/-- ULC at power-on (R81). -/
def Ulc.init : Ulc :=
  { records := .replicate 12 (.replicate 4 .init)
    gates := .replicate 24 (.replicate 4 .closed)
    reasons := .replicate 24 (.replicate 4 (.replicate 12 (some .link)))
    clips := .replicate 32 0 }

/-- The last window record at power-on (R94). -/
def LastWindow.init : LastWindow := { mean := 0, code := 0, net := 0, held := 0, void := false }

/-- An empty extremes record (R99). -/
def Extremes.empty : Extremes := { largest := 0, smallest := 0, count := 0 }

/-- A cleared meter (R94). -/
def Meter.init : Meter :=
  { integrator := 0, lastGood := none, acc := 0, held := 0, last := .init, extremes := .empty }

/-- A port's meters at power-on (R94). -/
def PortMeter.init : PortMeter :=
  { meters := .replicate 4 .init, void := false, activity := 0, smoothed := 0, loop := .none,
    cleared := false }

/-- LVM at power-on (R94). -/
def Lvm.init : Lvm := { ports := .replicate 24 .init, windowCount := 0, windowNumber := 0 }

/-- SBL's port state at power-on (R112). -/
def PortBalance.init : PortBalance :=
  { assign := .none, holdOff := 0, returns := 0, quiet := false, quietCount := 0,
    wakeCause := .none, quietDue := false }

/-- SBL's sector state at power-on (R112). -/
def SectorBalance.init : SectorBalance :=
  { workLoad := 0, workCount := 0, lastLoad := 0, overloaded := false }

/-- SBL at power-on (R112). -/
def Sbl.init : Sbl :=
  { ports := .replicate 24 .init, sectors := .replicate 12 .init, flight := none, queue := [],
    log := [], logSequence := 0, advice := [], adviceStamp := 0, intervalCount := 0, skips := 0,
    intervalDue := false }

/-- A fault record at power-on (R136). -/
def FaultRecord.init : FaultRecord :=
  { state := .idle, present := false, occurrences := 0, retries := 0, timer := 0, fresh := false }

/-- Cleared detectors (R140, R141). -/
def Detectors.init : Detectors :=
  { run := 0, silence := 0, silentMark := false, crcDue := false, overloadDue := false,
    silentDue := false }

/-- FSV at power-on (R136, R148, R149). -/
def Fsv.init : Fsv :=
  { portRecords := .replicate 24 (.replicate 8 .init), donorRecords := .replicate 8 .init,
    detectors := .replicate 24 .init, history := [], lost := 0 }

/-- The CTE's port state at power-on (R150). -/
def PortCte.init : PortCte :=
  { pending := false, hold := false, nextAttempt := 1, misses := 0, identify := none,
    status := none, field := none }

/-- The CTE at power-on (R150). -/
def Cte.init : Cte :=
  { transaction := none, sequence := 0, ports := .replicate 24 .init,
    priority := .replicate 24 false, priorityPos := 0, pass := none, passWaiting := false,
    pollCount := 0, pollDue := false }

/-- The power-on SITE image (R180). -/
def siteImage : List Byte :=
  [0x00, 0x0A, 0x04, 0x03, 0x08, 0x08, 0x08, 0x08, 0x06, 0x05, 0x7F, 0, 0, 0, 0, 0]

/-- One record of the RESPONSE image: mode, actions, retry seconds, retry limit, parameter (R180). -/
def responseRecord (mode actions seconds limit : Byte) (param : BitVec 16) : List Byte :=
  [mode, actions, seconds, limit, (param >>> 8).setWidth 8, param.setWidth 8, 0, 0]

/-- The power-on RESPONSE image: the table of R28 in the layout of R180. -/
def responseImage : List Byte :=
  responseRecord 2 0 10 3 0 ++        -- LINK_LOSS     REPORT
  responseRecord 1 2 10 3 160 ++      -- CRC_RATE      RETRY, ISOLATE
  responseRecord 1 0 30 5 0 ++        -- RAU_NO_REPLY  RETRY
  responseRecord 1 2 5 3 8 ++         -- UL_OVERLOAD   RETRY, ISOLATE
  responseRecord 2 0 10 3 60 ++       -- UL_SILENT     REPORT
  responseRecord 0 1 10 3 0 ++        -- DL_OVERDRIVE  LATCHED, MUTE
  responseRecord 2 0 10 3 0 ++        -- RAU_ALARM     REPORT
  responseRecord 2 0 10 3 0 ++        -- DELAY_RANGE   REPORT
  responseRecord 2 0 10 3 0           -- DONOR_LOSS    REPORT

/-- The active images at power-on (R22). -/
def Tables.init : Tables :=
  { site := siteImage, sector := List.replicate 144 0, carrier := List.replicate 256 0,
    port := List.replicate 1152 0, response := responseImage }

/-- The table loader with no load, over the given images and loaded indications (R22, R159). -/
def Tld.init (t : Tables) (c s p : Bool) : Tld :=
  { tables := t, carrierLoaded := c, sectorLoaded := s, portLoaded := p, phase := .none,
    table := .site, declared := 0, image := [], received := 0, expectedTag := 0,
    burstsClosed := 0, burstCells := 0, burstCrc := 0x5A3C, firstError := none, silence := 0,
    scheduled := none, scheduledRipe := false, last := none, stray := 0 }

/-- The management agent at power-on (R167, R169, R171, R174, R176). -/
def Mga.init : Mga :=
  { hubState := .config, frameCount := 0, seconds := 0, requests := [], responses := [],
    busy := none, busyRipe := false, marks := .replicate 7 false, overrun := 0, unexpected := 0,
    cell := none, sent := List.replicate 16 0 }

/-- No boundary under way. -/
def Boundary.init : Boundary :=
  { isOpen := false, limiterDone := false, deqDone := false, joinDone := false,
    supplyDone := false, selectDone := false, headSeen := false, serviceBegun := false,
    rampDue := false, abandonDue := false, before := none }

/-- The hub at power-on, with no light on any link. -/
def Hub.init : Hub :=
  { lnk := .init, dlc := .init, plm := .replicate 24 .init, deq := .init, ulc := .init,
    lvm := .init, sbl := .init, fsv := .init, cte := .init, mga := .init,
    tld := .init .init false false false, frame := .replicate 24 .init, bd := .init }

/-- The machine right after power-on: the manual's power-on state, no command waiting. -/
def State.reset : State := { hub := .init, pending := [] }

end Sys2Proof.Machine
end

