-- ==== Sys2Proof/Machine/Ops.lean ====
section
/-! DEFINITION. The manual's arithmetic (Conventions 4.3 to 4.5), byte order (Formats), the link CRC
(R6), and the updates of the hub's indexed items that every block uses. -/

namespace Sys2Proof

/-! ## Arithmetic (Conventions 4.4) -/

/-- round_shift(v, k): halves round toward plus infinity. -/
def roundShift (v : Int) (k : Nat) : Int :=
  if k = 0 then v else (v + 2 ^ (k - 1)) / 2 ^ k

/-- Clamp into lo..hi. -/
def clampInt (lo hi v : Int) : Int := max lo (min hi v)

/-- sat16. -/
def sat16 (v : Int) : Int := clampInt (-32768) 32767 v

/-- sat21. -/
def sat21 (v : Int) : Int := clampInt (-1048576) 1048575 v

/-- The level code LC(x). -/
def levelCode (x : Nat) : Nat :=
  if x < 4 then 0 else
    let n := Nat.log2 x
    4 * n + (x / 2 ^ (n - 2) - 4)

/-- A 32-bit saturating counter raised by `k` (Conventions 4.5). -/
def sat32 (c k : Nat) : Nat := min (c + k) 0xFFFFFFFF

/-- A count raised by one, up to `top`. -/
def bump (top c : Nat) : Nat := min (c + 1) top

/-- I² + Q², the power of a sample (Conventions 4.3). -/
def Sample.power (x : Sample) : Nat := (x.i * x.i + x.q * x.q).toNat

/-- `f` applied to I and to Q (Conventions 4.3). -/
def Sample.map (f : Int → Int) (x : Sample) : Sample := ⟨f x.i, f x.q⟩

/-- Sum of samples, part by part. -/
def Sample.add (x y : Sample) : Sample := ⟨x.i + y.i, x.q + y.q⟩

/-- round_shift(x × g, 12): a sample scaled by a gain or weight in units of 1/4096. -/
def Sample.scale (x : Sample) (g : Nat) : Sample := x.map fun v => roundShift (v * g) 12

/-- I and Q exchanged when `b` (R51). -/
def Sample.swapIf (b : Bool) (x : Sample) : Sample := if b then ⟨x.q, x.i⟩ else x

/-- How many of the two parts `f` changes (R49, R87). -/
def Sample.changed (f : Int → Int) (x : Sample) : Nat :=
  (if f x.i = x.i then 0 else 1) + (if f x.q = x.q then 0 else 1)

/-! ## Bytes (Formats, opening: most significant byte first) -/

/-- Byte `i` of `bs` as a number; 0 beyond the end. -/
def byteAt (bs : List Byte) (i : Nat) : Nat := (bs.getD i 0).toNat

/-- The 16-bit number at byte `i`. -/
def word16At (bs : List Byte) (i : Nat) : Nat := byteAt bs i * 256 + byteAt bs (i + 1)

/-- The 24-bit number at byte `i`. -/
def word24At (bs : List Byte) (i : Nat) : Nat := word16At bs i * 256 + byteAt bs (i + 2)

/-- The signed 16-bit value at byte `i` (R177). -/
def int16At (bs : List Byte) (i : Nat) : Int := (BitVec.ofNat 16 (word16At bs i)).toInt

/-- Bit `k` of byte `i`. -/
def bitAt (bs : List Byte) (i k : Nat) : Bool := (bs.getD i 0).getLsbD k

/-- The number `v` in `n` bytes, most significant first. -/
def toBytes : Nat → Nat → List Byte
  | 0, _ => []
  | n + 1, v => BitVec.ofNat 8 (v / 256 ^ n) :: toBytes n v

/-- A signed value in two bytes, two's complement. -/
def int16Bytes (v : Int) : List Byte := toBytes 2 (BitVec.ofInt 16 v).toNat

/-- 1 for yes, set and PRESENT, 0 otherwise (R181). -/
def boolByte (b : Bool) : Byte := if b then 1 else 0

/-- Bytes `n` at a time from `start`, padded with zeros to `n` bytes. -/
def sliceZ (bs : List Byte) (start n : Nat) : List Byte :=
  let part := (bs.drop start).take n
  part ++ List.replicate (n - part.length) 0

/-- A set as a bit mask: bit k for item k (R181). -/
def maskNat {n : Nat} (f : Fin n → Bool) : Nat :=
  (List.finRange n).foldl (fun acc i => acc + if f i then 2 ^ i.val else 0) 0

/-! ## The link CRC (R6) -/

/-- One data bit into the CRC register (R6). -/
def crcBit (crc : BitVec 16) (bit : Bool) : BitVec 16 :=
  if crc.getLsbD 15 ^^ bit then (crc <<< 1) ^^^ 0x8005 else crc <<< 1

/-- One byte into the CRC register, bit 7 first (R6). -/
def crcByte (crc : BitVec 16) (b : Byte) : BitVec 16 :=
  [7, 6, 5, 4, 3, 2, 1, 0].foldl (fun c k => crcBit c (b.getLsbD k)) crc

/-- The register after `bs`. -/
def crcFrom (crc : BitVec 16) (bs : List Byte) : BitVec 16 := bs.foldl crcByte crc

/-- The link CRC of `bs`, seed 0x5A3C (R6). -/
def crc16 (bs : List Byte) : BitVec 16 := crcFrom 0x5A3C bs

/-! ## Codes of enumerations used as indices -/

/-- Class order of R28 and R182. -/
def PortClass.idx : PortClass → Fin 8
  | .linkLoss => 0 | .crcRate => 1 | .rauNoReply => 2 | .ulOverload => 3
  | .ulSilent => 4 | .dlOverdrive => 5 | .rauAlarm => 6 | .delayRange => 7

/-- All eight port classes, in class order. -/
def PortClass.all : List PortClass :=
  [.linkLoss, .crcRate, .rauNoReply, .ulOverload, .ulSilent, .dlOverdrive, .rauAlarm, .delayRange]

/-- Record number of a key in the RESPONSE table (R28): a donor's is DONOR_LOSS, 8. -/
def FaultKey.row : FaultKey → Nat
  | .port _ c => c.idx.val
  | .donor _ => 8

end Sys2Proof

namespace Sys2Proof.Machine

/-- Priority − 1 of a notice class (R174). -/
def Notice.idx : Notice → Fin 7
  | .fault => 0 | .overrun => 1 | .load => 2 | .move => 3 | .link => 4 | .advice => 5 | .quiet => 6

/-! ## Updates of one item -/

/-- Change LNK's state of remote port `p`. -/
def Hub.onRemote (h : Hub) (p : PortId) (f : RemoteLink → RemoteLink) : Hub :=
  { h with lnk := { h.lnk with remote := upd h.lnk.remote p f } }

/-- The common link state of a link. -/
def Hub.core (h : Hub) : LinkId → LinkCore
  | .remote p => h.lnk.remote[p].core
  | .donor d => h.lnk.donor[d]
  | .trunk => h.lnk.trunk

/-- Change the common link state of a link. -/
def Hub.onCore (h : Hub) (l : LinkId) (f : LinkCore → LinkCore) : Hub :=
  match l with
  | .remote p => h.onRemote p fun r => { r with core := f r.core }
  | .donor d => { h with lnk := { h.lnk with donor := upd h.lnk.donor d f } }
  | .trunk => { h with lnk := { h.lnk with trunk := f h.lnk.trunk } }

/-- Link state of remote port `p`. -/
def Hub.linkOf (h : Hub) (p : PortId) : LinkState := h.lnk.remote[p].core.state

/-- Remote port `p` is UP. -/
def Hub.isUp (h : Hub) (p : PortId) : Bool := h.linkOf p = .up

/-- A link state that is aligned: PROVING or UP (R5). -/
def LinkState.aligned : LinkState → Bool
  | .proving => true
  | .up => true
  | _ => false

/-- Change a port's limiter. -/
def Hub.onPlm (h : Hub) (p : PortId) (f : PortLimiter → PortLimiter) : Hub :=
  { h with plm := upd h.plm p f }

/-- Change a port's equalization record. -/
def Hub.onEq (h : Hub) (p : PortId) (f : PortEq → PortEq) : Hub :=
  { h with deq := { h.deq with ports := upd h.deq.ports p f } }

/-- Change a port's meters. -/
def Hub.onMeter (h : Hub) (p : PortId) (f : PortMeter → PortMeter) : Hub :=
  { h with lvm := { h.lvm with ports := upd h.lvm.ports p f } }

/-- Change SBL's state of a port. -/
def Hub.onBal (h : Hub) (p : PortId) (f : PortBalance → PortBalance) : Hub :=
  { h with sbl := { h.sbl with ports := upd h.sbl.ports p f } }

/-- Change a port's detectors. -/
def Hub.onDet (h : Hub) (p : PortId) (f : Detectors → Detectors) : Hub :=
  { h with fsv := { h.fsv with detectors := upd h.fsv.detectors p f } }

/-- Change the CTE's state of a port. -/
def Hub.onCte (h : Hub) (p : PortId) (f : PortCte → PortCte) : Hub :=
  { h with cte := { h.cte with ports := upd h.cte.ports p f } }

/-- Change the gates of a port. -/
def Hub.onGates (h : Hub) (p : PortId) (f : Vector Gate 4 → Vector Gate 4) : Hub :=
  { h with ulc := { h.ulc with gates := upd h.ulc.gates p f } }

/-- Set a port's combining state (R40). -/
def Hub.setCombining (h : Hub) (p : PortId) (b : Bool) : Hub :=
  { h with dlc := { h.dlc with combining := h.dlc.combining.set p.val b p.isLt } }

/-- The hub is in SERVICE (R167). -/
def Hub.inService (h : Hub) : Bool := h.mga.hubState = .service

/-- Raise a notice class: set its pending mark (R174). -/
def Hub.raise (h : Hub) (n : Notice) : Hub :=
  { h with mga := { h.mga with marks := h.mga.marks.set n.idx.val true n.idx.isLt } }

/-- Clear a notice class's pending mark (R174). -/
def Hub.unmark (h : Hub) (n : Notice) : Hub :=
  { h with mga := { h.mga with marks := h.mga.marks.set n.idx.val false n.idx.isLt } }

/-- A command's outcome when it changes the hub by `f` and leaves the waiting commands alone. -/
def State.onHub (s : State) (f : Hub → Hub) : Host.Outcome State Fault Refusal :=
  .next { s with hub := f s.hub }

/-! ## Responses (R170, R171, R179) -/

/-- Queue a response: a non-OK response carries the reason code in payload byte 0 (R179). -/
def Hub.respond (h : Hub) (tag : Byte) (status : Status) (reason : Byte) (report : List Byte) : Hub :=
  let payload := if status = .ok then report else reason :: report
  { h with mga := { h.mga with responses :=
      h.mga.responses ++ [{ tag := tag, status := status, used := payload.length, payload := payload }] } }

/-- Answer OK with a report. -/
def Hub.answerOk (h : Hub) (tag : Byte) (report : List Byte) : Hub := h.respond tag .ok 0 report

/-- Reason codes (R179). -/
inductive Why where
  | badArgument | inFlight | full | busy | present | notLoaded | crossCheck | badLength
deriving DecidableEq, Repr

/-- The code of a reason (R179). -/
def Why.code : Why → Byte
  | .badArgument => 1 | .inFlight => 2 | .full => 3 | .busy => 4
  | .present => 5 | .notLoaded => 6 | .crossCheck => 7 | .badLength => 8

/-- Answer REFUSED with a reason and a report. -/
def Hub.refuse (h : Hub) (tag : Byte) (w : Why) (report : List Byte) : Hub :=
  h.respond tag .refused w.code report

/-- The agent becomes busy with `b`; its effect is due from the next boundary on (R170). -/
def Hub.setBusy (h : Hub) (b : Busy) : Hub :=
  { h with mga := { h.mga with busy := some b, busyRipe := false } }

/-- A RESTART takes effect at this boundary and has not been taken yet (R173). -/
def Hub.restartDue (h : Hub) : Bool := h.mga.busy = some .restart && h.mga.busyRipe

/-- The agent is free again. -/
def Hub.free (h : Hub) : Hub := { h with mga := { h.mga with busy := none, busyRipe := false } }

end Sys2Proof.Machine
end

