-- ==== Sys2Proof/Machine/Tables.lean ====
section
/-! DEFINITION. The fields of the five tables, read from their images (R23 to R28, R180), and the two
stages of validation: own checks (R29) and cross checks (R30). -/

namespace Sys2Proof.Machine

/-- Image length of a table (R22). -/
def TableId.size : TableId → Nat
  | .site => 16 | .sector => 144 | .carrier => 256 | .port => 1152 | .response => 72

/-- Code of a table (R179). -/
def TableId.code : TableId → Byte
  | .site => 0 | .sector => 1 | .carrier => 2 | .port => 3 | .response => 4

/-- The table with a code, if the code is one of the five (R179). -/
def tableOf (code : Nat) : Option TableId :=
  match code with
  | 0 => some .site | 1 => some .sector | 2 => some .carrier | 3 => some .port
  | 4 => some .response | _ => none

/-- The image of a table. -/
def Tables.get (t : Tables) : TableId → List Byte
  | .site => t.site | .sector => t.sector | .carrier => t.carrier | .port => t.port
  | .response => t.response

/-- The tables with one image replaced whole (R31). -/
def Tables.put (t : Tables) (id : TableId) (img : List Byte) : Tables :=
  match id with
  | .site => { t with site := img }
  | .sector => { t with sector := img }
  | .carrier => { t with carrier := img }
  | .port => { t with port := img }
  | .response => { t with response := img }

/-! ## SITE (R23) -/

/-- Balancer mode (R23). -/
inductive BalancerMode where
  | off | advise | auto
deriving DecidableEq, Repr

/-- Balancer mode. -/
def Tables.mode (t : Tables) : BalancerMode :=
  match byteAt t.site 0 with
  | 1 => .advise | 2 => .auto | _ => .off
/-- Balance interval in seconds. -/
def Tables.interval (t : Tables) : Nat := byteAt t.site 1
/-- Meter window code k. -/
def Tables.windowCode (t : Tables) : Nat := byteAt t.site 2
/-- Window length W = 2^k frames (R95). -/
def Tables.window (t : Tables) : Nat := 2 ^ t.windowCode
/-- Smoothing α. -/
def Tables.alpha (t : Tables) : Nat := byteAt t.site 3
/-- Lane weight λ_b. -/
def Tables.lambda (t : Tables) (b : Lane) : Nat := byteAt t.site (4 + b.val)
/-- Quiet count. -/
def Tables.quietLimit (t : Tables) : Nat := byteAt t.site 8
/-- Status poll interval in seconds. -/
def Tables.pollInterval (t : Tables) : Nat := byteAt t.site 9
/-- A notice class is in the attention enable mask. -/
def Tables.attends (t : Tables) (n : Fin 7) : Bool := bitAt t.site 10 n.val

/-! ## SECTOR (R24) -/

/-- Sector enabled. -/
def Tables.sectorOn (t : Tables) (s : SectorId) : Bool := bitAt t.sector (12 * s.val) 0
/-- Sector gated. -/
def Tables.gated (t : Tables) (s : SectorId) : Bool := bitAt t.sector (12 * s.val) 1
/-- Min members. -/
def Tables.minMembers (t : Tables) (s : SectorId) : Nat := byteAt t.sector (12 * s.val + 1)
/-- Max members. -/
def Tables.maxMembers (t : Tables) (s : SectorId) : Nat := byteAt t.sector (12 * s.val + 2)
/-- Ramp code r. -/
def Tables.rampCode (t : Tables) (s : SectorId) : Nat := byteAt t.sector (12 * s.val + 3)
/-- Return count. -/
def Tables.returnCount (t : Tables) (s : SectorId) : Nat := byteAt t.sector (12 * s.val + 4)
/-- High mark. -/
def Tables.highMark (t : Tables) (s : SectorId) : Nat := word24At t.sector (12 * s.val + 6)
/-- Return mark. -/
def Tables.returnMark (t : Tables) (s : SectorId) : Nat := word24At t.sector (12 * s.val + 9)

/-! ## CARRIER (R25). A coded sector, operator or lane of a validated image is in range. -/

/-- Carrier enabled. -/
def Tables.carrierOn (t : Tables) (c : CarrierId) : Bool := byteAt t.carrier (8 * c.val) = 1
/-- Operator of a carrier. -/
def Tables.operator (t : Tables) (c : CarrierId) : OperatorId :=
  Fin.ofNat 6 (byteAt t.carrier (8 * c.val + 1))
/-- Band lane of a carrier. -/
def Tables.lane (t : Tables) (c : CarrierId) : Lane :=
  Fin.ofNat 4 (byteAt t.carrier (8 * c.val + 2))
/-- Home sector of a carrier. -/
def Tables.carrierHome (t : Tables) (c : CarrierId) : SectorId :=
  Fin.ofNat 12 (byteAt t.carrier (8 * c.val + 3))
/-- Downlink gain g. -/
def Tables.downGain (t : Tables) (c : CarrierId) : Nat := word16At t.carrier (8 * c.val + 4)
/-- Uplink gain ug. -/
def Tables.upGain (t : Tables) (c : CarrierId) : Nat := word16At t.carrier (8 * c.val + 6)

/-- Donor link of a carrier (R25). -/
def carrierDonor (c : CarrierId) : DonorId := ⟨c.val / 4, by omega⟩
/-- Slot of a carrier (R25). -/
def carrierSlot (c : CarrierId) : Fin 4 := ⟨c.val % 4, by omega⟩

/-! ## PORT (R26, R27) -/

/-- Limiter recovery modes (R26). -/
inductive LimiterMode where
  | next | step | hold
deriving DecidableEq, Repr

/-- First byte of a port's record. -/
def portBase (p : PortId) : Nat := 48 * p.val
/-- First byte of a port's lane group (R180). -/
def laneBase (p : PortId) (b : Lane) : Nat := 48 * p.val + 16 + 8 * b.val

/-- Port enabled. -/
def Tables.portOn (t : Tables) (p : PortId) : Bool := bitAt t.port (portBase p) 0
/-- Port pinned. -/
def Tables.pinned (t : Tables) (p : PortId) : Bool := bitAt t.port (portBase p) 1
/-- Quiet enabled. -/
def Tables.quietOn (t : Tables) (p : PortId) : Bool := bitAt t.port (portBase p) 2
/-- IQ swap. -/
def Tables.swap (t : Tables) (p : PortId) : Bool := bitAt t.port (portBase p) 3
/-- Limiter mode code, bits 5..4 of the flags. -/
def Tables.limiterCode (t : Tables) (p : PortId) : Nat := byteAt t.port (portBase p) / 16 % 4
/-- Limiter mode. -/
def Tables.limiterMode (t : Tables) (p : PortId) : LimiterMode :=
  match t.limiterCode p with
  | 0 => .next | 1 => .step | _ => .hold
/-- Home sector of a port. -/
def Tables.home (t : Tables) (p : PortId) : SectorId :=
  Fin.ofNat 12 (byteAt t.port (portBase p + 1))
/-- The present alternates in order (R26): an entry of 0xFF is absent. -/
def Tables.alternates (t : Tables) (p : PortId) : List SectorId :=
  ([2, 3, 4].map fun k => byteAt t.port (portBase p + k)).filterMap fun v =>
    if v = 0xFF then none else some (Fin.ofNat 12 v)
/-- Hold frames. -/
def Tables.holdFrames (t : Tables) (p : PortId) : Nat := byteAt t.port (portBase p + 5)
/-- Release step. -/
def Tables.releaseStep (t : Tables) (p : PortId) : Nat := word16At t.port (portBase p + 6)
/-- Hold-off in intervals. -/
def Tables.holdOff (t : Tables) (p : PortId) : Nat := byteAt t.port (portBase p + 8)
/-- Gate hold in windows. -/
def Tables.gateHold (t : Tables) (p : PortId) : Nat := byteAt t.port (portBase p + 9)
/-- Quiet mark. -/
def Tables.quietMark (t : Tables) (p : PortId) : Nat := word16At t.port (portBase p + 10)
/-- Wake level. -/
def Tables.wakeLevel (t : Tables) (p : PortId) : Nat := byteAt t.port (portBase p + 12)
/-- Quiet factor. -/
def Tables.quietFactor (t : Tables) (p : PortId) : Nat := word16At t.port (portBase p + 14)
/-- Trim T. -/
def Tables.trim (t : Tables) (p : PortId) (b : Lane) : Nat := word16At t.port (laneBase p b)
/-- Uplink port gain h. -/
def Tables.portGain (t : Tables) (p : PortId) (b : Lane) : Nat := word16At t.port (laneBase p b + 2)
/-- Ceiling code. -/
def Tables.ceiling (t : Tables) (p : PortId) (b : Lane) : Nat := byteAt t.port (laneBase p b + 4)
/-- Meter offset F. -/
def Tables.offset (t : Tables) (p : PortId) (b : Lane) : Nat := byteAt t.port (laneBase p b + 5)
/-- Gate level. -/
def Tables.gateLevel (t : Tables) (p : PortId) (b : Lane) : Nat := byteAt t.port (laneBase p b + 6)
/-- Overload level. -/
def Tables.overloadLevel (t : Tables) (p : PortId) (b : Lane) : Nat :=
  byteAt t.port (laneBase p b + 7)

/-! ## RESPONSE (R28) -/

/-- Response modes (R28). -/
inductive ResponseMode where
  | latched | retry | report | ignore
deriving DecidableEq, Repr

/-- A set of protective actions (R28). -/
structure ActionSet where
  mute : Bool
  isolate : Bool
  attenuate : Bool
deriving DecidableEq, Repr

/-- The empty action set. -/
def ActionSet.empty : ActionSet := ⟨false, false, false⟩
/-- Union of action sets. -/
def ActionSet.union (a b : ActionSet) : ActionSet :=
  ⟨a.mute || b.mute, a.isolate || b.isolate, a.attenuate || b.attenuate⟩
/-- The actions of `a` that are not in `b`. -/
def ActionSet.minus (a b : ActionSet) : ActionSet :=
  ⟨a.mute && !b.mute, a.isolate && !b.isolate, a.attenuate && !b.attenuate⟩
/-- MUTE or ISOLATE is in the set. -/
def ActionSet.silences (a : ActionSet) : Bool := a.mute || a.isolate

/-- Mode of the fault class with record `row`. -/
def Tables.responseMode (t : Tables) (row : Nat) : ResponseMode :=
  match byteAt t.response (8 * row) with
  | 0 => .latched | 1 => .retry | 2 => .report | _ => .ignore
/-- Action set of a class. -/
def Tables.responseActions (t : Tables) (row : Nat) : ActionSet :=
  ⟨bitAt t.response (8 * row + 1) 0, bitAt t.response (8 * row + 1) 1,
   bitAt t.response (8 * row + 1) 2⟩
/-- Retry seconds of a class. -/
def Tables.retrySeconds (t : Tables) (row : Nat) : Nat := byteAt t.response (8 * row + 2)
/-- Retry limit of a class. -/
def Tables.retryLimit (t : Tables) (row : Nat) : Nat := byteAt t.response (8 * row + 3)
/-- Class parameter. -/
def Tables.param (t : Tables) (row : Nat) : Nat := word16At t.response (8 * row + 4)

/-! ## Own checks (R29), on the layouts of R180 -/

/-- `lo ≤ v ≤ hi`. -/
def inRange (lo hi v : Nat) : Bool := lo ≤ v && v ≤ hi

/-- The first of a record's checks that fails: each is its name with whether it passes. -/
def firstFailure (checks : List (CheckName × Bool)) : Option CheckName :=
  (checks.find? fun c => !c.2).map (·.1)

/-- The checks of the SITE record. -/
def siteChecks (m : List Byte) : List (CheckName × Bool) :=
  [ (.range, inRange 0 2 (byteAt m 0) && inRange 1 255 (byteAt m 1) && inRange 0 7 (byteAt m 2)
      && inRange 0 7 (byteAt m 3) && ([4, 5, 6, 7].all fun k => inRange 0 15 (byteAt m k))
      && inRange 1 15 (byteAt m 8) && inRange 1 60 (byteAt m 9) && inRange 0 127 (byteAt m 10)),
    (.pad, [11, 12, 13, 14, 15].all fun k => byteAt m k == 0) ]

/-- The checks of the SECTOR record at byte `o`. -/
def sectorChecks (m : List Byte) (o : Nat) : List (CheckName × Bool) :=
  let minM := byteAt m (o + 1); let maxM := byteAt m (o + 2)
  let high := word24At m (o + 6); let ret := word24At m (o + 9)
  [ (.range, inRange 0 3 (byteAt m o) && inRange 1 10 minM && inRange 1 10 maxM
      && inRange 4 12 (byteAt m (o + 3)) && inRange 1 15 (byteAt m (o + 4))
      && inRange 0 74400 high && inRange 0 74400 ret),
    (.pad, byteAt m (o + 5) == 0),
    (.memberLimits, minM ≤ maxM),
    (.markOrder, ret ≤ high) ]

/-- The checks of the CARRIER record at byte `o`. -/
def carrierChecks (m : List Byte) (o : Nat) : List (CheckName × Bool) :=
  [ (.range, inRange 0 1 (byteAt m o) && inRange 0 5 (byteAt m (o + 1))
      && inRange 0 3 (byteAt m (o + 2)) && inRange 0 11 (byteAt m (o + 3))
      && inRange 0 8191 (word16At m (o + 4)) && inRange 0 8191 (word16At m (o + 6))) ]

/-- RANGE of the lane group at byte `g` (R27). -/
def laneGroupInRange (m : List Byte) (g : Nat) : Bool :=
  inRange 0 8191 (word16At m g) && inRange 0 8191 (word16At m (g + 2))
    && inRange 0 164 (byteAt m (g + 4)) && inRange 0 124 (byteAt m (g + 5))
    && inRange 0 124 (byteAt m (g + 6)) && inRange 0 124 (byteAt m (g + 7))

/-- ALTERNATES (R29): `home` and the three entries, 0xFF absent. -/
def alternatesPass (home a b c : Nat) : Bool :=
  (a != home && b != home && c != home)
    && (a != b || a == 0xFF) && (a != c || a == 0xFF) && (b != c || b == 0xFF)
    && (a != 0xFF || b == 0xFF) && (b != 0xFF || c == 0xFF)

/-- The checks of the PORT record at byte `o`. -/
def portChecks (m : List Byte) (o : Nat) : List (CheckName × Bool) :=
  let flags := byteAt m o
  let alt := fun k => byteAt m (o + k)
  [ (.range, flags < 64 && inRange 0 2 (flags / 16) && inRange 0 11 (byteAt m (o + 1))
      && ([2, 3, 4].all fun k => alt k ≤ 11 || alt k == 0xFF)
      && inRange 1 512 (word16At m (o + 6)) && inRange 1 255 (byteAt m (o + 5))
      && inRange 1 255 (byteAt m (o + 8)) && inRange 0 7440 (word16At m (o + 10))
      && inRange 0 124 (byteAt m (o + 12)) && inRange 256 4096 (word16At m (o + 14))
      && inRange 0 15 (byteAt m (o + 9))
      && ([0, 1, 2, 3].all fun b => laneGroupInRange m (o + 16 + 8 * b))),
    (.pad, byteAt m (o + 13) == 0),
    (.alternates, alternatesPass (byteAt m (o + 1)) (alt 2) (alt 3) (alt 4)) ]

/-- Range of the class parameter by class (R28). -/
def paramInRange (row v : Nat) : Bool :=
  match row with
  | 1 => inRange 1 16000 v
  | 3 => inRange 1 255 v
  | 4 => inRange 1 3600 v
  | _ => v == 0

/-- The checks of RESPONSE record `row`, at byte `8 × row`. -/
def responseChecks (m : List Byte) (row : Nat) : List (CheckName × Bool) :=
  let o := 8 * row
  [ (.range, inRange 0 3 (byteAt m o) && inRange 0 7 (byteAt m (o + 1))
      && inRange 1 255 (byteAt m (o + 2)) && inRange 1 15 (byteAt m (o + 3))
      && paramInRange row (word16At m (o + 4))),
    (.pad, byteAt m (o + 6) == 0 && byteAt m (o + 7) == 0),
    (.donorPolicy, row != 8 || (2 ≤ byteAt m o && byteAt m (o + 1) == 0)) ]

/-- The own checks of an image (R29): the first failure in ascending record index. -/
def ownCheck (id : TableId) (m : List Byte) : Option (CheckName × Nat) :=
  let records : List (List (CheckName × Bool)) :=
    match id with
    | .site => [siteChecks m]
    | .sector => (List.range 12).map fun n => sectorChecks m (12 * n)
    | .carrier => (List.range 32).map fun n => carrierChecks m (8 * n)
    | .port => (List.range 24).map fun n => portChecks m (48 * n)
    | .response => (List.range 9).map fun n => responseChecks m n
  (records.zipIdx.filterMap fun (cs, n) => (firstFailure cs).map fun c => (c, n)).head?

/-! ## Cross checks (R30) -/

/-- Number of enabled ports whose home is `s`. -/
def Tables.homeCount (t : Tables) (s : SectorId) : Nat :=
  (List.finRange 24).countP fun p => t.portOn p && t.home p = s

/-- Number of enabled carriers on a sector-lane that satisfy `f`. -/
def Tables.carriersOn (t : Tables) (s : SectorId) (b : Lane) (f : CarrierId → Bool) : Nat :=
  (List.finRange 32).countP fun c =>
    t.carrierOn c && t.carrierHome c = s && t.lane c = b && f c

/-- LANE_CARRIERS for one sector-lane. -/
def Tables.laneCarriersPass (t : Tables) (s : SectorId) (b : Lane) : Bool :=
  t.carriersOn s b (fun _ => true) ≤ 8
    && (List.finRange 6).all fun o => t.carriersOn s b (fun c => t.operator c = o) ≤ 2

/-- The cross checks (R30): the first failure, with the index it concerns. -/
def crossCheck (t : Tables) : Option (CheckName × Nat) :=
  let carrierFails := (List.finRange 32).find? fun c =>
    t.carrierOn c && !t.sectorOn (t.carrierHome c)
  let portFails := (List.finRange 24).find? fun p =>
    t.portOn p && !(t.sectorOn (t.home p) && (t.alternates p).all t.sectorOn)
  let countFails := (List.finRange 12).find? fun s =>
    t.sectorOn s && !inRange (t.minMembers s) (t.maxMembers s) (t.homeCount s)
  let laneFails := (List.finRange 12).find? fun s =>
    !(List.finRange 4).all fun b => t.laneCarriersPass s b
  match carrierFails, portFails, countFails, laneFails with
  | some c, _, _, _ => some (.carrierHome, c.val)
  | none, some p, _, _ => some (.portSectors, p.val)
  | none, none, some s, _ => some (.memberCount, s.val)
  | none, none, none, some s => some (.laneCarriers, s.val)
  | none, none, none, none => none

/-- Code of a check name (R182). -/
def CheckName.code : CheckName → Byte
  | .range => 0 | .pad => 1 | .alternates => 2 | .memberLimits => 3 | .markOrder => 4
  | .donorPolicy => 5 | .carrierHome => 6 | .portSectors => 7 | .memberCount => 8
  | .laneCarriers => 9

/-- The first table, in the order CARRIER, SECTOR, PORT, whose loaded indication is clear (R30). -/
def Tld.notLoaded (t : Tld) : Option TableId :=
  if !t.carrierLoaded then some .carrier
  else if !t.sectorLoaded then some .sector
  else if !t.portLoaded then some .port
  else none

/-- The active tables. -/
abbrev Hub.tables (h : Hub) : Tables := h.tld.tables

/-- The tables whose parameters act at a window end, a balance interval or a second mark: the active ones, but at
the boundary of an activation still the ones before it (R31). -/
def Hub.eventTables (h : Hub) : Tables := h.bd.before.getD h.tables

end Sys2Proof.Machine
end

