-- ==== Sys2Proof/Machine/Flags.lean ====
section
/-! DEFINITION. The values derived from flags: the attention value (R175), the effective action set of a
port (R146), the weight of a port in a sector (R113), and where a port is assigned. -/

namespace Sys2Proof.Machine

/-- The attention value: the priority number of the first notice class that is pending and enabled, or 0
(R175). -/
def Hub.attention (h : Hub) : Nat :=
  match (List.finRange 7).find? fun n => h.mga.marks[n] && h.tables.attends n with
  | some n => n.val + 1
  | none => 0

/-- A record in ACTIVE, COOLING or LATCHED under LATCHED or RETRY mode puts its class's actions in
effect (R146). -/
def FaultRecord.acts (r : FaultRecord) (m : ResponseMode) : Bool :=
  r.state ≠ .idle && (m = .latched || m = .retry)

/-- The effective action set that eight records yield under the policy of `t` (R146). -/
def actionsOf (t : Tables) (records : Vector FaultRecord 8) : ActionSet :=
  PortClass.all.foldl (fun a c =>
    if records[c.idx].acts (t.responseMode c.idx.val) then
      a.union (t.responseActions c.idx.val) else a) .empty

/-- The effective action set of a port (R146). -/
def Hub.actions (h : Hub) (p : PortId) : ActionSet := actionsOf h.tables h.fsv.portRecords[p]

/-- A fault record by source and class (R136). -/
def Hub.faultRecord (h : Hub) : FaultKey → FaultRecord
  | .port p c => h.fsv.portRecords[p][c.idx]
  | .donor d => h.fsv.donorRecords[d]

/-- Every fault record of the port is IDLE (R116, R130). -/
def Hub.allIdle (h : Hub) (p : PortId) : Bool :=
  PortClass.all.all fun c => h.fsv.portRecords[p][c.idx].state = .idle

/-- The assignment of a port (R113). -/
def Hub.assignOf (h : Hub) (p : PortId) : Assign := h.sbl.ports[p].assign

/-- A port is assigned to a sector, alone or as source or target (R113). -/
def Assign.has (a : Assign) (s : SectorId) : Bool :=
  match a with
  | .none => false
  | .one t => t = s
  | .two src tgt => src = s || tgt = s

/-- The one sector of a port that is not ramping. -/
def Assign.sole : Assign → Option SectorId
  | .one s => some s
  | _ => Option.none

/-- The sector in which an assignment counts for targets and loads: a ramping port counts in its target
(R69, R103). -/
def Assign.counts : Assign → Option SectorId
  | .none => Option.none
  | .one s => some s
  | .two _ tgt => some tgt

/-- Assigned count of a sector (R113). -/
def Hub.assignedCount (h : Hub) (s : SectorId) : Nat :=
  (List.finRange 24).countP fun p => (h.assignOf p).has s

/-- w_new of a move: k × 4096 / R (R125). -/
def MoveRecord.newWeight (m : MoveRecord) : Nat := m.step * 4096 / m.length

/-- The port of the move in flight, with its record. -/
def Hub.flightOf (h : Hub) (p : PortId) : Option MoveRecord :=
  h.sbl.flight.filter fun m => m.entry.port = p

/-- Weight of port `p` in sector `s` (R42, R85, R113). -/
def Hub.weight (h : Hub) (p : PortId) (s : SectorId) : Nat :=
  match h.assignOf p with
  | .none => 0
  | .one t => if t = s then 4096 else 0
  | .two src tgt =>
    match h.flightOf p with
    | none => 0
    | some m =>
      if s = tgt then m.newWeight
      else if s = src then 4096 - m.newWeight
      else 0

/-- A port is ramping: it is the port of the move in flight (R113). -/
def Hub.ramping (h : Hub) (p : PortId) : Bool := (h.flightOf p).isSome

/-- A port has an entry in the move queue (R120). -/
def Hub.queued (h : Hub) (p : PortId) : Bool := h.sbl.queue.any fun e => e.port = p

/-- A port is in loop test: PENDING or RUNNING (R104). -/
def Hub.inLoopTest (h : Hub) (p : PortId) : Bool := h.lvm.ports[p].loop ≠ .none

/-- A port is in a loop-test window: RUNNING (R105). -/
def LoopTest.isRunning : LoopTest → Bool
  | .running _ => true
  | _ => false

/-- Carrier state an enabled carrier takes from its donor and its operator's hold flag (R37). DESIGN CHOICE (log 46):
the flag was set or cleared when its request was taken, so a CARRIER activation taken before the effect of
OPERATOR_HOLD or OPERATOR_RELEASE at the same boundary already follows it, and the response does not count those
carriers (R38). -/
def Hub.carrierStateNow (h : Hub) (c : CarrierId) : CarrierState :=
  if !h.tables.carrierOn c then .absent
  else if h.lnk.donor[carrierDonor c].state ≠ .up then .lost
  else if h.dlc.holds[h.tables.operator c] then .held
  else .active

end Sys2Proof.Machine
end

