-- ==== Sys2Proof/Machine/Fault.lean ====
section
/-! DEFINITION. What one block's event causes in SBL, FSV and the CTE: the move log and the marking of a
move (R126, R128), waking a QUIET port (R131), a new identify sequence (R155), and the presentation
and clearing of a fault condition (R137, R142, R143, R147). Then the commands of the FSV. -/

namespace Sys2Proof.Machine

/-! ## Moves and quiet -/

/-- Log a move's outcome; the oldest of 16 entries is dropped; the MOVE notice is raised (R128). -/
def Hub.logMove (h : Hub) (e : MoveEntry) (o : MoveOutcome) : Hub :=
  let seq := h.sbl.logSequence + 1
  let entry : LogEntry := { sequence := seq, entry := e, outcome := o, stamp := h.mga.seconds }
  let log := h.sbl.log ++ [entry]
  let h := { h with sbl := { h.sbl with logSequence := seq, log := log.drop (log.length - 16) } }
  h.raise .move

/-- Mark the move of port `p`, if one is in flight and RAMPING, ENDING with a cause (R126). -/
def Hub.markMove (h : Hub) (p : PortId) (cause : EndingCause) : Hub :=
  match h.sbl.flight with
  | none => h
  | some m =>
    if m.entry.port = p ∧ m.ending = none then
      { h with sbl := { h.sbl with flight := some { m with ending := some cause } } }
    else h

/-- Port `p` enters QUIET; the QUIET notice is raised (R130). -/
def Hub.enterQuiet (h : Hub) (p : PortId) : Hub :=
  (h.onBal p fun b => { b with quiet := true, quietDue := false }).raise .quiet

/-- A wake event reaches port `p` (R131). An entry into QUIET that is due at this boundary is taken
first. An AWAKE port stays as it is. -/
def Hub.wakePort (h : Hub) (p : PortId) (cause : WakeCause) : Hub :=
  let h := if h.sbl.ports[p].quietDue then h.enterQuiet p else h
  if h.sbl.ports[p].quiet then
    (h.onBal p fun b => { b with quiet := false, quietCount := 0, wakeCause := cause }).raise .quiet
  else h

/-! ## Identify sequences -/

/-- A new identify sequence of port `p` (R155). -/
def Hub.newIdentify (h : Hub) (p : PortId) : Hub :=
  let aligned := (h.linkOf p).aligned
  h.onCte p fun c => { c with hold := false, nextAttempt := 1, pending := c.pending || aligned }

/-! ## Fault records -/

/-- Write a history entry; the oldest of 16 is dropped and the lost count rises (R148). -/
def Hub.writeHistory (h : Hub) (k : FaultKey) (t : Transition) : Hub :=
  let entry : HistoryEntry := { key := k, transition := t, stamp := h.mga.seconds }
  let full := 16 ≤ h.fsv.history.length
  let kept := if full then h.fsv.history.drop 1 else h.fsv.history
  { h with fsv := { h.fsv with
      history := kept ++ [entry]
      lost := if full then sat32 h.fsv.lost 1 else h.fsv.lost } }

/-- Store a fault record. -/
def Hub.putRecord (h : Hub) (k : FaultKey) (r : FaultRecord) : Hub :=
  match k with
  | .port p c => { h with fsv := { h.fsv with
      portRecords := upd h.fsv.portRecords p fun v => v.set c.idx.val r c.idx.isLt } }
  | .donor d => { h with fsv := { h.fsv with
      donorRecords := h.fsv.donorRecords.set d.val r d.isLt } }

/-- MUTE or ISOLATE that came into effect on `p` between the set `old` and now marks its move ENDING
(R126, R146). -/
def Hub.actionsEntered (h : Hub) (p : PortId) (old : ActionSet) : Hub :=
  if ((h.actions p).minus old).silences then h.markMove p .action else h

/-- Change a fault record, with what its change of state causes (R126, R131, R146, R155). -/
def Hub.changeRecord (h : Hub) (k : FaultKey) (r : FaultRecord) : Hub :=
  match k with
  | .donor _ => h.putRecord k r
  | .port p c =>
    let old := h.faultRecord k
    let actions := h.actions p
    let h := h.putRecord k r
    let h := h.actionsEntered p actions
    let h := if old.state = .idle ∧ r.state ≠ .idle then h.wakePort p .fault else h
    if c = .rauNoReply ∧ old.state ≠ .idle ∧ r.state = .idle then h.newIdentify p else h

/-- State after a detection, and whether the record enters ACTIVE or COOLING (R142, R143). -/
def detectedState (m : ResponseMode) (st : RecordState) : RecordState × Bool :=
  match m, st with
  | .ignore, st => (st, false)
  | .retry, .idle => (.cooling, true)
  | _, .idle => (.active, true)
  | _, .latched => (.active, true)
  | _, st => (st, false)

/-- A detection of record `k` (R137, R142, R143, R147). DESIGN CHOICE (log 51): under LATCHED or REPORT, an IDLE record
whose settle time runs keeps its retry count and its timer in ACTIVE, where the timer stands. -/
def Hub.detect (h : Hub) (k : FaultKey) : Hub :=
  let m := h.tables.responseMode k.row
  let r := h.faultRecord k
  let r := { r with present := true, occurrences := bump 255 r.occurrences }
  let (st, enters) := detectedState m r.state
  let r' := if r.state = .idle ∧ st = .cooling then
      { r with state := st, retries := bump 15 r.retries, timer := h.tables.retrySeconds k.row,
               fresh := true }
    else { r with state := st }
  let h := h.changeRecord k r'
  if m = .ignore then h
  else
    let h := h.writeHistory k .detected
    if enters then h.raise .fault else h

/-- A presentation of condition `k` (R137). -/
def Hub.present (h : Hub) (k : FaultKey) : Hub :=
  if (h.faultRecord k).present then h else h.detect k

/-- A clearing of condition `k` (R137, R142, R143, R147). -/
def Hub.clearCondition (h : Hub) (k : FaultKey) : Hub :=
  let r := h.faultRecord k
  if !r.present then h
  else if r.state = .active then
    (h.changeRecord k { r with present := false, state := .latched }).writeHistory k .latched
  else h.putRecord k { r with present := false }

/-! ## COOLING and settle expiry -/

/-- The boundary under way is a second mark not yet taken (R167). -/
def Hub.markDue (h : Hub) : Bool := h.bd.isOpen && 16000 ≤ h.mga.frameCount

/-- The timer of a record runs out at this boundary: SECOND_MARK has lowered it to 0, or it stands at 1
and this boundary's second mark has not been taken yet (R136, R144). -/
def Hub.timerOut (h : Hub) (r : FaultRecord) : Bool :=
  !r.fresh && (r.timer = 0 || (h.markDue && r.timer = 1))

/-- The COOLING expiry of record `k` (R143, R144, R147, R155). DESIGN CHOICE (log 40): taken before its
boundary's SECOND_MARK, it stamps its history entries with the second count before the mark (R148). -/
def Hub.coolingExpiry (h : Hub) (k : FaultKey) : Hub :=
  let r := h.faultRecord k
  if r.state ≠ .cooling ∨ !h.timerOut r then h
  else
    let secs := h.tables.retrySeconds k.row
    let h :=
      if r.retries < h.tables.retryLimit k.row then
        let h := h.writeHistory k .retryExpired
        if r.present then
          let h := h.changeRecord k { r with occurrences := bump 255 r.occurrences,
                                             retries := bump 15 r.retries, timer := secs, fresh := true }
          (h.writeHistory k .detected).raise .fault
        else h.changeRecord k { r with state := .idle, timer := secs, fresh := true }
      else
        let h := h.changeRecord k
          { r with state := if r.present then .active else .latched, timer := 0 }
        let h := h.writeHistory k .escalated
        if r.present then h.raise .fault else h
    match k with
    | .port p .rauNoReply => h.newIdentify p
    | _ => h

/-- The settle expiry of record `k`: an IDLE record's retry count returns to 0 (R143). -/
def Hub.settleExpiry (h : Hub) (k : FaultKey) : Hub :=
  let r := h.faultRecord k
  if r.state = .idle ∧ 0 < r.retries ∧ h.timerOut r then
    h.putRecord k { r with retries := 0, timer := 0 }
  else h

/-- Lower a record's timer at a second mark (R136): a COOLING period, or the settle time of an IDLE
record, that was not set at this very boundary. -/
def FaultRecord.tick (r : FaultRecord) : FaultRecord :=
  if !r.fresh ∧ (r.state = .cooling ∨ r.state = .idle) then { r with timer := r.timer - 1 } else r

/-- Records reset by PORT_RESET or by a PORT activation (R149): condition CLEAR, IDLE, counts and timer
0, the occurrence count kept when `keep`. -/
def FaultRecord.resetTo (keep : Bool) (r : FaultRecord) : FaultRecord :=
  { FaultRecord.init with occurrences := if keep then r.occurrences else 0 }

/-- Reset the eight records and the detectors of port `p` (R149). A RAU_NO_REPLY record that was not
IDLE starts a new identify sequence (R155). -/
def Hub.resetRecords (h : Hub) (p : PortId) (keep : Bool) : Hub :=
  let wasIdle := (h.faultRecord (.port p .rauNoReply)).state = .idle
  let h := { h with fsv := { h.fsv with
    portRecords := upd h.fsv.portRecords p (mapTab (FaultRecord.resetTo keep))
    detectors := h.fsv.detectors.set p.val .init p.isLt } }
  if wasIdle then h else h.newIdentify p

end Sys2Proof.Machine
end

