-- ==== Sys2Proof/Machine/Operands.lean ====
section
/-! DEFINITION. The forms in which operands reach the hub, and in which it sends: span frames (R177), the
remote control field (R178), the trunk control cell and the requests it carries (R179). -/

namespace Sys2Proof.Machine

/-! ## Span frames (R177) -/

/-- The marker pattern (R177). -/
def marker : List Byte := [0xE4, 0x1B, 0x7D, 0x28]

/-- Length of the control part of a link's frames. -/
def controlLength : LinkId → Nat
  | .trunk => 16
  | _ => 8

/-- Length of the payload of a link's frames. -/
def payloadLength : LinkId → Nat
  | .trunk => 0
  | _ => 4096

/-- Length of a link's frames: 4114 bytes, and 26 on the trunk. -/
def frameLength (l : LinkId) : Nat := 8 + controlLength l + payloadLength l + 2

/-- A marker is good only when all 32 bits equal the pattern. -/
def markerGood (bs : List Byte) : Bool := bs.take 4 = marker

/-- The bits of bytes in order of transmission, bit 7 of each byte first (R177). -/
def bitsOf (bs : List Byte) : List Bool := bs.flatMap fun b => [7, 6, 5, 4, 3, 2, 1, 0].map b.getLsbD

/-- The bytes that bits in order of transmission form (R177). -/
def packBits : List Bool → List Byte
  | b7 :: b6 :: b5 :: b4 :: b3 :: b2 :: b1 :: b0 :: rest =>
    BitVec.ofNat 8 ([b7, b6, b5, b4, b3, b2, b1, b0].foldl (fun n b => 2 * n + b.toNat) 0) :: packBits rest
  | _ => []

/-- The marker stands at bit `i` of received bits (R4, R177). -/
def markerAt (bits : List Bool) (i : Nat) : Bool := (bits.drop i).take 32 = bitsOf marker

/-- The first marker in received bits, the first of which is bit `i` of the search (R4). -/
def firstMarker : List Bool → Nat → Option Nat
  | [], _ => none
  | b :: bits, i => if markerAt (b :: bits) 0 then some i else firstMarker bits (i + 1)

/-- The frame at bit position `pos` that the stretch `a` completes, `b` the stretch before it: it begins in `b` and
ends in `a` (R4). DESIGN CHOICE (log 29): of the instant at which its marker was found, counted back from that of `a`,
a fraction is dropped (R17). -/
def splice (l : LinkId) (b a : Arrival) (pos : Nat) : Arrival :=
  let period := 8 * frameLength l
  let k := (pos + period - a.pos) % period
  let back := ((period - k) * 256 + period - 1) / period
  { pos := pos
    framesAgo := if back ≤ a.instant then a.framesAgo else a.framesAgo + 1
    instant := if back ≤ a.instant then a.instant - back else a.instant + 256 - back
    bytes := packBits ((bitsOf b.bytes).drop k ++ (bitsOf a.bytes).take k) }

/-- The lane mask of the header: bits 3..0 of the flags. -/
def headerMask (bs : List Byte) : LaneMask := (bs.getD 5 0).setWidth 4

/-- The echo present flag. -/
def echoPresent (bs : List Byte) : Bool := bitAt bs 5 7

/-- The control part. -/
def controlPart (l : LinkId) (bs : List Byte) : List Byte := (bs.drop 8).take (controlLength l)

/-- The payload bytes. -/
def payloadPart (l : LinkId) (bs : List Byte) : List Byte :=
  (bs.drop (8 + controlLength l)).take (payloadLength l)

/-- The received CRC field. -/
def crcField (l : LinkId) (bs : List Byte) : Nat := word16At bs (frameLength l - 2)

/-- The CRC over control part and payload equals the received field (R6). -/
def crcMatches (l : LinkId) (bs : List Byte) : Bool :=
  (crc16 (controlPart l bs ++ payloadPart l bs)).toNat = crcField l bs

/-- The samples of a payload: instant i, lane j has I at byte 16i + 4j and Q two bytes later. -/
def payloadSamples (bs : List Byte) : List Quad :=
  (List.range 256).map fun i => tab fun j =>
    ⟨int16At bs (16 * i + 4 * j.val), int16At bs (16 * i + 4 * j.val + 2)⟩

/-- The payload bytes of a frame's samples. -/
def samplesBytes (xs : List Quad) : List Byte :=
  xs.flatMap fun x => (List.finRange 4).flatMap fun j => int16Bytes x[j].i ++ int16Bytes x[j].q

/-- A frame as the hub sends it (R1, R6, R177): echo clear, e and t 0, CRC over control and payload. -/
def sentFrame (number : BitVec 8) (mask : LaneMask) (control payload : List Byte) : List Byte :=
  marker ++ [number, mask.setWidth 8, 0, 0] ++ control ++ payload
    ++ toBytes 2 (crc16 (control ++ payload)).toNat

/-- The hub instant count (R1): 256 × hub frame number + the sample instant within the frame. -/
def instantCount (number : BitVec 8) (instant : Nat) : Nat := 256 * number.toNat + instant

/-- The hub instant count at which a frame's marker was found (R17). `number` is that of the hub frame that
begins at the boundary where the frame is handed on. -/
def foundAt (number : BitVec 8) (a : Arrival) : Nat :=
  instantCount (number - 1 - BitVec.ofNat 8 a.framesAgo) a.instant

/-- Round trip of a frame with an echo, its marker found at hub instant count `found` (R17): the clamped
value, and whether it was out of range. -/
def roundTrip (found : Nat) (bytes : List Byte) : Nat × Bool :=
  let e := byteAt bytes 6
  let t := byteAt bytes 7
  let rt := (((found : Int) - 256 * e - t) % 65536).toNat
  if 4095 < rt then (4095, true) else (rt, false)

/-! ## The remote control field (R178) -/

/-- Kind of a received field: 1 IDENTIFY, 2 STATUS; any other code is handled as IDLE. -/
def fieldKind (f : List Byte) : Option TxKind :=
  match byteAt f 0 with
  | 1 => some .identify
  | 2 => some .status
  | _ => none

/-- Sequence number of a field. -/
def fieldSequence (f : List Byte) : BitVec 8 := f.getD 1 0

/-- The fields of an IDENTIFY reply. -/
def identifyFields (f : List Byte) : IdentifyInfo :=
  { rauClass := f.getD 2 0, mask := (f.getD 3 0).setWidth 4,
    serial := BitVec.ofNat 32 (word16At f 4 * 65536 + word16At f 6) }

/-- The fields of a STATUS reply, taken at hub second `stamp`. -/
def statusFields (f : List Byte) (stamp : Nat) : StatusInfo :=
  { alarms := BitVec.ofNat 16 (word16At f 2), temperature := f.getD 4 0,
    paOn := (f.getD 5 0).setWidth 4, stamp := stamp }

/-- The request field the hub sends for a transaction. -/
def requestField (k : TxKind) (sequence : BitVec 8) : List Byte :=
  [if k = .identify then 1 else 2, sequence, 0, 0, 0, 0, 0, 0]

/-- An idle field. -/
def idleField : List Byte := List.replicate 8 0

/-! ## The trunk control cell (R179) -/

/-- The cell in a trunk frame's control part. The attention byte is not examined. -/
def cellOf (bs : List Byte) : Cell :=
  { type := bs.getD 0 0, tag := bs.getD 1 0, length := bs.getD 3 0,
    payload := (List.range 12).map fun i => bs.getD (4 + i) 0 }

/-- Types of received cells; any code of 5..255 is handled as RESPONSE (R179). -/
inductive CellType where
  | idle | request | response | data | check
deriving DecidableEq, Repr

/-- Type of a received cell. -/
def Cell.kind (c : Cell) : CellType :=
  match c.type.toNat with
  | 0 => .idle | 1 => .request | 3 => .data | 4 => .check | _ => .response

/-- Status code (R179). -/
def Status.code : Status → Nat
  | .ok => 0 | .refused => 1 | .notInService => 2 | .badRequest => 3 | .timeout => 4

/-- An IDLE cell with an attention value. -/
def idleCellBytes (attention : Nat) : List Byte :=
  [0, 0, BitVec.ofNat 8 attention, 0] ++ List.replicate 12 0

/-- A RESPONSE cell with an attention value. -/
def Response.cellBytes (r : Response) (attention : Nat) : List Byte :=
  [2, r.tag, BitVec.ofNat 8 attention, BitVec.ofNat 8 (16 * r.status.code + r.used)]
    ++ sliceZ r.payload 0 12

/-- The kinds of request (R179). -/
inductive ReqKind where
  | hello | read | tableRead | loadBegin | loadEnd | loadAbort | enterService | restart | portReset
  | move | cancelMove | clearFaults | wake | measureDelay | loopTest | priorityPoll
  | operatorHold | operatorRelease | clearCounters
deriving DecidableEq, Repr

/-- Kind code, 1..19 (R179). -/
def ReqKind.code : ReqKind → Nat
  | .hello => 1 | .read => 2 | .tableRead => 3 | .loadBegin => 4 | .loadEnd => 5 | .loadAbort => 6
  | .enterService => 7 | .restart => 8 | .portReset => 9 | .move => 10 | .cancelMove => 11
  | .clearFaults => 12 | .wake => 13 | .measureDelay => 14 | .loopTest => 15
  | .priorityPoll => 16 | .operatorHold => 17 | .operatorRelease => 18 | .clearCounters => 19

/-- Length field of a kind's cell (R179). -/
def ReqKind.length : ReqKind → Nat
  | .read => 5 | .tableRead => 4 | .loadBegin => 4 | .portReset => 2 | .move => 3
  | .cancelMove => 2 | .clearFaults => 3 | .wake => 2 | .measureDelay => 2 | .loopTest => 2
  | .priorityPoll => 5 | .operatorHold => 2 | .operatorRelease => 2 | _ => 1

/-- Every kind of request. -/
def ReqKind.all : List ReqKind :=
  [.hello, .read, .tableRead, .loadBegin, .loadEnd, .loadAbort, .enterService, .restart,
   .portReset, .move, .cancelMove, .clearFaults, .wake, .measureDelay, .loopTest, .priorityPoll,
   .operatorHold, .operatorRelease, .clearCounters]

/-- Kind of a REQUEST cell: payload byte 0. None for kind 0 and kinds 20..255. -/
def Cell.reqKind (c : Cell) : Option ReqKind :=
  ReqKind.all.find? fun k => k.code = byteAt c.payload 0

/-- Argument byte `i` of a request, from payload byte 1. -/
def Cell.arg (c : Cell) (i : Nat) : Nat := byteAt c.payload (1 + i)

/-- The two-byte argument at byte `i`. -/
def Cell.arg16 (c : Cell) (i : Nat) : Nat := word16At c.payload (1 + i)

/-- A number as an index below `n`, if it is one. -/
def fin? (n v : Nat) : Option (Fin n) := if h : v < n then some ⟨v, h⟩ else none

/-- The objects of READ (R179), in the order of their codes 0..15. -/
inductive ReadObject where
  | portStatus | sectorStatus | carrierStatus | meter | extremes | dlPower | faults | faultHistory
  | moveQueue | moveLog | advice | counters | notices | loadStatus | linkSummary | quietSummary
deriving DecidableEq, Repr

/-- The object with a code. -/
def readObjectOf (code : Nat) : Option ReadObject :=
  [ReadObject.portStatus, .sectorStatus, .carrierStatus, .meter, .extremes, .dlPower, .faults,
   .faultHistory, .moveQueue, .moveLog, .advice, .counters, .notices, .loadStatus, .linkSummary,
   .quietSummary][code]?

/-- Number of valid indices of an object (R172): FAULTS has 24 for the donors beside the ports. -/
def ReadObject.indices : ReadObject → Nat
  | .portStatus => 24 | .meter => 24 | .extremes => 24 | .dlPower => 24
  | .faults => 25 | .sectorStatus => 12 | .carrierStatus => 32 | _ => 1

end Sys2Proof.Machine
end

