-- ==== Sys2Proof/Machine/Frame.lean ====
section
/-! DEFINITION. The end of a frame, which begins a frame boundary: each meter classes the frame that ended
(R97), the counts of frames rise (R1, R95, R153, R164, R167, R18), and what falls due at this boundary
is noted (R123, R125, R127, R165, R168, R170). Every event that the hub takes at a boundary begins it
when it is not under way yet. -/

namespace Sys2Proof.Machine

/-- A meter's update with the frame that ended, outside a loop-test window (R97). -/
def Meter.frameUpdate (f : FrameInput) (b : Lane) (m : Meter) : Meter :=
  let good := f.verdict = some .good
  let energy := m.integrator
  let m := { m with integrator := 0 }
  let metered : Meter :=
    if good then { m with acc := m.acc + energy, lastGood := some energy }
    else { m with acc := m.acc + m.lastGood.getD 0, held := bump 128 m.held }
  match f.link with
  | .proving => metered
  | .up =>
    if f.mask.getLsbD b.val then metered
    else if good then { m with lastGood := some 0 }
    else m
  | _ => m

/-- A meter's update in a loop-test window: every frame adds its integrator (R105). -/
def Meter.loopUpdate (m : Meter) : Meter := { m with acc := m.acc + m.integrator, integrator := 0 }

/-- The four meters of a port at the end of a frame, and the void mark (R97, R105). -/
def PortMeter.frameUpdate (f : FrameInput) (m : PortMeter) : PortMeter :=
  if m.loop.isRunning then
    { m with meters := mapTab Meter.loopUpdate m.meters, cleared := false }
  else
    { m with
      meters := tab fun b => (m.meters[b]).frameUpdate f b
      void := m.void || !f.link.aligned
      cleared := false }

/-- Nothing of the link has been handed on at the boundary that begins (R2). -/
def LinkCore.awaitFrame (c : LinkCore) : LinkCore :=
  { c with handed := false, arrival := none, verdict := none, samples := [] }

/-- One more frame boundary for a running measurement (R18). -/
def Measurement.age (m : Measurement) : Measurement :=
  if m.running then { m with elapsed := bump 16 m.elapsed } else m

/-- LNK when a boundary begins (R1, R2, R18). -/
def Lnk.boundary (l : Lnk) : Lnk :=
  { l with
    frameNumber := l.frameNumber + 1
    remote := mapTab (fun r => { r with core := r.core.awaitFrame, meas := r.meas.age }) l.remote
    donor := mapTab LinkCore.awaitFrame l.donor
    trunk := l.trunk.awaitFrame }

/-- A frame boundary begins: the frame under way has ended. DESIGN CHOICE (log 41): the silence count of an OPEN
load rises here, before the boundary's other events, so it does not rise at the boundary of the LOAD_BEGIN and
has risen where a LOAD_END joins (R164). -/
def Hub.beginBoundary (h : Hub) : Hub :=
  { h with
    lnk := h.lnk.boundary
    plm := mapTab (fun m => { m with cleared := false }) h.plm
    lvm := { h.lvm with
      ports := tab fun p => (h.lvm.ports[p]).frameUpdate h.frame[p]
      windowCount := h.lvm.windowCount + 1 }
    fsv := { h.fsv with
      portRecords := mapTab (mapTab fun r => { r with fresh := false }) h.fsv.portRecords
      donorRecords := mapTab (fun r => { r with fresh := false }) h.fsv.donorRecords }
    cte := { h.cte with
      transaction := h.cte.transaction.map fun t => { t with remaining := t.remaining - 1 }
      ports := mapTab (fun c => { c with field := none }) h.cte.ports }
    mga := { h.mga with
      frameCount := h.mga.frameCount + 1
      busyRipe := h.mga.busy.isSome
      cell := none }
    tld := { h.tld with
      silence := if h.tld.phase = .opened then bump 16000 h.tld.silence else h.tld.silence
      scheduledRipe := h.tld.scheduled.isSome }
    bd := { isOpen := true, limiterDone := false, deqDone := false, joinDone := false,
            supplyDone := false, selectDone := false,
            headSeen := h.sbl.flight.isSome, serviceBegun := false,
            rampDue := h.sbl.flight.any fun m => m.ending = none,
            abandonDue := h.sbl.flight.any fun m => m.ending ≠ none
            before := none } }

/-- The boundary under way, begun now if it is not. -/
def Hub.openBoundary (h : Hub) : Hub := if h.bd.isOpen then h else h.beginBoundary

/-- A command that is an event of the boundary under way. -/
def State.atBoundary (s : State) (f : Hub → Hub) : Host.Outcome State Fault Refusal :=
  s.onHub fun h => f h.openBoundary

end Sys2Proof.Machine
end

