-- ==== Sys2Proof/Machine/Limiter.lean ====
section
/-! DEFINITION. PLM: the update of the frame that ended (R56 to R62), the restoration of L in HOLD mode
(R60), and the overdrive flag (R63). -/

namespace Sys2Proof.Machine

/-- Class of a frame with power `P` under ceiling code `C` (R57). -/
def frameClass (power ceiling : Nat) : FrameClass :=
  let code := levelCode power
  if ceiling < code then .excess
  else if code + 2 ≤ ceiling then .clean
  else .between

/-- L after an attack (R58): max(512, L − ceil(L / 8)). -/
def attackFactor (l : Nat) : Nat := max 512 (l - (l + 7) / 8)

/-- PLM's update of one port-lane with the frame that ended (R56 to R60, R62). -/
def LaneLimiter.frameUpdate (t : Tables) (p : PortId) (b : Lane) (m : LaneLimiter) : LaneLimiter :=
  let power := m.powerSum / 256
  let cls := frameClass power (t.ceiling p b)
  let overdrive := if m.factor = 512 ∧ cls = .excess then bump 16 m.overdrive else 0
  let m' := { m with powerSum := 0, power := power, cls := cls, overdrive := overdrive }
  match cls with
  | .excess =>
    { m' with factor := attackFactor m.factor, hold := 0, attack := sat32 m.attack 1 }
  | .between => m'
  | .clean =>
    match t.limiterMode p with
    | .next => { m' with factor := 4096 }
    | .step => { m' with factor := min 4096 (m.factor + t.releaseStep p) }
    | .hold =>
      if m.factor < 4096 then
        { m' with hold := bump 255 m.hold, restoreDue := t.holdFrames p ≤ m.hold + 1 }
      else { m' with hold := 0 }

/-- PLM's update of one port (R61, R63). After a reset at this boundary it does nothing for the frame
(R65, R66). -/
def PortLimiter.frameUpdate (t : Tables) (p : PortId) (m : PortLimiter) : PortLimiter :=
  if m.cleared then m
  else
    let lanes := tab fun b => (m.lanes[b]).frameUpdate t p b
    let anyExcess := (List.finRange 4).any fun b => lanes[b].cls = .excess
    { m with lanes := lanes, clean := if anyExcess then 0 else bump 16 m.clean }

/-- LIMITER_UPDATE of the boundary under way, once (R61). -/
def Hub.limiterUpdate (h : Hub) : Hub :=
  if h.bd.limiterDone then h
  else { h with
    plm := tab fun p => (h.plm[p]).frameUpdate h.tables p
    bd := { h.bd with limiterDone := true } }

/-- A port's limiter cleared (R65, R66); the attack counters are kept when `keep`. -/
def PortLimiter.clear (keep : Bool) (m : PortLimiter) : PortLimiter :=
  { PortLimiter.init with
    lanes := mapTab (fun l => LaneLimiter.init (if keep then l.attack else 0)) m.lanes
    cleared := true }

/-- HOLD_RESTORE of a lane whose hold count has reached the hold frames (R60). -/
def Hub.holdRestore (p : PortId) (b : Lane) (h : Hub) : Hub :=
  let h := h.limiterUpdate
  if h.plm[p].lanes[b].restoreDue then
    h.onPlm p fun m => { m with
      lanes := upd m.lanes b fun l => { l with factor := 4096, hold := 0, restoreDue := false } }
  else h

/-- The overdrive flag goes to PRESENT (R63). Where a RESTART is due nothing is handed on (R65). -/
def Hub.overdrivePresent (p : PortId) (h : Hub) : Hub :=
  let h := h.limiterUpdate
  let m := h.plm[p]
  if !m.flag ∧ (List.finRange 4).any (fun b => m.lanes[b].overdrive = 16) then
    let h := h.onPlm p fun m => { m with flag := true }
    if h.restartDue then h else h.present (.port p .dlOverdrive)
  else h

/-- The overdrive flag goes to CLEAR (R63). Where a RESTART is due nothing is handed on (R65). -/
def Hub.overdriveClear (p : PortId) (h : Hub) : Hub :=
  let h := h.limiterUpdate
  let m := h.plm[p]
  if m.flag ∧ m.clean = 16 then
    let h := h.onPlm p fun m => { m with flag := false }
    if h.restartDue then h else h.clearCondition (.port p .dlOverdrive)
  else h

/-- What PLM's update of this boundary decided on the flag of port `p`, if the update has been taken: FSV
receives it before the port's records are reset (R66). -/
def Hub.overdriveDue (p : PortId) (h : Hub) : Hub :=
  if h.bd.limiterDone then (h.overdrivePresent p).overdriveClear p else h

/-- HOLD_RESTORE (R60). -/
def execHoldRestore (p : PortId) (b : Lane) (s : State) : Host.Outcome State Fault Refusal :=
  s.atBoundary (Hub.holdRestore p b)

/-- DL_OVERDRIVE_PRESENT (R63). -/
def execDlOverdrivePresent (p : PortId) (s : State) : Host.Outcome State Fault Refusal :=
  s.atBoundary (Hub.overdrivePresent p)

/-- DL_OVERDRIVE_CLEAR (R63). -/
def execDlOverdriveClear (p : PortId) (s : State) : Host.Outcome State Fault Refusal :=
  s.atBoundary (Hub.overdriveClear p)

end Sys2Proof.Machine
end

