-- ==== Sys2Proof/Machine/Uplink.lean ====
section
/-! DEFINITION. ULC: the gates (R88 to R92) and the uplink frame record (R82 to R85). -/

namespace Sys2Proof.Machine

/-- A gate's update at a window end with net level `net`, gate level `level` and gate hold `g` (R88). -/
def Gate.update (net level g : Nat) (x : Gate) : Gate :=
  if level ≤ net then ⟨.opened, g⟩
  else match x.state with
    | .opened => if g = 0 then ⟨.closed, 0⟩ else ⟨.holding, x.count⟩
    | .holding => if 2 ≤ x.count then ⟨.holding, x.count - 1⟩ else ⟨.closed, 0⟩
    | .closed => ⟨.closed, 0⟩

/-- Gate update of a port with the four net levels of a window (R88), for a port that was COMBINING in
the frame that ended and still is (R89). -/
def Hub.gateUpdate (h : Hub) (p : PortId) (net : Vector Nat 4) : Hub :=
  if h.frame[p].combining ∧ h.dlc.combining[p] then
    let t := h.eventTables
    h.onGates p fun g => tab fun b => (g[b]).update net[b] (t.gateLevel p b) (t.gateHold p)
  else h

/-- The gates of a port become CLOSED with count 0 (R89, R92). -/
def Hub.closeGates (h : Hub) (p : PortId) : Hub := h.onGates p fun _ => .replicate 4 .closed

/-- The gates of a port that joins: OPEN with count g where the gate level is 0 (R89). DESIGN CHOICE (log 35): the
gate level and gate hold are those of the tables active when the join is taken, so after a PORT activation of the
same boundary the new ones. -/
def Hub.joinGates (h : Hub) (p : PortId) : Hub :=
  let t := h.tables
  h.onGates p fun _ => tab fun b =>
    if t.gateLevel p b = 0 then ⟨.opened, t.gateHold p⟩ else .closed

/-- COMBINING_JOIN of one port: UP in the frame that ended and UP now (R40, R89). -/
def Hub.joinPort (p : PortId) (h : Hub) : Hub :=
  if h.frame[p].link = .up ∧ h.isUp p ∧ !h.dlc.combining[p] then
    (h.setCombining p true).joinGates p
  else h

/-- COMBINING_JOIN of the boundary under way, once (R40). -/
def Hub.join (h : Hub) : Hub :=
  if h.bd.joinDone then h
  else
    let h := each Hub.joinPort h
    { h with bd := { h.bd with joinDone := true } }

/-- The exclusion reason of port-lane (p, b) in sector `s`: the first condition of R83 that fails. -/
def Hub.reason (h : Hub) (p : PortId) (b : Lane) (s : SectorId) : Reason :=
  let r := h.lnk.remote[p]
  if !h.dlc.combining[p] then .link
  else if r.core.verdict ≠ some .good then .frame
  else if !r.mask.getLsbD b.val then .lane
  else if (h.actions p).silences then .action
  else if h.lvm.ports[p].loop.isRunning then .loop
  else if h.tables.gated s ∧ h.ulc.gates[p][b].state = .closed then .gate
  else .none

/-- The exclusion reason that (p, b) has in sector `s` for the frame that begins: the first failing condition
where the port is on the contributor list of the sector, LINK where it is not on it and not COMBINING, and else
no entry (R81, R83). -/
def Hub.reasonIn (h : Hub) (p : PortId) (b : Lane) (s : SectorId) : Option Reason :=
  if h.tables.sectorOn s && (h.assignOf p).has s then some (h.reason p b s)
  else if h.dlc.combining[p] then none
  else some .link

/-- The uplink frame record of a sector-lane, formed when the boundary's events have acted (R82 to R85). DESIGN
CHOICE (log 47): a disabled sector has no record, and SECTOR_STATUS reports it as not gated (R93). -/
def Hub.uplinkRecord (h : Hub) (s : SectorId) (b : Lane) : SectorLane :=
  let t := h.tables
  if !t.sectorOn s then .init
  else
    { contributors := ((List.finRange 24).filter fun p => (h.assignOf p).has s).map fun p =>
        { port := p
          gain := (roundShift (t.portGain p b * h.weight p s) 12).toNat
          reason := h.reason p b s }
      carriers := ((List.finRange 32).filter fun c =>
          t.carrierOn c && t.carrierHome c = s && t.lane c = b).map fun c =>
        { carrier := c, gain := t.upGain c, active := h.dlc.carriers[c] = .active }
      gated := t.gated s
      z := .zero }

end Sys2Proof.Machine
end

