-- ==== Sys2Proof/Machine/Meter.lean ====
section
/-! DEFINITION. LVM: the window end (R98 to R102), restarts of the window count (R95), the loop test (R104 to
R107), the sector load (R103); and FSV's detectors that read a window (R140, R141). -/

namespace Sys2Proof.Machine

/-! ## Window end -/

/-- Mean of a window (R98): round_shift(E_w, 8 + k). -/
def windowMean (acc k : Nat) : Nat := (roundShift acc (8 + k)).toNat

/-- A net level taken into an extremes record (R99). -/
def Extremes.take (e : Extremes) (net : Nat) : Extremes :=
  if e.count = 0 then ⟨net, net, 1⟩
  else ⟨max e.largest net, min e.smallest net, sat32 e.count 1⟩

/-- A meter completes its window (R98, R99). -/
def Meter.complete (k offset : Nat) (void : Bool) (m : Meter) : Meter :=
  let mean := if void then 0 else windowMean m.acc k
  let code := if void then 0 else levelCode mean
  let net := code - offset
  { m with
    acc := 0, held := 0
    last := { mean := mean, code := code, net := net, held := m.held, void := void }
    extremes := if void then m.extremes else m.extremes.take net }

/-- Activity a_p of four net levels (R100). -/
def activityOf (t : Tables) (net : Vector Nat 4) : Nat :=
  (List.finRange 4).foldl (fun acc b => acc + net[b] * t.lambda b) 0

/-- A_p moved toward `x` (R101). -/
def smooth (a x alpha : Nat) : Nat := ((a : Int) + roundShift ((x : Int) - a) alpha).toNat

/-- A port whose results are handed on completes its four meters, a_p and A_p (R98, R100, R101). -/
def PortMeter.complete (t : Tables) (p : PortId) (f : FrameInput) (m : PortMeter) : PortMeter :=
  let meters := tab fun b => (m.meters[b]).complete t.windowCode (t.offset p b) m.void
  let net := mapTab (fun x : Meter => x.last.net) meters
  let a := activityOf t net
  let x := if f.silenced then 0 else a
  { m with
    meters := meters
    activity := a
    smoothed := if f.link = .up ∧ !m.void then smooth m.smoothed x t.alpha else m.smoothed }

/-- The window accumulators and held frames of a port return to 0 (R105 to R107). -/
def PortMeter.dropWindow (m : PortMeter) : PortMeter :=
  { m with meters := mapTab (fun x => { x with acc := 0, held := 0 }) m.meters }

/-- The net levels of a port's last window. -/
def PortMeter.nets (m : PortMeter) : Vector Nat 4 := mapTab (fun x => x.last.net) m.meters

/-- The UL_OVERLOAD detector examines a window (R140). A presentation is left due for
UL_OVERLOAD_PRESENT. The overload levels are a window end's parameters (R31); DEDUCED (log 36): the class parameter
and the response policy are those in force when the window end is taken (R36). -/
def Hub.overloadWindow (h : Hub) (p : PortId) (void : Bool) (net : Vector Nat 4) : Hub :=
  let f := h.frame[p]
  let t := h.eventTables
  let key := FaultKey.port p .ulOverload
  let lanes := (List.finRange 4).filter fun b => f.mask.getLsbD b.val
  if f.link ≠ .up ∨ void then
    (h.onDet p fun d => { d with run := 0 }).clearCondition key
  else if lanes.any (fun b => t.overloadLevel p b ≤ net[b]) then
    h.onDet p fun d =>
      let run := bump 255 d.run
      { d with run := run, overloadDue := d.overloadDue || h.tables.param key.row ≤ run }
  else if lanes.all (fun b => net[b] + 4 < t.overloadLevel p b) then
    (h.onDet p fun d => { d with run := 0 }).clearCondition key
  else h.onDet p fun d => { d with run := 0 }

/-- The presentation that the UL_SILENT detector decided at this second mark (R141). -/
def Hub.silentPresent (p : PortId) (h : Hub) : Hub :=
  if h.fsv.detectors[p].silentDue then
    (h.onDet p fun d => { d with silentDue := false }).present (.port p .ulSilent)
  else h

/-- The UL_SILENT detector examines a window (R141). A presentation that this boundary's second mark decided
comes first: the mark was taken before the window end. -/
def Hub.silentWindow (h : Hub) (p : PortId) (void : Bool) (net : Vector Nat 4) : Hub :=
  let h := h.silentPresent p
  let f := h.frame[p]
  let lanes := (List.finRange 4).filter fun b => f.mask.getLsbD b.val
  let quietLanes := lanes.all fun b => net[b] = 0
  if f.link = .up ∧ !void ∧ quietLanes then h
  else
    let h := h.onDet p fun d => { d with silence := 0, silentMark := false }
    if quietLanes then h else h.clearCondition (.port p .ulSilent)

/-- The quiet wake of a window: a net level at or above the wake level (R131). -/
def Hub.levelWake (h : Hub) (p : PortId) (net : Vector Nat 4) : Hub :=
  if (List.finRange 4).any fun b => h.eventTables.wakeLevel p ≤ net[b] then h.wakePort p .level else h

/-- A port's results are handed on to ULC, SBL and FSV (R102). DESIGN CHOICE (log 48): UL_OVERLOAD examines them
before UL_SILENT. DESIGN CHOICE (log 50): a wake with cause LEVEL comes before a presentation of UL_SILENT that
this boundary's second mark left due. -/
def Hub.handOn (h : Hub) (p : PortId) (void : Bool) : Hub :=
  let net := (h.lvm.ports[p]).nets
  let h := h.gateUpdate p net
  let h := h.levelWake p net
  let h := h.overloadWindow p void net
  h.silentWindow p void net

/-! ## Loop test -/

/-- The codes and net levels of a test window (R106). -/
def loopResult (t : Tables) (p : PortId) (m : PortMeter) : List Byte :=
  let code := fun b : Lane => levelCode (windowMean (m.meters[b]).acc t.windowCode)
  (List.finRange 4).map (fun b => BitVec.ofNat 8 (code b))
    ++ (List.finRange 4).map fun b => BitVec.ofNat 8 (code b - t.offset p b)

/-- The test window of port `p` ends: the record returns to NONE and the response is queued (R106). -/
def Hub.loopComplete (h : Hub) (p : PortId) (tag : Byte) : Hub :=
  let report := loopResult h.eventTables p h.lvm.ports[p]
  let h := h.onMeter p fun m => { m.dropWindow with loop := .none }
  (h.answerOk tag report).free

/-- A loop test of port `p`, PENDING or RUNNING, ends as ABORTED (R107). `leftUp` sets the void mark. -/
def Hub.loopAbort (h : Hub) (p : PortId) (leftUp : Bool) : Hub :=
  let finish := fun tag : Byte =>
    let h := h.onMeter p fun m => { m.dropWindow with loop := .none, void := m.void || leftUp }
    (h.respond tag .timeout 0 [0]).free
  match h.lvm.ports[p].loop with
  | .none => h
  | .pending tag => finish tag
  | .running tag => finish tag

/-- A PENDING test becomes RUNNING: its test window begins (R105). -/
def PortMeter.startTest (m : PortMeter) : PortMeter :=
  match m.loop with
  | .pending tag => { m.dropWindow with loop := .running tag }
  | _ => m

/-- One port at a window end. A port whose meters were cleared at this boundary hands nothing on: R110 says so
of PORT_RESET, and the model takes the same of a PORT activation (DEDUCED, log 37). -/
def Hub.windowEndPort (p : PortId) (h : Hub) : Hub :=
  let m := h.lvm.ports[p]
  match m.loop with
  | .running tag => h.loopComplete p tag
  | _ =>
    if m.cleared then h
    else
      let h := h.onMeter p fun m => m.complete h.eventTables p h.frame[p]
      let h := h.handOn p m.void
      h.onMeter p PortMeter.startTest

/-- WINDOW_END, when the window count has reached W (R95). After a SITE or PORT activation of the same boundary it
still takes the parameters from before it (R31). DESIGN CHOICE (log 48): the ports hand on in ascending number. -/
def Hub.windowEnd (h : Hub) : Hub :=
  if h.lvm.windowCount < h.tables.window then h
  else
    let h := each Hub.windowEndPort h
    { h with lvm := { h.lvm with
      windowCount := 0
      windowNumber := h.lvm.windowNumber + 1
      ports := mapTab (fun m => { m with void := false }) h.lvm.ports } }

/-- A restart of the window count at one port: its window is dropped, a RUNNING test ends as ABORTED, a
PENDING one begins its test window (R95, R105, R107). -/
def Hub.restartPort (p : PortId) (h : Hub) : Hub :=
  let h := if h.lvm.ports[p].loop.isRunning then h.loopAbort p false else h
  h.onMeter p fun m => { m.dropWindow.startTest with void := false }

/-- The window count restarts (R95). -/
def Hub.restartWindow (h : Hub) : Hub :=
  let h := each Hub.restartPort h
  { h with lvm := { h.lvm with windowCount := 0, windowNumber := 0 } }

/-- A port's meters are cleared (R94): the four meters, a_p and A_p. -/
def PortMeter.clear (m : PortMeter) : PortMeter :=
  { m with meters := .replicate 4 .init, activity := 0, smoothed := 0, cleared := true }

/-! ## Sector load -/

/-- Load L_s of a sector (R103). -/
def Hub.sectorLoad (h : Hub) (s : SectorId) : Nat :=
  (List.finRange 24).foldl (fun acc p =>
    acc + if (h.assignOf p).counts = some s then h.lvm.ports[p].smoothed else 0) 0

/-! ## Commands -/

/-- WINDOW_END (R95). -/
def execWindowEnd (s : State) : Host.Outcome State Fault Refusal := s.atBoundary Hub.windowEnd

/-- The presentation that the detectors decided at this boundary (R140). -/
def Hub.overloadPresent (p : PortId) (h : Hub) : Hub :=
  if h.fsv.detectors[p].overloadDue then
    (h.onDet p fun d => { d with overloadDue := false }).present (.port p .ulOverload)
  else h

/-- UL_OVERLOAD_PRESENT (R140). -/
def execUlOverloadPresent (p : PortId) (s : State) : Host.Outcome State Fault Refusal :=
  s.atBoundary (Hub.overloadPresent p)

/-- UL_SILENT_PRESENT (R141). -/
def execUlSilentPresent (p : PortId) (s : State) : Host.Outcome State Fault Refusal :=
  s.atBoundary (Hub.silentPresent p)

/-- The presentation that the CRC_RATE detector decided when the count rose (R139). -/
def Hub.cratePresent (p : PortId) (h : Hub) : Hub :=
  if h.fsv.detectors[p].crcDue then
    (h.onDet p fun d => { d with crcDue := false }).present (.port p .crcRate)
  else h

/-- The presentations that the detectors of port `p` decided at this boundary (R139 to R141). DESIGN CHOICE
(log 54): they are taken in this order, which is that of their history entries. -/
def Hub.presentDue (p : PortId) (h : Hub) : Hub :=
  ((h.cratePresent p).overloadPresent p).silentPresent p

/-- CRC_RATE_PRESENT (R139). -/
def execCrcRatePresent (p : PortId) (s : State) : Host.Outcome State Fault Refusal :=
  s.atBoundary (Hub.cratePresent p)

end Sys2Proof.Machine
end

