-- ==== Sys2Proof/Machine/Delay.lean ====
section
/-! DEFINITION. DEQ: the recomputation at every boundary (R69 to R71, R74, R75) and the spread check (R76).
Both read the inputs as they stood throughout the frame that ended. -/

namespace Sys2Proof.Machine

/-- The sector in which a port counts, from its inputs in the frame that ended (R69). -/
def FrameInput.countedIn (f : FrameInput) : Option SectorId :=
  if f.link = .up then f.assign.counts else none

/-- The ports counted in a sector at this boundary (R69). -/
def Hub.countedPorts (h : Hub) (s : SectorId) : List PortId :=
  (List.finRange 24).filter fun p => h.frame[p].countedIn = some s

/-- Greatest of some delays; 0 of none. -/
def greatest (xs : List Nat) : Nat := xs.foldl max 0

/-- Smallest of some delays; 0 of none. -/
def smallest : List Nat → Nat
  | [] => 0
  | x :: xs => xs.foldl min x

/-- A sector's target, count and least delay (R70). -/
def Hub.sectorTarget (h : Hub) (s : SectorId) : SectorEq :=
  let delays := (h.countedPorts s).map fun p => h.frame[p].delay
  { target := greatest delays, counted := delays.length, least := smallest delays }

/-- A port's record after a recomputation with the given targets (R69, R71, R74, R75). -/
def PortEq.recompute (targets : Vector SectorEq 12) (f : FrameInput) (e : PortEq) : PortEq :=
  let need := match f.countedIn with
    | some s => targets[s].target - f.delay
    | none => 0
  let comp := min 1023 need
  let compRange := decide (1023 < need)
  { e with
    countedIn := f.countedIn
    delayTaken := f.delay
    comp := comp
    compRange := compRange
    rtTaken := f.rtRange
    range := f.rtRange || compRange
    steps := if f.countedIn.isSome ∧ comp ≠ e.comp then sat32 e.steps 1 else e.steps }

/-- The condition of port `p` presented or cleared where its DELAY_RANGE state changed from `was` (R75). Where a
RESTART is due nothing is handed on (R78). -/
def Hub.rangeChange (was : Vector PortEq 24) (p : PortId) (h : Hub) : Hub :=
  let now := h.deq.ports[p].range
  if now = was[p].range ∨ h.restartDue then h
  else if now then h.present (.port p .delayRange)
  else h.clearCondition (.port p .delayRange)

/-- DEQ_RECOMPUTE of the boundary under way, once (R69). DESIGN CHOICE (log 34): the DELAY_RANGE presentations
and clearings of one recomputation are handed on in ascending port number. -/
def Hub.deqRecompute (h : Hub) : Hub :=
  if h.bd.deqDone then h
  else
    let was := h.deq.ports
    let targets := tab h.sectorTarget
    let h := { h with
      deq := { sectors := targets, ports := tab fun p => (was[p]).recompute targets h.frame[p] }
      bd := { h.bd with deqDone := true } }
    each (Hub.rangeChange was) h

/-- The spread check of port `p` into sector `t` (R76). -/
def Hub.spreadPasses (h : Hub) (p : PortId) (t : SectorId) : Bool :=
  let set := p :: (h.countedPorts t).filter fun q => q ≠ p
  let delays := set.map fun q => h.frame[q].delay
  greatest delays ≤ smallest delays + 1023

/-- The samples that a delay line gives out in a frame (R72, R73): `frame` enters, oldest first; the
line holds the earlier samples newest first; the sample given out entered `c` instants earlier. -/
def lineOut (c : Nat) (frame line : List Quad) : List Quad :=
  (((frame.reverse ++ line).drop c).take frame.length).reverse

/-- The line after a frame has entered it: the last 1024 samples, newest first (R68). -/
def lineNext (frame line : List Quad) : List Quad := (frame.reverse ++ line).take 1024

end Sys2Proof.Machine
end

