-- ==== Sys2Proof/Machine/Cte.lean ====
section
/-! DEFINITION. The control transaction engine: abandonment (R156), selection (R151 to R153), misses and
exhaustion (R153, R155), the poll interval (R152), and priority polling (R157). Replies are judged in
`Link.lean`, since a good identify moves the link. -/

namespace Sys2Proof.Machine

/-- The transaction in flight is of port `p`. -/
def Cte.inFlight (c : Cte) (p : PortId) : Bool := c.transaction.any fun t => t.port = p

/-- What the CTE does when port `p` leaves PROVING or UP (R10, R156). -/
def Hub.cteExit (h : Hub) (p : PortId) : Hub :=
  let h := { h with cte := { h.cte with
    transaction := if h.cte.inFlight p then none else h.cte.transaction } }
  h.onCte p fun c => { c with pending := false, misses := 0, field := none }

/-- Start an attempt (R153). -/
def Hub.startAttempt (h : Hub) (p : PortId) (k : TxKind) (attempt remaining : Nat) : Hub :=
  let seq := h.cte.sequence + 1
  { h with cte := { h.cte with
    sequence := seq
    transaction := some { port := p, kind := k, attempt := attempt, sequence := seq,
                          remaining := remaining } } }

/-- Frames remaining at the start of an IDENTIFY attempt (R153). -/
def identifyFrames (attempt : Nat) : Nat :=
  match attempt with
  | 1 => 8 | 2 => 32 | 3 => 128 | _ => 512

/-- The lowest port at or above `pos` that satisfies `f`. -/
def lowestFrom (pos : Nat) (f : PortId → Bool) : Option PortId :=
  (List.finRange 24).find? fun p => pos ≤ p.val && f p

/-- A STATUS of port `p` on a turn of the regular pass (R152). -/
def Hub.passTurn (h : Hub) (p : PortId) : Hub :=
  { h with cte := { h.cte with pass := some (p.val + 1) } }.startAttempt p .status 1 64

/-- The regular turn (R152). -/
def Hub.regularTurn (h : Hub) : Hub :=
  match h.cte.pass with
  | none => h
  | some pos =>
    match lowestFrom pos h.isUp with
    | some p => h.passTurn p
    | none =>
      if h.cte.passWaiting then
        let h := { h with cte := { h.cte with passWaiting := false, pass := some 0 } }
        match lowestFrom 0 h.isUp with
        | some p => h.passTurn p
        | none => { h with cte := { h.cte with pass := none } }
      else { h with cte := { h.cte with pass := none } }

/-- A STATUS of port `p` on a priority turn (R151). -/
def Hub.priorityStatus (h : Hub) (p : PortId) : Hub :=
  { h with cte := { h.cte with priorityPos := p.val + 1 } }.startAttempt p .status 1 64

/-- The priority turn, or the regular turn it passes to (R151 steps 2 and 3). -/
def Hub.priorityTurn (h : Hub) : Hub :=
  let inSet := fun p : PortId => h.cte.priority[p] && h.isUp p
  match lowestFrom h.cte.priorityPos inSet with
  | some p => h.priorityStatus p
  | none =>
    match lowestFrom 0 inSet with
    | none => h.regularTurn
    | some p =>
      let h := { h with cte := { h.cte with priorityPos := 0 } }
      if h.cte.pass.isSome then h.regularTurn else h.priorityStatus p

/-- The port whose identify is selected (R151 step 1). -/
def Hub.identifyTurn (h : Hub) : Option PortId :=
  lowestFrom 0 fun p => (h.linkOf p).aligned && h.cte.ports[p].pending && !h.cte.ports[p].hold

/-- CTE_SELECT, with no transaction in flight and at most one selection at a boundary (R151). DESIGN CHOICE
(log 55): that holds too where the transaction selected is abandoned at the same boundary (R156). -/
def Hub.cteSelect (h : Hub) : Hub :=
  if h.cte.transaction.isSome ∨ h.bd.selectDone then h
  else
    let h := { h with bd := { h.bd with selectDone := true } }
    match h.identifyTurn with
    | some p =>
      let n := h.cte.ports[p].nextAttempt
      (h.onCte p fun c => { c with pending := false }).startAttempt p .identify n (identifyFrames n)
    | none => h.priorityTurn

/-- The control field handed on for a port is a reply to the transaction (R154): port, kind and sequence
number agree, and an IDENTIFY reply has a non-empty lane mask. A field handed on at the boundary at which the
attempt starts answers nothing: its port had nothing in flight, and replies are taken at later boundaries (R153). -/
def Hub.replyOf (h : Hub) (t : Transaction) : Option (List Byte) :=
  if h.bd.selectDone then none
  else h.cte.ports[t.port].field.filter fun f =>
    fieldKind f = some t.kind ∧ fieldSequence f = t.sequence
      ∧ (t.kind = .identify → (identifyFields f).mask ≠ 0)

/-- The identify of port `p` is exhausted (R155). -/
def Hub.exhausted (h : Hub) (p : PortId) : Hub :=
  let h := h.present (.port p .rauNoReply)
  let h := h.onCte p fun c => { c with nextAttempt := 1 }
  if h.tables.responseMode (FaultKey.row (.port p .rauNoReply)) = .ignore then h.newIdentify p
  else h.onCte p fun c => { c with hold := true }

/-- ATTEMPT_MISS: the frames remaining have reached 0, the boundary's frame of the port has been handed
on and holds no reply (R153). -/
def Hub.attemptMiss (h : Hub) : Hub :=
  match h.cte.transaction with
  | none => h
  | some t =>
    if t.remaining ≠ 0 ∨ !h.lnk.remote[t.port].core.handed ∨ (h.replyOf t).isSome then h
    else
      let h := { h with cte := { h.cte with transaction := none } }
      match t.kind with
      | .identify =>
        if t.attempt < 4 then
          h.onCte t.port fun c => { c with nextAttempt := t.attempt + 1, pending := true }
        else h.exhausted t.port
      | .status =>
        let third := h.cte.ports[t.port].misses = 2
        let h := h.onCte t.port fun c => { c with misses := bump 3 c.misses }
        if third then h.present (.port t.port .rauNoReply) else h

/-- The poll count at a second mark (R152). Where it reaches the status poll interval, the mark is a poll interval,
left due for POLL_INTERVAL, and the count returns to 0. DESIGN CHOICE (log 45): taken after a SITE activation of its
boundary, the mark counts as 1 toward the restarted count, which it compares with the interval from before (R31,
R35). -/
def Hub.markPoll (h : Hub) : Hub :=
  let n := h.cte.pollCount + 1
  if h.eventTables.pollInterval ≤ n then { h with cte := { h.cte with pollCount := 0, pollDue := true } }
  else { h with cte := { h.cte with pollCount := n } }

/-- POLL_INTERVAL: a regular pass starts, or one is set as waiting (R152). -/
def Hub.pollInterval (h : Hub) : Hub :=
  if h.cte.pollDue then
    { h with cte := { h.cte with
      pollDue := false
      pass := if h.cte.pass.isSome then h.cte.pass else some 0
      passWaiting := h.cte.passWaiting || h.cte.pass.isSome } }
  else h

/-- CTE_SELECT (R151). -/
def execCteSelect (s : State) : Host.Outcome State Fault Refusal := s.atBoundary Hub.cteSelect

/-- ATTEMPT_MISS (R153). -/
def execAttemptMiss (s : State) : Host.Outcome State Fault Refusal := s.atBoundary Hub.attemptMiss

/-- POLL_INTERVAL (R152). -/
def execPollInterval (s : State) : Host.Outcome State Fault Refusal := s.atBoundary Hub.pollInterval

/-- COOLING_EXPIRY (R143). -/
def execCoolingExpiry (k : FaultKey) (s : State) : Host.Outcome State Fault Refusal :=
  s.atBoundary fun h => h.coolingExpiry k

/-- SETTLE_EXPIRY (R143). -/
def execSettleExpiry (k : FaultKey) (s : State) : Host.Outcome State Fault Refusal :=
  s.atBoundary fun h => h.settleExpiry k

end Sys2Proof.Machine
end

