-- ==== Sys2Proof/Machine/Load.lean ====
section
/-! DEFINITION. TLD: the ends of a load (R163, R164), DATA and CHECK cells (R161, R162), and the cells that
MGA acts on (R169). -/

namespace Sys2Proof.Machine

/-- A load ends with an outcome: the pending image is discarded, the phase returns to NONE, the last
outcome record is written and the LOAD notice raised (R163, R164). -/
def Hub.endLoad (h : Hub) (o : LoadOutcome) : Hub :=
  let last : LastOutcome := { table := h.tld.table, outcome := o, stamp := h.mga.seconds }
  { h with tld := { h.tld with phase := .none, image := [], last := some last } }.raise .load

/-- An OPEN or CLOSING load ends as ABANDONED (R164). -/
def Hub.abandonLoad (h : Hub) (c : AbandonCause) : Hub :=
  if h.tld.phase = .none then h else h.endLoad (.abandoned c)

/-- Record a load's first error, in the open burst, unless it already has one (R161, R162). -/
def Tld.fail (t : Tld) (k : LoadErrorKind) : Tld :=
  match t.firstError with
  | some _ => t
  | none => { t with firstError := some (t.burstsClosed + 1, k) }

/-- A DATA cell (R161). -/
def Tld.data (t : Tld) (c : Cell) : Tld :=
  match t.phase with
  | .none => { t with stray := sat32 t.stray 1 }
  | .closing => t.fail .lateCell
  | .opened =>
    let t := if c.tag = t.expectedTag then t else t.fail .sequence
    { t with
      silence := 0
      expectedTag := c.tag + 1
      burstCrc := crcFrom t.burstCrc c.payload
      burstCells := bump 255 t.burstCells
      image := t.image ++ c.payload.take (t.declared - t.image.length)
      received := min (t.received + 12) 3060 }

/-- A CHECK cell (R162). -/
def Tld.check (t : Tld) (c : Cell) : Tld :=
  match t.phase with
  | .none => { t with stray := sat32 t.stray 1 }
  | .closing => t.fail .lateCell
  | .opened =>
    let t := if word16At c.payload 0 = t.burstCrc.toNat then t else t.fail .crcMismatch
    { t with
      silence := 0
      burstsClosed := bump 255 t.burstsClosed
      burstCells := 0
      burstCrc := 0x5A3C }

/-- LOAD_TIMEOUT: the silence count of an OPEN load has reached 16,000 (R164). -/
def Hub.loadTimeout (h : Hub) : Hub :=
  if h.tld.phase = .opened ∧ 16000 ≤ h.tld.silence then h.endLoad .timeout else h

/-! ## Cells handed on to MGA (R169) -/

/-- Act on the cell handed on at this boundary if it is of type `k`. -/
def Hub.takeCell (k : CellType) (act : Cell → Hub → Hub) (h : Hub) : Hub :=
  match h.mga.cell with
  | none => h
  | some c =>
    if c.kind = k then act c { h with mga := { h.mga with cell := none } } else h

/-- A REQUEST cell joins the request queue or is discarded by overrun (R169); a LOAD_END that joins moves
an OPEN load to CLOSING (R163), unless the load's silence count has reached 16,000 at this boundary: then the
load ends as TIMEOUT (R164). DESIGN CHOICE (log 52): a LOAD_END of wrong length counts as one, and its refusal leaves
the phase CLOSING. -/
def Hub.acceptRequest (c : Cell) (h : Hub) : Hub :=
  if 4 ≤ h.mga.requests.length then
    { h with mga := { h.mga with overrun := sat32 h.mga.overrun 1 } }.raise .overrun
  else
    let h := { h with mga := { h.mga with requests := h.mga.requests ++ [c] } }
    if c.reqKind = some .loadEnd then
      let h := h.loadTimeout
      if h.tld.phase = .opened then { h with tld := { h.tld with phase := .closing } } else h
    else h

/-- A RESPONSE cell or a cell of undefined type is discarded and counted (R169, R179). -/
def Hub.unexpectedCell (_ : Cell) (h : Hub) : Hub :=
  { h with mga := { h.mga with unexpected := sat32 h.mga.unexpected 1 } }

/-- IDLE_CELL (R169). -/
def execIdleCell (s : State) : Host.Outcome State Fault Refusal :=
  s.atBoundary (Hub.takeCell .idle fun _ h => h)

/-- REQUEST_CELL (R169). -/
def execRequestCell (s : State) : Host.Outcome State Fault Refusal :=
  s.atBoundary (Hub.takeCell .request Hub.acceptRequest)

/-- DATA_CELL (R161). -/
def execDataCell (s : State) : Host.Outcome State Fault Refusal :=
  s.atBoundary (Hub.takeCell .data fun c h => { h with tld := h.tld.data c })

/-- CHECK_CELL (R162). -/
def execCheckCell (s : State) : Host.Outcome State Fault Refusal :=
  s.atBoundary (Hub.takeCell .check fun c h => { h with tld := h.tld.check c })

/-- RESPONSE_CELL (R169). -/
def execResponseCell (s : State) : Host.Outcome State Fault Refusal :=
  s.atBoundary (Hub.takeCell .response Hub.unexpectedCell)

/-- LOAD_TIMEOUT (R164). -/
def execLoadTimeout (s : State) : Host.Outcome State Fault Refusal := s.atBoundary Hub.loadTimeout

end Sys2Proof.Machine
end

