-- ==== Sys2Proof/Machine/Link.lean ====
section
/-! DEFINITION. LNK: entries and exits of the link states (R3 to R10, R14, R15), the frames handed on (R2, R4,
R5, R11 to R13, R17), delay measurements (R18, R19), and the RAU replies (R8, R154). -/

namespace Sys2Proof.Machine

/-! ## Delay measurements -/

/-- Report of a MEASURE_DELAY response: taken, D_p, last RT, RT-range indication (R19). -/
def measureReport (r : RemoteLink) (taken : Nat) : List Byte :=
  BitVec.ofNat 8 taken :: toBytes 2 r.delay ++ toBytes 2 r.lastRT ++ [boolByte r.rtRange]

/-- A running measurement of port `p` ends with a status; a waiting request is answered (R18, R19). DESIGN CHOICE
(log 42): origin, taken, minimum and elapsed keep their last values while the record is IDLE. -/
def Hub.endMeasurement (h : Hub) (p : PortId) (status : Status) : Hub :=
  let m := h.lnk.remote[p].meas
  let h := h.onRemote p fun r => { r with meas := { r.meas with running := false } }
  match m.origin with
  | .entry => h
  | .request tag => (h.respond tag status 0 (measureReport h.lnk.remote[p] m.taken)).free

/-- A measurement of port `p` starts (R18). -/
def Hub.startMeasurement (h : Hub) (p : PortId) (o : Origin) : Hub :=
  h.onRemote p fun r =>
    { r with meas := { running := true, origin := o, taken := 0, minimum := none, elapsed := 0 } }

/-- Port `p` leaves PROVING or UP: its running measurement ends as ABORTED, and a MEASURE_DELAY whose
measurement had not started is answered TIMEOUT with taken 0 (R18, R19). -/
def Hub.abortMeasurement (h : Hub) (p : PortId) : Hub :=
  let h := if h.lnk.remote[p].meas.running then h.endMeasurement p .timeout else h
  match h.mga.busy with
  | some (.measureStart tag q) =>
    if q = p then (h.respond tag .timeout 0 (measureReport h.lnk.remote[p] 0)).free else h
  | _ => h

/-- MEASUREMENT_DONE: four round trips have been taken (R18). -/
def Hub.measurementDone (p : PortId) (h : Hub) : Hub :=
  let m := h.lnk.remote[p].meas
  if m.running ∧ m.taken = 4 then
    let (least, out) := m.minimum.getD (0, false)
    let h := h.onRemote p fun r =>
      { r with lastRT := least, delay := (least + 1) / 2, rtRange := out }
    h.endMeasurement p .ok
  else h

/-- MEASUREMENT_TIMEOUT: elapsed has reached 16 with taken below 4, this boundary's frame counted (R18). -/
def Hub.measurementTimeout (p : PortId) (h : Hub) : Hub :=
  let r := h.lnk.remote[p]
  if r.meas.running ∧ 16 ≤ r.meas.elapsed ∧ r.meas.taken < 4 ∧ r.core.handed then
    h.endMeasurement p .timeout
  else h

/-- DELAY_MEASUREMENT_START, at the boundary after an accepted MEASURE_DELAY (R19). -/
def Hub.measurementStart (h : Hub) : Hub :=
  match h.mga.busy with
  | some (.measureStart tag p) =>
    if h.mga.busyRipe then
      { h.startMeasurement p (.request tag) with mga := { h.mga with busy := some (.measuring p) } }
    else h
  | _ => h

/-- A round trip taken into a running measurement (R18). -/
def Measurement.take (m : Measurement) (rt : Nat × Bool) : Measurement :=
  let least := match m.minimum with
    | none => rt
    | some old =>
      if rt.1 < old.1 then rt
      else if rt.1 = old.1 then (old.1, old.2 && rt.2)
      else old
  { m with taken := bump 4 m.taken, minimum := some least }

/-! ## Link states -/

/-- A link core that enters DOWN, and moves on to HUNT at once where signal is present (R3). -/
def LinkCore.enterDown (c : LinkCore) : LinkCore :=
  { c with state := if c.signal then .hunt else .down, good := 0, bad := 0, cand := none, last := none }

/-- A link core that leaves its aligned state for HUNT: the search starts afresh (R5). -/
def LinkCore.enterHunt (c : LinkCore) : LinkCore :=
  { c with state := .hunt, good := 0, cand := none, last := none }

/-- A link core that enters an aligned state (R4). -/
def LinkCore.enterAligned (st : LinkState) (c : LinkCore) : LinkCore :=
  { c with state := st, bad := 0 }

/-- One more exit from an aligned state by signal-absent or bad markers (R13). -/
def LinkCore.countDrop (c : LinkCore) : LinkCore := { c with drops := sat32 c.drops 1 }

/-- The enabled carriers of donor `d` change runtime state as R37 gives for the donor's change. DESIGN CHOICE (log
46): the hold flag was set or cleared when its request was taken, so a donor that reaches UP before the effect of
OPERATOR_HOLD or OPERATOR_RELEASE at the same boundary already follows it (R38). -/
def Hub.donorCarriers (h : Hub) (d : DonorId) : Hub :=
  let carriers := tab fun c =>
    if carrierDonor c = d ∧ h.dlc.carriers[c] ≠ .absent then
      if h.lnk.donor[d].state ≠ .up then .lost
      else if h.dlc.holds[h.tables.operator c] then .held
      else .active
    else h.dlc.carriers[c]
  { h with dlc := { h.dlc with carriers := carriers } }

/-! ## Frames handed on -/

/-- The last 31 bits of the stretch before `a` where `a` follows it: a marker that ends in `a` may begin there (R4). -/
def LinkCore.lead (c : LinkCore) (a : Arrival) : List Bool :=
  match c.last with
  | some b => if b.pos = a.pos then (bitsOf b.bytes).drop ((bitsOf b.bytes).length - 31) else []
  | none => []

/-- The frame at the aligned position that the stretch `a` completes (R4, R5): `a` itself where it lies at that
position, and else one that began in the stretch before it. Where `a` does not follow that stretch there is none, and
`a`, which lies elsewhere, stands for a bad marker. -/
def LinkCore.cut (l : LinkId) (c : LinkCore) (a : Arrival) : Arrival :=
  match c.cand, c.last with
  | some pos, some b => if b.pos = a.pos ∧ pos ≠ a.pos then splice l b a pos else a
  | _, _ => a

/-- The search of R4 from bit `i` of the bits that the stretch `a` adds, `lead` before it: the first marker fixes the
candidate. -/
def LinkCore.searchFrom (l : LinkId) (c : LinkCore) (a : Arrival) (i : Nat) : LinkCore :=
  let period := 8 * frameLength l
  match firstMarker ((c.lead a ++ bitsOf a.bytes).drop i) i with
  | some j =>
    { c with
      cand := some ((a.pos + period + j - (c.lead a).length) % period), good := 1, last := some a }
  | none => { c with cand := none, good := 0, last := some a }

/-- One frame period of a link in HUNT, in which the stretch `a` was received (R4): the search of the bit stream, or
the look at the candidate position. The frame that begins with the fourth good marker is complete with `a` where the
marker does not begin within it. A link that has its fourth good marker is aligned already: it takes a frame to
deliver (R2). DESIGN CHOICE (log 29): a stretch that does not follow the one before it breaks the bit stream, so the
candidate is dropped and the search starts again with it. -/
def LinkCore.search (l : LinkId) (c : LinkCore) (a : Arrival) : LinkCore :=
  let period := 8 * frameLength l
  if 4 ≤ c.good then { c with arrival := some (c.cut l a), last := some a }
  else match c.cand with
  | none => c.searchFrom l a 0
  | some pos =>
    let i := (pos + period + (c.lead a).length - a.pos) % period
    if c.last.any fun b => b.pos ≠ a.pos then c.searchFrom l a 0
    else if markerAt (c.lead a ++ bitsOf a.bytes) i then
      { c with
        good := bump 4 c.good, last := some a
        arrival := if c.good = 3 ∧ i ≤ (c.lead a).length then some (c.cut l a) else c.arrival }
    else c.searchFrom l a (i + 1)

/-- No marker in the frame period of a link in HUNT (R4). DESIGN CHOICE (log 29): one that has its fourth good marker
goes on waiting for the rest of that frame. -/
def LinkCore.searchNothing (c : LinkCore) : LinkCore :=
  if 4 ≤ c.good then c else { c with cand := none, good := 0, last := none }

/-- A bad marker at the aligned position (R5). -/
def LinkCore.badMarker (c : LinkCore) : LinkCore := { c with bad := bump 8 c.bad }

/-- A frame delivered as SLIPPED (R5, R13). -/
def LinkCore.slip (c : LinkCore) : LinkCore :=
  { c.badMarker with slips := sat32 c.slips 1, verdict := some .slipped, samples := [] }

/-- A frame delivered as ERRORED (R5, R13). -/
def LinkCore.err (c : LinkCore) : LinkCore :=
  { c with bad := 0, errored := sat32 c.errored 1, verdict := some .errored, samples := [] }

/-- A frame delivered as GOOD, with its payload (R5). -/
def LinkCore.accept (c : LinkCore) (payload : List Quad) : LinkCore :=
  { c with bad := 0, verdict := some .good, samples := payload }

/-- An ERRORED verdict of remote port `p`: the errored-this-second count rises, and the CRC_RATE detector
compares it (R13, R139). -/
def Hub.erroredSecond (h : Hub) (p : PortId) : Hub :=
  let n := bump 16000 h.lnk.remote[p].erroredSec
  let due := h.tables.param (FaultKey.row (.port p .crcRate)) ≤ n
  let h := h.onRemote p fun r => { r with erroredSec := n }
  h.onDet p fun d => { d with crcDue := d.crcDue || due }

/-- What a GOOD frame of remote port `p` hands on beside its payload: its round trip (R17, R18), its lane
mask while UP (R11), and its control field (R12). -/
def Hub.goodRemote (h : Hub) (p : PortId) (a : Arrival) : Hub :=
  let h := h.onRemote p fun r =>
    if r.meas.running ∧ 0 < r.meas.elapsed ∧ r.meas.taken < 4 ∧ echoPresent a.bytes then
      { r with meas := r.meas.take (roundTrip (foundAt h.lnk.frameNumber a) a.bytes) }
    else r
  let identifying := h.cte.transaction.any fun t => t.port = p ∧ t.kind = .identify
  let differs := h.isUp p ∧ headerMask a.bytes ≠ h.lnk.remote[p].mask
  h.onCte p fun c => { c with
    field := some (controlPart (.remote p) a.bytes)
    pending := if differs ∧ !identifying then true else c.pending }

/-- Deliver a frame of an aligned link with its verdict (R5). -/
def Hub.deliver (h : Hub) (l : LinkId) (a : Arrival) : Hub :=
  if !(markerGood a.bytes ∧ (h.core l).cand = some a.pos) then h.onCore l LinkCore.slip
  else if !crcMatches l a.bytes then
    let h := h.onCore l LinkCore.err
    match l with
    | .remote p => h.erroredSecond p
    | _ => h
  else
    match l with
    | .remote p =>
      (h.onCore l fun c => c.accept (payloadSamples (payloadPart l a.bytes))).goodRemote p a
    | .donor _ => h.onCore l fun c => c.accept (payloadSamples (payloadPart l a.bytes))
    | .trunk =>
      let h := h.onCore l fun c => c.accept []
      { h with mga := { h.mga with cell := some (cellOf (controlPart l a.bytes)) } }

/-- RECEIVE_FRAME: the stretches of received bits of a link that became complete since the last boundary, oldest
first. Of an aligned link the frame that the last one completes is handed on and earlier ones are dropped; with none,
nothing is handed on, which counts as a bad marker (R2, R5). A link in HUNT searches each of them (R4). One handing-on
of a link is taken at a boundary. -/
def Hub.receiveFrame (l : LinkId) (done : List Arrival) (h : Hub) : Hub :=
  if (h.core l).handed then h
  else
    let h := h.onCore l fun c => { c with handed := true }
    match (h.core l).state with
    | .disabled => h
    | .down => h
    | .hunt => h.onCore l fun c =>
        if done = [] then c.searchNothing else done.foldl (LinkCore.search l) c
    | _ =>
      match done.getLast? with
      | none => h.onCore l LinkCore.badMarker
      | some a =>
        let frame := { h.core l with last := done.dropLast.getLast?.or (h.core l).last }.cut l a
        (h.onCore l fun c => { c with last := some a }).deliver l frame

/-- A link in HUNT whose good-marker count has reached 4 enters its aligned state (R4, R7, R14, R15). -/
def Hub.enterAligned (h : Hub) (l : LinkId) : Hub :=
  match l with
  | .remote p =>
    let h := h.onCore l (LinkCore.enterAligned .proving)
    (h.startMeasurement p .entry).newIdentify p
  | .donor d =>
    let h := h.onCore l (LinkCore.enterAligned .up)
    ((h.donorCarriers d).raise .link).clearCondition (.donor d)
  | .trunk => (h.onCore l (LinkCore.enterAligned .up)).raise .link

/-- LINK_ALIGNED, once the frame of the fourth good marker is complete: the link enters PROVING or UP, and that frame is
the first one it delivers (R4). -/
def Hub.linkAligned (l : LinkId) (h : Hub) : Hub :=
  let c := h.core l
  match c.arrival with
  | some a => if c.state = .hunt ∧ 4 ≤ c.good then (h.enterAligned l).deliver l a else h
  | none => h

/-! ## RAU replies (R8, R154) -/

/-- A matching reply answers the transaction: the record becomes none, the miss count 0, RAU_NO_REPLY
clears (R154). -/
def Hub.answerTransaction (h : Hub) (p : PortId) : Hub :=
  let h := { h with cte := { h.cte with transaction := none } }
  let h := h.onCte p fun c => { c with misses := 0, field := none }
  h.clearCondition (.port p .rauNoReply)

/-- LNK takes a good identify reply (R8, R9, R10, R11). -/
def Hub.goodIdentify (h : Hub) (p : PortId) (mask : LaneMask) : Hub :=
  let proving := h.linkOf p = .proving
  let h := h.onRemote p fun r => { r with mask := mask }
  if proving then
    let h := h.onCore (.remote p) fun c => { c with state := .up }
    (h.raise .link).clearCondition (.port p .linkLoss)
  else h

/-- IDENTIFY_REPLY (R154). DESIGN CHOICE (log 54): the history entry of RAU_NO_REPLY comes before that of LINK_LOSS. -/
def Hub.identifyReply (h : Hub) : Hub :=
  match h.cte.transaction with
  | none => h
  | some t =>
    match t.kind, h.replyOf t with
    | .identify, some f =>
      let info := identifyFields f
      let h := h.answerTransaction t.port
      let h := h.onCte t.port fun c => { c with nextAttempt := 1, identify := some info }
      h.goodIdentify t.port info.mask
    | _, _ => h

/-- STATUS_REPLY (R154). DESIGN CHOICE (log 54): the history entry of RAU_NO_REPLY comes before that of RAU_ALARM. -/
def Hub.statusReply (h : Hub) : Hub :=
  match h.cte.transaction with
  | none => h
  | some t =>
    match t.kind, h.replyOf t with
    | .status, some f =>
      let info := statusFields f h.mga.seconds
      let h := h.answerTransaction t.port
      let h := h.onCte t.port fun c => { c with status := some info }
      if info.alarms ≠ 0 then h.present (.port t.port .rauAlarm)
      else h.clearCondition (.port t.port .rauAlarm)
    | _, _ => h

/-- What the frame of port `p` handed on at this boundary has decided already: alignment by the fourth good marker
(R4), a measurement that its fourth round trip completes (R18), a reply (R8, R154). An exit of the port that
is taken afterwards at the boundary finds it done. -/
def Hub.takeDue (p : PortId) (h : Hub) : Hub :=
  let h := h.linkAligned (.remote p)
  if (h.linkOf p).aligned then
    let h := h.measurementDone p
    if h.cte.inFlight p then h.identifyReply.statusReply else h
  else h

/-- What has been decided for a link when a signal-absent event reaches it: for a remote port `takeDue`, for a
donor or the trunk its alignment (R4). -/
def Hub.takeLinkDue (l : LinkId) (h : Hub) : Hub :=
  match l with
  | .remote p => h.takeDue p
  | _ => h.linkAligned l

/-! ## Exits -/

/-- Remote port `p` leaves PROVING or UP, its core changed by `leave` (R10). `loss` holds for signal-absent
and bad markers, which present LINK_LOSS. DESIGN CHOICE (log 43): LINK wakes the port and marks its move before
LINK_LOSS leaves IDLE, so the wake cause and the ending cause are LINK (R126, R131). -/
def Hub.exitRemote (h : Hub) (p : PortId) (leave : LinkCore → LinkCore) (loss : Bool) : Hub :=
  let wasUp := h.isUp p
  let h := h.abortMeasurement p
  let h := h.cteExit p
  let h := h.onRemote p fun r => { r with core := leave r.core, mask := 0 }
  let h := (h.setCombining p false).closeGates p
  let h := if wasUp then
      (((h.loopAbort p true).markMove p .link).wakePort p .link).raise .link
    else h
  if loss then
    (h.onCore (.remote p) LinkCore.countDrop).present (.port p .linkLoss)
  else h

/-- Donor `d` leaves UP (R14). -/
def Hub.exitDonor (h : Hub) (d : DonorId) (leave : LinkCore → LinkCore) : Hub :=
  let h := h.onCore (.donor d) fun c => leave c.countDrop
  ((h.donorCarriers d).raise .link).present (.donor d)

/-- The trunk leaves UP by signal-absent or bad markers (R15). -/
def Hub.exitTrunk (h : Hub) (leave : LinkCore → LinkCore) : Hub :=
  let h := h.onCore .trunk fun c => leave c.countDrop
  (h.raise .link).abandonLoad .trunk

/-- An aligned link leaves its aligned state by signal-absent or bad markers. -/
def Hub.loseLink (h : Hub) (l : LinkId) (leave : LinkCore → LinkCore) : Hub :=
  match l with
  | .remote p => h.exitRemote p leave true
  | .donor d => h.exitDonor d leave
  | .trunk => h.exitTrunk leave

/-- Signal-absent of a link (R3). What a frame handed on before it has decided is done first (R4, R8, R18). -/
def Hub.signalAbsent (l : LinkId) (h : Hub) : Hub :=
  let h := h.takeLinkDue l
  let h := h.onCore l fun c => { c with signal := false }
  let st := (h.core l).state
  if st = .disabled then h
  else if st.aligned then h.loseLink l LinkCore.enterDown
  else h.onCore l LinkCore.enterDown

/-- Signal-present of a link (R3). -/
def Hub.signalPresent (l : LinkId) (h : Hub) : Hub :=
  h.onCore l fun c =>
    if c.state = .down then { c with signal := true, state := .hunt } else { c with signal := true }

/-- LINK_ALIGNMENT_LOST: the bad-marker count of an aligned link has reached 8 (R5). -/
def Hub.alignmentLost (l : LinkId) (h : Hub) : Hub :=
  let c := h.core l
  if c.state.aligned ∧ 8 ≤ c.bad then (h.takeLinkDue l).loseLink l LinkCore.enterHunt else h

/-- All that this boundary has decided of port `p` and that its reset or its PORT activation must find done:
its frame, the exit that its eighth bad marker brings, FSV's detections and the overdrive flag (R5, R8, R18, R66,
R139 to R141). DESIGN CHOICE (log 54): they are taken in this order, which is that of their history entries. -/
def Hub.takePortDue (p : PortId) (h : Hub) : Hub :=
  (((h.takeDue p).alignmentLost (.remote p)).presentDue p).overdriveDue p

/-! ## Commands -/

/-- SIGNAL_PRESENT (R3). -/
def execSignalPresent (l : LinkId) (s : State) : Host.Outcome State Fault Refusal :=
  s.atBoundary (Hub.signalPresent l)

/-- SIGNAL_ABSENT (R3, R10, R14, R15). -/
def execSignalAbsent (l : LinkId) (s : State) : Host.Outcome State Fault Refusal :=
  s.atBoundary (Hub.signalAbsent l)

/-- RECEIVE_FRAME (R2). -/
def execReceiveFrame (l : LinkId) (done : List Arrival) (s : State) :
    Host.Outcome State Fault Refusal :=
  s.atBoundary (Hub.receiveFrame l done)

/-- LINK_ALIGNED (R4). -/
def execLinkAligned (l : LinkId) (s : State) : Host.Outcome State Fault Refusal :=
  s.atBoundary (Hub.linkAligned l)

/-- LINK_ALIGNMENT_LOST (R5). -/
def execLinkAlignmentLost (l : LinkId) (s : State) : Host.Outcome State Fault Refusal :=
  s.atBoundary (Hub.alignmentLost l)

/-- DELAY_MEASUREMENT_START (R19). -/
def execDelayMeasurementStart (s : State) : Host.Outcome State Fault Refusal :=
  s.atBoundary Hub.measurementStart

/-- MEASUREMENT_DONE (R18). -/
def execMeasurementDone (p : PortId) (s : State) : Host.Outcome State Fault Refusal :=
  s.atBoundary (Hub.measurementDone p)

/-- MEASUREMENT_TIMEOUT (R18). -/
def execMeasurementTimeout (p : PortId) (s : State) : Host.Outcome State Fault Refusal :=
  s.atBoundary (Hub.measurementTimeout p)

/-- IDENTIFY_REPLY (R154). -/
def execIdentifyReply (s : State) : Host.Outcome State Fault Refusal :=
  s.atBoundary Hub.identifyReply

/-- STATUS_REPLY (R154). -/
def execStatusReply (s : State) : Host.Outcome State Fault Refusal :=
  s.atBoundary Hub.statusReply

end Sys2Proof.Machine
end

