-- ==== Sys2Proof/Machine/Balance.lean ====
section
/-! DEFINITION. SBL: the balance interval (R114 to R119), entry into QUIET (R130), move start (R123, R124), the
ramp, commit and abandonment (R125, R127), the membership rebuild of an activation (R32), and SBL's part
of ENTER_SERVICE (R133) and PORT_RESET (R134). -/

namespace Sys2Proof.Machine

/-- A port is QUIET, an entry due at this boundary included (R130). -/
def Hub.isQuiet (h : Hub) (p : PortId) : Bool := h.sbl.ports[p].quiet || h.sbl.ports[p].quietDue

/-- Change SBL's state of a sector. -/
def Hub.onSector (h : Hub) (s : SectorId) (f : SectorBalance → SectorBalance) : Hub :=
  { h with sbl := { h.sbl with sectors := upd h.sbl.sectors s f } }

/-- A_p. -/
def Hub.smoothed (h : Hub) (p : PortId) : Nat := h.lvm.ports[p].smoothed

/-- The skip counter rises by `n` (R117, R119). -/
def Hub.skip (h : Hub) (n : Nat) : Hub := { h with sbl := { h.sbl with skips := sat32 h.sbl.skips n } }

/-! ## Candidates -/

/-- Step 1 of R114: last loads, working loads and working counts; whether a sector is over-loaded (R115). A
disabled sector has a load of 0 (R24, R103). DEDUCED (log 13): the step, which every mode takes, says whether a
sector is over-loaded in OFF too. -/
def Hub.takeLoads (h : Hub) : Hub :=
  let sectors := tab fun s =>
    let load := if h.tables.sectorOn s then h.sectorLoad s else 0
    { workLoad := load, workCount := h.assignedCount s, lastLoad := load,
      overloaded := h.tables.sectorOn s && decide (h.eventTables.highMark s < load) }
  { h with sbl := { h.sbl with sectors := sectors } }

/-- A port is eligible at a balance interval with the candidates made so far (R116). -/
def Hub.eligible (h : Hub) (made : List MoveEntry) (p : PortId) : Bool :=
  (h.assignOf p).sole.isSome && h.isUp p && !h.eventTables.pinned p && !h.isQuiet p
    && h.sbl.ports[p].holdOff = 0 && h.allIdle p && !h.inLoopTest p && !h.queued p
    && !made.any fun e => e.port = p

/-- A candidate is counted against the working values (R115). -/
def Hub.countCandidate (h : Hub) (e : MoveEntry) : Hub :=
  let a := h.smoothed e.port
  (h.onSector e.source fun b =>
      { b with workLoad := b.workLoad - a, workCount := b.workCount - 1 }).onSector e.target fun b =>
      { b with workLoad := b.workLoad + a, workCount := b.workCount + 1 }

/-- Sector `t` is a fitting target for port `p` (R117). -/
def Hub.fits (h : Hub) (p : PortId) (t : SectorId) : Bool :=
  let w := h.sbl.sectors[t]
  h.tables.sectorOn t && w.workCount < h.eventTables.maxMembers t
    && w.workLoad + h.smoothed p ≤ h.eventTables.highMark t && h.spreadPasses p t

/-- The ranked ports of a sector with excess `x` (R117). -/
def Hub.ranked (h : Hub) (made : List MoveEntry) (s : SectorId) (x : Nat) : List PortId :=
  let ports := (List.finRange 24).filter fun p =>
    h.eligible made p && h.assignOf p = .one s && !(h.eventTables.alternates p).isEmpty
  ((ports.filter fun p => x ≤ h.smoothed p).insertionSort fun p q => h.smoothed p ≤ h.smoothed q)
    ++ (ports.filter fun p => h.smoothed p < x).insertionSort fun p q => h.smoothed q ≤ h.smoothed p

/-- The candidate of an over-loaded sector: the first ranked port with a fitting alternate (R117). -/
def Hub.overloadCandidate (h : Hub) (made : List MoveEntry) (s : SectorId) : Option MoveEntry :=
  let x := h.sbl.sectors[s].lastLoad - h.eventTables.highMark s
  (h.ranked made s x).findSome? fun p =>
    ((h.eventTables.alternates p).find? fun t => h.fits p t).map fun t => ⟨p, s, t, .auto⟩

/-- One over-loaded sector's turn: its candidate, or a skip (R117). -/
def overloadTurn (x : Hub × List MoveEntry) (s : SectorId) : Hub × List MoveEntry :=
  match x.1.overloadCandidate x.2 s with
  | some e => (x.1.countCandidate e, x.2 ++ [e])
  | none => (x.1.skip 1, x.2)

/-- The over-loaded sectors, in descending order of excess, lower number first among equals (R115). -/
def Hub.overloadedSectors (h : Hub) : List SectorId :=
  let excess := fun s : SectorId => h.sbl.sectors[s].lastLoad - h.eventTables.highMark s
  ((List.finRange 12).filter fun s => h.tables.sectorOn s && h.sbl.sectors[s].overloaded).insertionSort
    fun s t => excess t ≤ excess s

/-- One port's turn in the return step: its counter, then its RETURN candidate (R118). -/
def returnTurn (x : Hub × List MoveEntry) (p : PortId) : Hub × List MoveEntry :=
  let (h, made) := x
  let home := h.tables.home p
  match (h.assignOf p).sole with
  | none => x
  | some s =>
    if s = home then x
    else
      let w := h.sbl.sectors[home]
      let holds := w.workLoad + h.smoothed p ≤ h.eventTables.returnMark home
      let count := if holds then bump 15 h.sbl.ports[p].returns else 0
      let h := h.onBal p fun b => { b with returns := count }
      let e : MoveEntry := ⟨p, s, home, .returning⟩
      if h.eventTables.returnCount home ≤ count ∧ h.eligible made p
          ∧ w.workCount < h.eventTables.maxMembers home ∧ h.spreadPasses p home then
        (h.countCandidate e, made ++ [e])
      else (h, made)

/-- An entry joins the queue's tail; a QUIET port wakes (R120, R131). -/
def Hub.enqueue (h : Hub) (e : MoveEntry) : Hub :=
  { h with sbl := { h.sbl with queue := h.sbl.queue ++ [e] } }.wakePort e.port .move

/-- AUTO disposal of one candidate (R119). -/
def Hub.disposeAuto (h : Hub) (e : MoveEntry) : Hub :=
  if 8 ≤ h.sbl.queue.length then h.skip 1 else h.enqueue e

/-- ADVISE disposal of an interval's candidates (R119). -/
def Hub.disposeAdvice (h : Hub) (made : List MoveEntry) : Hub :=
  let list := made.take 8
  let changed := list ≠ h.sbl.advice
  let h := { h with sbl := { h.sbl with advice := list, adviceStamp := h.mga.seconds } }
  let h := h.skip (made.length - 8)
  if changed then h.raise .advice else h

/-- Step 2 of R114: the balancing procedure. -/
def Hub.balance (h : Hub) : Hub :=
  let x := h.overloadedSectors.foldl overloadTurn (h, [])
  let (h, made) := (List.finRange 24).foldl returnTurn x
  match h.eventTables.mode with
  | .off => h
  | .advise => h.disposeAdvice made
  | .auto => made.foldl Hub.disposeAuto h

/-- The quiet conditions of an enabled port (R130). -/
def Hub.quietConditions (h : Hub) (p : PortId) : Bool :=
  h.eventTables.quietOn p && h.inService && h.isUp p && h.smoothed p < h.eventTables.quietMark p
    && !h.queued p && !h.ramping p && h.allIdle p && !h.inLoopTest p

/-- Step 3 of R114 for one port: its quiet count; an entry into QUIET is left due for QUIET_ENTRY. -/
def Hub.quietTest (p : PortId) (h : Hub) : Hub :=
  if !h.tables.portOn p then h
  else
    let holds := h.quietConditions p
    let limit := h.eventTables.quietLimit
    h.onBal p fun b =>
      let n := if holds then bump 15 b.quietCount else 0
      { b with quietCount := n, quietDue := !b.quiet && decide (limit ≤ n) }

/-- Step 4 of R114 for one port (R129). DESIGN CHOICE (log 49): it lowers the hold-off of a ramping port too. -/
def Hub.lowerHoldOff (p : PortId) (h : Hub) : Hub :=
  h.onBal p fun b => { b with holdOff := b.holdOff - 1 }

/-- BALANCE_INTERVAL, at a second mark at which the interval count reached the balance interval in SERVICE
(R114). After a SITE, SECTOR or PORT activation of the same boundary it takes the mode, marks, limits, counts,
alternates and quiet enabled from before it (R31); DEDUCED (log 36): which ports and sectors are enabled, and where a
port is at home, are as the activation's effects left them (R32, R33). -/
def Hub.balanceInterval (h : Hub) : Hub :=
  if h.inService ∧ h.sbl.intervalDue then
    let h := { h with sbl := { h.sbl with intervalDue := false } }.takeLoads
    let h := if h.eventTables.mode = .off then h else h.balance
    each Hub.lowerHoldOff (each Hub.quietTest h)
  else h

/-- QUIET_ENTRY of a port whose quiet count has reached the SITE quiet count (R130). -/
def Hub.quietEntry (p : PortId) (h : Hub) : Hub :=
  if h.sbl.ports[p].quietDue then h.enterQuiet p else h

/-! ## Moves -/

/-- The first test of R123 that a queue head fails, if any. -/
def Hub.startRefusal (h : Hub) (e : MoveEntry) : Option MoveOutcome :=
  if !h.isUp e.port then some .refusedNotUp
  else if h.tables.maxMembers e.target ≤ h.assignedCount e.target then some .refusedTargetFull
  else if h.assignedCount e.source < h.tables.minMembers e.source + 1 then some .refusedSourceMin
  else if !h.spreadPasses e.port e.target then some .refusedSpread
  else if (h.actions e.port).silences then some .refusedAction
  else none

/-- The move of a validated head starts (R124). -/
def Hub.beginMove (h : Hub) (e : MoveEntry) : Hub :=
  let m : MoveRecord := { entry := e, length := 2 ^ h.tables.rampCode e.target, step := 0,
                          ending := none, stamp := h.mga.seconds }
  { h with sbl := { h.sbl with flight := some m } }.onBal e.port fun b =>
    { b with assign := .two e.source e.target }

/-- MOVE_START: one head is considered at a boundary that began with no move in flight. Where it finds the queue
empty, an entry that joins afterwards waits for the next boundary (R123). -/
def Hub.moveStart (h : Hub) : Hub :=
  match h.sbl.flight, h.sbl.queue with
  | none, e :: rest =>
    if h.bd.headSeen then h
    else
      let h := { h with
        sbl := { h.sbl with queue := rest }
        bd := { h.bd with headSeen := true } }
      match h.startRefusal e with
      | some o => h.logMove e o
      | none => h.beginMove e
  | none, [] => { h with bd := { h.bd with headSeen := true } }
  | some _, _ => h

/-- RAMP_STEP: the step of a RAMPING move rises, short of the ramp's length (R125). -/
def Hub.rampStep (h : Hub) : Hub :=
  match h.sbl.flight with
  | none => h
  | some m =>
    if h.bd.rampDue ∧ m.ending = none ∧ m.step + 1 < m.length then
      { h with
        sbl := { h.sbl with flight := some { m with step := m.step + 1 } }
        bd := { h.bd with rampDue := false } }
    else h

/-- MOVE_COMMIT: the step at which k reaches R (R125). -/
def Hub.moveCommit (h : Hub) : Hub :=
  match h.sbl.flight with
  | none => h
  | some m =>
    if h.bd.rampDue ∧ m.ending = none ∧ m.length ≤ m.step + 1 then
      let p := m.entry.port
      let off := h.tables.holdOff p
      let h := { h with
        sbl := { h.sbl with flight := none }
        bd := { h.bd with rampDue := false } }
      let h := h.onBal p fun b =>
        { b with assign := .one m.entry.target, holdOff := off, returns := 0 }
      h.logMove m.entry .done
    else h

/-- Outcome of a move abandoned with its recorded cause (R127). -/
def EndingCause.outcome : EndingCause → MoveOutcome
  | .link => .abandonedLink
  | .action => .abandonedAction
  | .cancel => .abandonedCancel

/-- The move in flight is abandoned: source alone, logged, record none (R127). -/
def Hub.abandonMove (h : Hub) (m : MoveRecord) (o : MoveOutcome) : Hub :=
  let h := { h with
    sbl := { h.sbl with flight := none }
    bd := { h.bd with rampDue := false, abandonDue := false } }
  let h := h.onBal m.entry.port fun b => { b with assign := .one m.entry.source }
  h.logMove m.entry o

/-- MOVE_ABANDON, at the boundary after the marking (R126, R127). -/
def Hub.moveAbandon (h : Hub) : Hub :=
  match h.sbl.flight with
  | none => h
  | some m =>
    match m.ending with
    | some c => if h.bd.abandonDue then h.abandonMove m c.outcome else h
    | none => h

/-! ## Rebuilds and resets -/

/-- Every enabled port at its home with weight 4096, every disabled port at no sector (R32, R133). -/
def Hub.placeHome (p : PortId) (h : Hub) : Hub :=
  h.onBal p fun b => { b with assign := if h.tables.portOn p then .one (h.tables.home p) else .none }

/-- The membership rebuild of a SECTOR or PORT activation in SERVICE, with the new tables active (R32). A
QUIET port that is disabled now, or has quiet enabled set to no, wakes with cause TABLE (R131). -/
def Hub.rebuild (h : Hub) : Hub :=
  let h := match h.sbl.flight with
    | some m => h.abandonMove m .abandonedActivation
    | none => h
  let queue := h.sbl.queue
  let h := { h with sbl := { h.sbl with queue := [] } }
  let h := queue.foldl (fun h e => h.logMove e .cancelledActivation) h
  let h := each Hub.placeHome h
  let h := each (fun p h => h.onBal p fun b => { b with holdOff := 0, returns := 0, quietCount := 0 }) h
  let h := { h with sbl := { h.sbl with advice := [] } }
  each (fun p h =>
    if h.tables.portOn p && h.tables.quietOn p then h else h.wakePort p .table) h

/-- SBL's part of ENTER_SERVICE (R133). No move is in flight in CONFIG, so none is after it. -/
def Hub.balanceService (h : Hub) : Hub :=
  let h := each Hub.placeHome h
  let h := each (fun p h => h.onBal p fun b =>
    { b with holdOff := 0, returns := 0, quiet := false, quietCount := 0, wakeCause := .none,
             quietDue := false }) h
  { h with sbl := { h.sbl with
    flight := none, queue := [], log := [], logSequence := 0, advice := [], intervalCount := 0,
    intervalDue := false } }

/-- Assigned count of a sector, not counting port `p` (R134). -/
def Hub.countWithout (h : Hub) (p : PortId) (s : SectorId) : Nat :=
  (List.finRange 24).countP fun q => q ≠ p && (h.assignOf q).has s

/-- Where PORT_RESET places port `p` in SERVICE (R134 step 3); `ramped` is the source of its move. -/
def Hub.resetPlace (h : Hub) (p : PortId) (ramped : Option SectorId) : Assign :=
  let home := h.tables.home p
  if !h.tables.portOn p then .none
  else if h.countWithout p home < h.tables.maxMembers home then .one home
  else match ramped with
    | some src => .one src
    | none => h.assignOf p

/-- SBL's part of PORT_RESET (R134). -/
def Hub.balanceReset (h : Hub) (p : PortId) : Hub :=
  let h := h.onBal p fun b => { b with holdOff := 0, returns := 0 }
  if !h.inService then h.onBal p fun b => { b with quietCount := 0 }
  else
    let entry := h.sbl.queue.find? fun e => e.port = p
    let h := { h with sbl := { h.sbl with queue := h.sbl.queue.filter fun e => e.port ≠ p } }
    let h := match entry with
      | some e => h.logMove e .cancelledReset
      | none => h
    let flight := h.flightOf p
    let h := match flight with
      | some m => h.abandonMove m .abandonedReset
      | none => h
    let place := h.resetPlace p (flight.map fun m => m.entry.source)
    let h := h.onBal p fun b => { b with assign := place }
    if h.isQuiet p then h.wakePort p .reset
    else h.onBal p fun b => { b with quietCount := 0 }

/-! ## Commands -/

/-- BALANCE_INTERVAL (R114). -/
def execBalanceInterval (s : State) : Host.Outcome State Fault Refusal :=
  s.atBoundary Hub.balanceInterval

/-- QUIET_ENTRY (R130). -/
def execQuietEntry (p : PortId) (s : State) : Host.Outcome State Fault Refusal :=
  s.atBoundary (Hub.quietEntry p)

/-- MOVE_START (R123). -/
def execMoveStart (s : State) : Host.Outcome State Fault Refusal := s.atBoundary Hub.moveStart

/-- RAMP_STEP (R125). -/
def execRampStep (s : State) : Host.Outcome State Fault Refusal := s.atBoundary Hub.rampStep

/-- MOVE_COMMIT (R125). -/
def execMoveCommit (s : State) : Host.Outcome State Fault Refusal := s.atBoundary Hub.moveCommit

/-- MOVE_ABANDON (R127). -/
def execMoveAbandon (s : State) : Host.Outcome State Fault Refusal := s.atBoundary Hub.moveAbandon

end Sys2Proof.Machine
end

