-- ==== Sys2Proof/Machine/Activation.lean ====
section
/-! DEFINITION. The activation of a table (R31 to R36, R64, R108, R109, R165): the image becomes active whole,
with the effects that the change of its contents has on the live state of the blocks. -/

namespace Sys2Proof.Machine

/-! ## PORT (R33, R64, R108) -/

/-- Both delay lines of a port hold zeros (R79). -/
def PortEq.zeroLines (e : PortEq) : PortEq := { e with downLine := zeroLine, upLine := zeroLine }

/-- A measurement that is IDLE again. -/
def RemoteLink.stopMeasuring (r : RemoteLink) : RemoteLink :=
  { r with meas := { r.meas with running := false } }

/-- SBL's per-port state other than the assignment cleared (R33, R129). -/
def PortBalance.clear (b : PortBalance) : PortBalance :=
  { b with holdOff := 0, returns := 0, quiet := false, quietCount := 0, quietDue := false }

/-- The RAU record of a port is cleared (R33, R156). -/
def Hub.clearRau (h : Hub) (p : PortId) : Hub :=
  h.onCte p fun c => { c with identify := none, status := none }

/-- A port that a PORT activation enables (R33): DOWN, or HUNT where signal is present, with its per-port
state as after PORT_RESET but for the link, clip, attack and step counters. -/
def Hub.enablePort (p : PortId) (h : Hub) : Hub :=
  let h := h.takePortDue p
  let h := h.onRemote p fun r => { r.stopMeasuring with
    core := r.core.enterDown, mask := 0, rtRange := false }
  let h := h.onPlm p (PortLimiter.clear true)
  let h := h.onEq p PortEq.zeroLines
  let h := h.closeGates p
  let h := h.onMeter p fun m => { m.clear with loop := .none }
  let h := h.onBal p PortBalance.clear
  let h := h.resetRecords p false
  let h := h.onCte p fun c => { c with misses := 0 }
  (h.newIdentify p).clearRau p

/-- A link core that enters DISABLED. -/
def LinkCore.disable (c : LinkCore) : LinkCore :=
  { c with state := .disabled, good := 0, bad := 0, cand := none, last := none }

/-- A port that a PORT activation disables (R33): the exit effects of R10 where it was aligned, without
LINK_LOSS; cleared meters, gates, limiter and records. -/
def Hub.disablePort (p : PortId) (h : Hub) : Hub :=
  let h := h.takePortDue p
  let h := if (h.linkOf p).aligned then h.exitRemote p LinkCore.disable false
    else h.onCore (.remote p) LinkCore.disable
  let h := h.onRemote p fun r => { r with rtRange := false }
  let h := h.onPlm p (PortLimiter.clear true)
  let h := h.closeGates p
  let h := h.onMeter p PortMeter.clear
  let h := h.onBal p PortBalance.clear
  h.resetRecords p true

/-- A port that stays enabled: a changed limiter mode clears every lane's hold count, a changed ceiling
code that lane's (R33, R64). -/
def Hub.keepPort (old : Tables) (p : PortId) (h : Hub) : Hub :=
  let new := h.tables
  let modeChanged := old.limiterCode p ≠ new.limiterCode p
  h.onPlm p fun m => { m with
    lanes := tab fun b =>
      if modeChanged ∨ old.ceiling p b ≠ new.ceiling p b then { m.lanes[b] with hold := 0 }
      else m.lanes[b] }

/-- PORT_ACTIVATION_EFFECTS of one port, the new table active (R33). -/
def Hub.portActivated (old : Tables) (p : PortId) (h : Hub) : Hub :=
  match old.portOn p, h.tables.portOn p with
  | false, true => h.enablePort p
  | true, false => h.disablePort p
  | true, true => h.keepPort old p
  | false, false => h

/-! ## SITE, CARRIER and RESPONSE (R34 to R36) -/

/-- SITE_ACTIVATION_EFFECTS (R35, R109). A balance interval or poll interval that this boundary's second mark has
completed stays due (R114, R152). -/
def Hub.siteActivated (old : Tables) (h : Hub) : Hub :=
  let new := h.tables
  let h := if old.windowCode ≠ new.windowCode then h.restartWindow else h
  let h := if old.interval ≠ new.interval then
    { h with sbl := { h.sbl with intervalCount := 0 } } else h
  if old.pollInterval ≠ new.pollInterval then
    { h with cte := { h.cte with pollCount := 0 } } else h

/-- CARRIER_ACTIVATION_EFFECTS: every carrier's runtime state is re-derived (R34). -/
def Hub.carrierActivated (h : Hub) : Hub :=
  { h with dlc := { h.dlc with carriers := tab h.carrierStateNow } }

/-- A fault record carried over to the new mode of its class (R36). -/
def FaultRecord.carryOver (m : ResponseMode) (r : FaultRecord) : FaultRecord :=
  match m, r.state with
  | .ignore, _ => { r with state := .idle, retries := 0, timer := 0 }
  | .latched, .cooling => { r with state := .latched }
  | .report, .cooling => { r with state := .latched }
  | _, _ => r

/-- The eight records of a port, or the record of a donor, carried over under the tables `t`. -/
def carryPort (t : Tables) (v : Vector FaultRecord 8) : Vector FaultRecord 8 :=
  tab fun c => (v[c]).carryOver (t.responseMode c.val)

/-- What the carry-over of port `p` causes: a RAU_NO_REPLY record back in IDLE starts a new identify
sequence; an action that enters marks the move in flight (R36, R155). -/
def Hub.portCarried (wasIdle : Vector Bool 24) (old : Vector ActionSet 24) (p : PortId) (h : Hub) :
    Hub :=
  let idle := (h.faultRecord (.port p .rauNoReply)).state = .idle
  let h := if !wasIdle[p] ∧ idle then h.newIdentify p else h
  h.actionsEntered p old[p]

/-- RESPONSE_CARRY_OVER, the new table active (R36). `old` holds the action sets under the old table. -/
def Hub.responseActivated (old : Vector ActionSet 24) (h : Hub) : Hub :=
  let t := h.tables
  let wasIdle := tab fun p : PortId => decide ((h.faultRecord (.port p .rauNoReply)).state = .idle)
  let h := { h with fsv := { h.fsv with
    portRecords := mapTab (carryPort t) h.fsv.portRecords
    donorRecords := mapTab (FaultRecord.carryOver (t.responseMode 8)) h.fsv.donorRecords } }
  each (Hub.portCarried wasIdle old) h

/-! ## TABLE_ACTIVATION (R31, R165) -/

/-- The image of table `id` replaces the active one, and its loaded indication is set; what acts at a window end, a
balance interval or a second mark of this boundary still takes the old one (R31). -/
def Hub.installImage (h : Hub) (id : TableId) (img : List Byte) : Hub :=
  let tld := { h.tld with
    tables := h.tld.tables.put id img
    carrierLoaded := h.tld.carrierLoaded || decide (id = TableId.carrier)
    sectorLoaded := h.tld.sectorLoaded || decide (id = TableId.sector)
    portLoaded := h.tld.portLoaded || decide (id = TableId.port)
    scheduled := none
    scheduledRipe := false
    last := some { table := id, outcome := .activated, stamp := h.mga.seconds } }
  { h with tld := tld, bd := { h.bd with before := some h.tables } }.raise .load

/-- The effects of a newly active table on the live state (R32 to R36). -/
def Hub.activated (h : Hub) (id : TableId) (old : Tables) (oldActions : Vector ActionSet 24) : Hub :=
  match id with
  | .site => h.siteActivated old
  | .sector => if h.inService then h.rebuild else h
  | .carrier => h.carrierActivated
  | .port =>
    let h := if h.inService then h.rebuild else h
    each (Hub.portActivated old) h
  | .response => h.responseActivated oldActions

/-- TABLE_ACTIVATION of the scheduled image, at the first boundary after its LOAD_END (R165). -/
def Hub.tableActivation (h : Hub) : Hub :=
  match h.tld.scheduled with
  | none => h
  | some (id, img) =>
    if h.tld.scheduledRipe then
      (h.installImage id img).activated id h.tables (tab h.actions)
    else h

/-- TABLE_ACTIVATION (R165). -/
def execTableActivation (s : State) : Host.Outcome State Fault Refusal :=
  s.atBoundary Hub.tableActivation

end Sys2Proof.Machine
end

