-- ==== Sys2Proof/Machine/Reset.lean ====
section
/-! DEFINITION. Whole-hub and port events: POWER_ON (R20), the entry to SERVICE (R168), RESTART (R173) and
PORT_RESET (R21, R173) at the boundary where they take effect, and the effects of operator hold and
release (R38). -/

namespace Sys2Proof.Machine

/-! ## POWER_ON -/

/-- A link that starts in DOWN, and in HUNT at once where signal is present (R3, R20). -/
def LinkCore.start (enabled : Bool) (c : LinkCore) : LinkCore :=
  .init (if !enabled then .disabled else if c.signal then .hunt else .down) c.signal

/-- POWER_ON: every block in its power-on state; the receivers go on reporting what they see. -/
def Hub.powerOn (h : Hub) : Hub :=
  { Hub.init with lnk := { Lnk.init with
    remote := tab fun p => .init .disabled h.lnk.remote[p].core.signal
    donor := mapTab (LinkCore.start true) h.lnk.donor
    trunk := h.lnk.trunk.start true } }

/-! ## SERVICE_ENTRY -/

/-- PLM's part of ENTER_SERVICE (R65): every L is 4096 and every hold count 0. -/
def PortLimiter.fullFactor (m : PortLimiter) : PortLimiter :=
  { m with lanes := mapTab (fun l : LaneLimiter => { l with factor := 4096, hold := 0, restoreDue := false }) m.lanes }

/-- The hub enters SERVICE (R133, R109, R65). The second marks counted toward the first balance interval are
those after this boundary (R133). -/
def Hub.enterService (h : Hub) : Hub :=
  let h := { h with
    mga := { h.mga with hubState := .service }
    bd := { h.bd with serviceBegun := true } }
  let h := h.balanceService
  let h := { h with lvm := { h.lvm with
    ports := mapTab (fun m : PortMeter => { m with smoothed := 0 }) h.lvm.ports } }
  let h := h.restartWindow
  { h with plm := mapTab PortLimiter.fullFactor h.plm }

/-- SERVICE_ENTRY, at the boundary after an accepted ENTER_SERVICE (R168). -/
def Hub.serviceEntry (h : Hub) : Hub :=
  match h.mga.busy with
  | some (.enterService tag) =>
    if h.mga.busyRipe then (h.enterService.answerOk tag []).free else h
  | _ => h

/-! ## RESTART_EFFECT -/

/-- A link at RESTART (R20): as at power-on, but a frame already handed on at the boundary stays so. -/
def LinkCore.restart (enabled : Bool) (c : LinkCore) : LinkCore :=
  { c.start enabled with handed := c.handed }

/-- LNK at RESTART (R20): the hub frame number keeps running. -/
def Lnk.restart (t : Tables) (l : Lnk) : Lnk :=
  { l with
    remote := tab fun p =>
      { RemoteLink.init .disabled false with core := (l.remote[p].core).restart (t.portOn p) }
    donor := mapTab (LinkCore.restart true) l.donor
    trunk := l.trunk.restart true }

/-- MGA at RESTART (R171, R173): the response queue stays. -/
def Mga.restart (m : Mga) : Mga := { Mga.init with responses := m.responses, sent := m.sent }

/-- TLD at RESTART (R22, R159, R164): images and loaded indications stay; an open load leaves its ending. -/
def Tld.restart (t : Tld) : Tld :=
  { Tld.init t.tables t.carrierLoaded t.sectorLoaded t.portLoaded with
    last := if t.phase = .none then none
      else some { table := t.table, outcome := .abandoned .restart, stamp := 0 } }

/-- The restart takes effect (R173): every block in its power-on state, except for what its chapter keeps.
PLM and DEQ do nothing more for the frame that ended (R65, R78). -/
def Hub.restart (h : Hub) : Hub :=
  let loading := h.tld.phase ≠ .none
  let h : Hub := { Hub.init with
    lnk := h.lnk.restart h.tables
    mga := h.mga.restart
    tld := h.tld.restart
    frame := h.frame
    bd := { h.bd with limiterDone := true, deqDone := true, rampDue := false, abandonDue := false } }
  let h := h.carrierActivated
  if loading then h.raise .load else h

/-- RESTART_EFFECT, at the boundary after a RESTART (R173). -/
def Hub.restartEffect (h : Hub) : Hub :=
  match h.mga.busy with
  | some .restart => if h.mga.busyRipe then h.restart else h
  | _ => h

/-! ## PORT_RESET_EFFECT -/

/-- LNK's part of PORT_RESET (R21): HUNT, PROVING and UP go to DOWN, and on to HUNT where signal is present;
counts, lane mask, RT-range indication and counters are cleared. -/
def Hub.linkReset (h : Hub) (p : PortId) : Hub :=
  let h := if (h.linkOf p).aligned then h.exitRemote p LinkCore.enterDown false
    else if h.linkOf p = .hunt then h.onCore (.remote p) LinkCore.enterDown
    else h
  h.onRemote p fun r =>
    { r.stopMeasuring with
      core := { r.core with
        good := 0, bad := 0, cand := none, last := none, errored := 0, slips := 0, drops := 0 }
      mask := 0, rtRange := false, erroredSec := 0 }

/-- PORT_RESET of `p` acts on every block (R21, R50, R66, R79, R92, R110, R134, R149, R156). What the boundary
has decided of the port before is done first (R8, R18, R66). -/
def Hub.resetPort (h : Hub) (p : PortId) : Hub :=
  let h := (h.takePortDue p).balanceReset p
  let h := h.linkReset p
  let h := { h with dlc := { h.dlc with clips := upd h.dlc.clips p fun _ => .replicate 4 0 } }
  let h := h.setCombining p false
  let h := h.onPlm p (PortLimiter.clear false)
  let h := h.onEq p fun e => { e.zeroLines with steps := 0 }
  let h := h.closeGates p
  let h := h.onMeter p fun m => { m.clear with loop := .none }
  let h := h.resetRecords p false
  let h := h.cteExit p
  (h.newIdentify p).clearRau p

/-- Code of a remote port's link state, in the order of the table before R7 (R181). -/
def LinkState.code : LinkState → Byte
  | .disabled => 0 | .down => 1 | .hunt => 2 | .proving => 3 | .up => 4

/-- PORT_RESET_EFFECT, at the boundary after an accepted PORT_RESET (R21, R173). -/
def Hub.portResetEffect (h : Hub) : Hub :=
  match h.mga.busy with
  | some (.portReset tag p) =>
    if h.mga.busyRipe then
      let ended := h.queued p || h.ramping p
      let h := h.resetPort p
      (h.answerOk tag [(h.linkOf p).code, boolByte ended]).free
    else h
  | _ => h

/-! ## Operator hold and release (R38) -/

/-- The carriers of operator `o` in state `a` go to state `b`. -/
def Hub.shiftCarriers (h : Hub) (o : OperatorId) (a b : CarrierState) : Hub :=
  let carriers := tab fun c =>
    if h.tables.operator c = o ∧ h.dlc.carriers[c] = a then b else h.dlc.carriers[c]
  { h with dlc := { h.dlc with carriers := carriers } }

/-- How many carriers of operator `o` are in state `a`. -/
def Hub.carrierCount (h : Hub) (o : OperatorId) (a : CarrierState) : Nat :=
  (List.finRange 32).countP fun c => h.tables.operator c = o && h.dlc.carriers[c] = a

/-- OPERATOR_HOLD_EFFECT (R38). -/
def Hub.holdEffect (h : Hub) : Hub :=
  match h.mga.busy with
  | some (.operatorHold tag o) =>
    if h.mga.busyRipe then
      let n := h.carrierCount o .active
      ((h.shiftCarriers o .active .held).answerOk tag [BitVec.ofNat 8 n]).free
    else h
  | _ => h

/-- OPERATOR_RELEASE_EFFECT (R38). -/
def Hub.releaseEffect (h : Hub) : Hub :=
  match h.mga.busy with
  | some (.operatorRelease tag o) =>
    if h.mga.busyRipe then
      let n := h.carrierCount o .held
      ((h.shiftCarriers o .held .active).answerOk tag [BitVec.ofNat 8 n]).free
    else h
  | _ => h

/-! ## Commands -/

/-- POWER_ON (R20). -/
def execPowerOn (s : State) : Host.Outcome State Fault Refusal := s.onHub Hub.powerOn

/-- SERVICE_ENTRY (R168). -/
def execServiceEntry (s : State) : Host.Outcome State Fault Refusal := s.atBoundary Hub.serviceEntry

/-- RESTART_EFFECT (R173). -/
def execRestartEffect (s : State) : Host.Outcome State Fault Refusal :=
  s.atBoundary Hub.restartEffect

/-- PORT_RESET_EFFECT (R173). -/
def execPortResetEffect (s : State) : Host.Outcome State Fault Refusal :=
  s.atBoundary Hub.portResetEffect

/-- OPERATOR_HOLD_EFFECT (R38). -/
def execOperatorHoldEffect (s : State) : Host.Outcome State Fault Refusal :=
  s.atBoundary Hub.holdEffect

/-- OPERATOR_RELEASE_EFFECT (R38). -/
def execOperatorReleaseEffect (s : State) : Host.Outcome State Fault Refusal :=
  s.atBoundary Hub.releaseEffect

end Sys2Proof.Machine
end

