-- ==== Sys2Proof/Machine/Downlink.lean ====
section
/-! DEFINITION. DLC: the downlink frame record (R39, R42, R43, R47) and the sample chain of one port-lane
(R44 to R46, R49, R51). -/

namespace Sys2Proof.Machine

/-! ## The frame record -/

/-- Effective carrier gain G_c of carrier `c` on port `p` (R42). -/
def Hub.carrierGain (h : Hub) (p : PortId) (c : CarrierId) : Nat :=
  (roundShift (h.tables.downGain c * h.weight p (h.tables.carrierHome c)) 12).toNat

/-- The summand list of port-lane (p, b), in ascending carrier index (R43). -/
def Hub.summands (h : Hub) (p : PortId) (b : Lane) : List Summand :=
  let inSet := fun c : CarrierId =>
    h.dlc.carriers[c] ≠ .absent && h.tables.lane c = b && (h.assignOf p).has (h.tables.carrierHome c)
  ((List.finRange 32).filter inSet).map fun c =>
    { carrier := c, gain := h.carrierGain p c, contributing := h.dlc.carriers[c] = .active }

/-- Steps 1 and 2 of the output factor (R47). -/
def baseFactor (quiet : Bool) (quietFactor : Nat) (attenuate : Bool) : Nat :=
  let a := if quiet then quietFactor else 4096
  if attenuate then min a 1024 else a

/-- Output factor A of port-lane (p, b) (R47). -/
def Hub.outputFactor (h : Hub) (p : PortId) (b : Lane) : Nat :=
  let actions := h.actions p
  if actions.mute ∨ !h.inService ∨ !(h.lnk.remote[p].mask.getLsbD b.val) ∨ !h.dlc.combining[p] then 0
  else baseFactor h.sbl.ports[p].quiet (h.tables.quietFactor p) actions.attenuate

/-- The downlink frame record of port `p`, formed when the boundary's events have acted (R39). -/
def Hub.downlinkRecord (h : Hub) (p : PortId) : PortRecord :=
  { combining := h.dlc.combining[p]
    swap := h.tables.swap p
    mute := (h.actions p).mute
    lanes := tab fun b =>
      { summands := h.summands p b
        trim := h.tables.trim p b
        factor := h.plm[p].lanes[b].factor
        output := h.outputFactor p b } }

/-! ## The chain of one port-lane at one instant -/

/-- Composite S: the contributing terms, summed exactly, then sat21 (R44). -/
def compositeS (x : CarrierId → Sample) (list : List Summand) : Sample :=
  ((list.foldl (fun acc e =>
    if e.contributing then acc.add ((x e.carrier).scale e.gain) else acc) Sample.zero)).map sat21

/-- V: the composite under the trim (R45). -/
def trimmed (s : Sample) (trim : Nat) : Sample := (s.scale trim).map sat21

/-- W: V under the limiter factor (R46). -/
def limited (v : Sample) (factor : Nat) : Sample := (v.scale factor).map sat21

/-- W of a port-lane at an instant (R44 to R46). -/
def LaneRecord.w (r : LaneRecord) (x : CarrierId → Sample) : Sample :=
  limited (trimmed (compositeS x r.summands) r.trim) r.factor

/-- Y of a port-lane (R49). -/
def LaneRecord.y (r : LaneRecord) (w : Sample) : Sample := w.scale r.output

/-- The output sample of a port-lane: saturated, then swapped (R49, R51). -/
def LaneRecord.out (r : LaneRecord) (swap : Bool) (w : Sample) : Sample :=
  ((r.y w).map sat16).swapIf swap

/-- Clips of a port-lane at an instant (R49). -/
def LaneRecord.clips (r : LaneRecord) (w : Sample) : Nat := (r.y w).changed sat16

end Sys2Proof.Machine
end

