-- ==== Sys2Proof/Machine/Samples.lean ====
section
/-! DEFINITION. The 256 sample instants of the frame that begins at a boundary, with the frame records formed
there: downlink and uplink samples, delay lines, integrators, clips (R40, R41, R44 to R51, R56, R72,
R73, R86, R87, R96, R105), and the frames sent in it (R1, R12, R14, R16). All factors stand still within a
frame, so the model takes its instants together, when the frame begins. -/

namespace Sys2Proof.Machine

/-- The instants of a frame (Conventions 4.2). -/
def instants : List Nat := List.range 256

/-! ## Downlink -/

/-- Carrier input x of carrier `c` at instant `i` (R41). -/
def Hub.carrierInput (h : Hub) (i : Nat) (c : CarrierId) : Sample :=
  (h.lnk.donor[carrierDonor c].samples.getD i Quad.zero)[carrierSlot c]

/-- W of the four lanes of a port at each instant; zero while the port is SILENT (R40, R46). -/
def Hub.compositeW (h : Hub) (r : PortRecord) : List Quad :=
  instants.map fun i =>
    if r.combining then tab fun b => (r.lanes[b]).w (h.carrierInput i) else Quad.zero

/-- The samples that enter the downlink delay line in a frame (R51, R72). -/
def PortRecord.outputs (r : PortRecord) (ws : List Quad) : List Quad :=
  ws.map fun w => if r.combining then tab fun b => (r.lanes[b]).out r.swap w[b] else Quad.zero

/-- Sum of `f` of one lane's samples over a frame. -/
def sumLane (f : Sample → Nat) (xs : List Quad) (b : Lane) : Nat :=
  xs.foldl (fun acc x => acc + f x[b]) 0

/-- The clips of a frame are added to the four clip counters of a port (R50). -/
def PortRecord.addClips (r : PortRecord) (ws : List Quad) (clips : Vector Nat 4) : Vector Nat 4 :=
  tab fun b => sat32 clips[b] (if r.combining then sumLane (r.lanes[b]).clips ws b else 0)

/-- The power sums of a frame (R56). -/
def PortLimiter.addPower (ws : List Quad) (m : PortLimiter) : PortLimiter :=
  { m with lanes := tab fun b =>
    { m.lanes[b] with powerSum := m.lanes[b].powerSum + sumLane Sample.power ws b } }

/-! ## Uplink -/

/-- The samples that port `p` receives in the frame, after IQ swap; zero unless a GOOD frame of an aligned
port was handed on (R2, R73). -/
def Hub.receivedSamples (h : Hub) (p : PortId) : List Quad :=
  let c := h.lnk.remote[p].core
  instants.map fun i =>
    if c.state.aligned ∧ c.verdict = some .good then
      mapTab (Sample.swapIf (h.tables.swap p)) (c.samples.getD i Quad.zero)
    else Quad.zero

/-- The frame integrators of a port after the frame's instants (R96, R105). -/
def PortMeter.integrate (ws received : List Quad) (m : PortMeter) : PortMeter :=
  let input := if m.loop.isRunning then ws.map (mapTab (Sample.map sat16)) else received
  { m with meters := tab fun b =>
    { m.meters[b] with integrator := m.meters[b].integrator + sumLane Sample.power input b } }

/-- Z of a sector-lane at instant `i` from the samples that the uplink lines give out (R86). -/
def SectorLane.composite (r : SectorLane) (b : Lane) (u : PortId → Quad) : Sample :=
  (r.contributors.foldl (fun acc e =>
    if e.reason = .none then acc.add ((u e.port)[b].scale e.gain) else acc) Sample.zero).map sat21

/-- U_c before sat16 (R87). -/
def carrierOutput (z : Sample) (gain : Nat) : Sample := z.scale gain

/-- The entry of carrier `c` in the record of its home and lane, if the carrier is ACTIVE there (R82, R87). -/
def Hub.activeEntry (h : Hub) (c : CarrierId) : Option CarrierEntry :=
  (h.ulc.records[h.tables.carrierHome c][h.tables.lane c]).carriers.find? fun e =>
    e.carrier = c && e.active

/-- U_c of carrier `c` before sat16, from the composites of an instant; zero while it is not ACTIVE. -/
def Hub.uplinkOf (h : Hub) (zs : Vector Quad 12) (c : CarrierId) : Sample :=
  match h.activeEntry c with
  | some e => carrierOutput (zs[h.tables.carrierHome c])[h.tables.lane c] e.gain
  | none => Sample.zero

/-- Z of every sector-lane at each instant of the frame, from each port's uplink line output (R86). -/
def Hub.composites (h : Hub) (out : Vector (List Quad) 24) : List (Vector Quad 12) :=
  instants.map fun i => tab fun s => tab fun b =>
    (h.ulc.records[s][b]).composite b fun p => (out[p]).getD i Quad.zero

/-! ## Frames sent -/

/-- A frame of zero samples. -/
def silentFrame : List Quad := List.replicate 256 Quad.zero

/-- The control field supplied for port `p` (R12, R153). -/
def Hub.controlFieldFor (h : Hub) (p : PortId) : List Byte :=
  match h.cte.transaction with
  | some t => if t.port = p then requestField t.kind t.sequence else idleField
  | none => idleField

/-- The frame sent on remote port `p` with the line's output `out` (R1). -/
def Hub.remoteFrame (h : Hub) (p : PortId) (out : List Quad) : Option (List Byte) :=
  if h.linkOf p = .disabled then none
  else
    let up := h.isUp p
    some (sentFrame h.lnk.frameNumber (if up then h.lnk.remote[p].mask else 0)
      (h.controlFieldFor p) (samplesBytes (if up then out else silentFrame)))

/-- The payload of donor `d`'s frame: its four carriers' uplink outputs (R87). -/
def Hub.donorPayload (h : Hub) (zs : List (Vector Quad 12)) (d : DonorId) : List Quad :=
  zs.map fun z => tab fun j =>
    (h.uplinkOf z ⟨4 * d.val + j.val, by omega⟩).map sat16

/-- The frame sent on donor `d`: a zero control field and the payload (R1, R14). -/
def Hub.donorFrame (h : Hub) (zs : List (Vector Quad 12)) (d : DonorId) : List Byte :=
  sentFrame h.lnk.frameNumber 0 idleField (samplesBytes (h.donorPayload zs d))

/-- The frame sent on the trunk with the supplied cell (R16). -/
def Hub.trunkFrame (h : Hub) : List Byte := sentFrame h.lnk.frameNumber 0 h.mga.sent []

/-! ## The frame records and the frame's instants -/

/-- The downlink frame records are formed; where MUTE comes into effect the downlink line is zeroed (R39,
R48). -/
def Hub.formDownlink (h : Hub) : Hub :=
  let records := tab h.downlinkRecord
  { h with
    dlc := { h.dlc with records := records }
    deq := { h.deq with ports := tab fun p =>
      if records[p].mute ∧ !h.dlc.records[p].mute then { h.deq.ports[p] with downLine := zeroLine }
      else h.deq.ports[p] } }

/-- The uplink frame records and the exclusion reasons are formed (R82, R83). -/
def Hub.formUplink (h : Hub) : Hub :=
  { h with ulc := { h.ulc with
    records := tab fun s => tab fun b => h.uplinkRecord s b
    reasons := tab fun p => tab fun b => tab fun s => h.reasonIn p b s } }

/-- The 256 instants of the frame that begins, with its records formed. -/
def Hub.runFrame (h : Hub) : Hub :=
  let ws := tab fun p => h.compositeW h.dlc.records[p]
  let down := tab fun p : PortId => (h.dlc.records[p]).outputs ws[p]
  let up := tab h.receivedSamples
  let downOut := tab fun p : PortId => lineOut h.deq.ports[p].comp down[p] h.deq.ports[p].downLine
  let upOut := tab fun p : PortId => lineOut h.deq.ports[p].comp up[p] h.deq.ports[p].upLine
  let zs := h.composites upOut
  let lastZ := zs.getLast?.getD (.replicate 12 Quad.zero)
  { h with
    dlc := { h.dlc with clips := tab fun p => (h.dlc.records[p]).addClips ws[p] h.dlc.clips[p] }
    plm := tab fun p => (h.plm[p]).addPower ws[p]
    deq := { h.deq with ports := tab fun p => { h.deq.ports[p] with
      downLine := lineNext down[p] h.deq.ports[p].downLine
      upLine := lineNext up[p] h.deq.ports[p].upLine } }
    ulc := { h.ulc with
      records := tab fun s => tab fun b => { h.ulc.records[s][b] with z := lastZ[s][b] }
      clips := tab fun c => sat32 h.ulc.clips[c]
        (zs.foldl (fun acc z => acc + (h.uplinkOf z c).changed sat16) 0) }
    lvm := { h.lvm with ports := tab fun p => (h.lvm.ports[p]).integrate ws[p] up[p] }
    lnk := { h.lnk with
      sentRemote := tab fun p => h.remoteFrame p downOut[p]
      sentDonor := tab (h.donorFrame zs)
      sentTrunk := h.trunkFrame } }

/-- The inputs of port `p` that stand throughout the frame that begins (R69, R89, R96, R101, R102). -/
def Hub.frameInput (h : Hub) (p : PortId) : FrameInput :=
  let r := h.lnk.remote[p]
  { link := r.core.state
    mask := r.mask
    verdict := r.core.verdict
    combining := h.dlc.combining[p]
    silenced := (h.actions p).silences
    delay := r.delay
    rtRange := r.rtRange
    assign := h.assignOf p }

/-- The next frame begins: its records are formed, its instants run and its inputs are noted. -/
def Hub.beginFrame (h : Hub) : Hub :=
  let h := h.formDownlink.formUplink.runFrame
  { h with
    frame := tab h.frameInput
    bd := { h.bd with isOpen := false } }

end Sys2Proof.Machine
end

