-- ==== Sys2Proof/Machine/Records.lean ====
section
/-! DEFINITION. The records that READ returns (R181, R182), field by field in the order of the chapters and of
their rules: R9, R13, R18, R37, R38, R54, R67, R80, R93, R99, R111, R128, R135, R148, R158, R166, R174
and R176. -/

namespace Sys2Proof.Machine

/-! ## Fields (R181) -/

/-- A one-byte field. -/
def b1 (v : Nat) : List Byte := toBytes 1 v
/-- A two-byte field. -/
def b2 (v : Nat) : List Byte := toBytes 2 v
/-- A four-byte field. -/
def b4 (v : Nat) : List Byte := toBytes 4 v
/-- A yes/no field. -/
def flag (b : Bool) : List Byte := [boolByte b]
/-- `n` bytes of all ones: an absent field whose range excludes that value. -/
def ones (n : Nat) : List Byte := List.replicate n 0xFF
/-- A field of `n` bytes that may be absent, its range without the all-ones value. -/
def orOnes (n : Nat) (v : Option Nat) : List Byte :=
  match v with
  | some v => toBytes n v
  | none => ones n
/-- A field of `n` bytes that may be absent, its range with the all-ones value: a presence field first. -/
def withPresence (n : Nat) (v : Option Nat) : List Byte :=
  match v with
  | some v => 1 :: toBytes n v
  | none => 0 :: List.replicate n 0
/-- A list of varying length: a one-byte count, then the items. -/
def counted {α : Type} (f : α → List Byte) (xs : List α) : List Byte :=
  b1 xs.length ++ xs.flatMap f
/-- A per-lane column. -/
def perLane (f : Lane → List Byte) : List Byte := (List.finRange 4).flatMap f

/-! ## Codes: enumerations from 0 in the order of the owning rule -/

/-- Link state of a donor or the trunk: DOWN, HUNT, UP (R14, R15). -/
def LinkState.shortCode : LinkState → Byte
  | .hunt => 1 | .up => 2 | _ => 0
/-- Carrier states (R37). -/
def CarrierState.code : CarrierState → Nat
  | .absent => 0 | .active => 1 | .lost => 2 | .held => 3
/-- Gate states (R81). -/
def GateState.code : GateState → Nat
  | .opened => 0 | .holding => 1 | .closed => 2
/-- Exclusion reasons (R81). -/
def Reason.code : Reason → Nat
  | .none => 0 | .link => 1 | .frame => 2 | .lane => 3 | .action => 4 | .loop => 5 | .gate => 6
/-- Frame classes (R55). -/
def FrameClass.code : FrameClass → Nat
  | .excess => 0 | .between => 1 | .clean => 2
/-- Limiter modes (R26). -/
def LimiterMode.code : LimiterMode → Nat
  | .next => 0 | .step => 1 | .hold => 2
/-- Loop-test states (R94). -/
def LoopTest.code : LoopTest → Nat
  | .none => 0 | .pending _ => 1 | .running _ => 2
/-- Record states (R136). -/
def RecordState.code : RecordState → Nat
  | .idle => 0 | .active => 1 | .cooling => 2 | .latched => 3
/-- History transitions (R182). -/
def Transition.code : Transition → Nat
  | .detected => 0 | .retryExpired => 1 | .escalated => 2 | .latched => 3 | .cleared => 4
/-- Move causes (R120). -/
def MoveCause.code : MoveCause → Nat
  | .auto => 0 | .returning => 1 | .manual => 2
/-- Ending causes (R126). -/
def EndingCause.code : EndingCause → Nat
  | .link => 0 | .action => 1 | .cancel => 2
/-- Outcome and detail of a log entry (R123, R128). DEDUCED (log 39): the details of each outcome are an
enumeration of their own, so their codes start at 0 for REFUSED, ABANDONED and CANCELLED alike. -/
def MoveOutcome.codes : MoveOutcome → Nat × Option Nat
  | .done => (0, none)
  | .refusedNotUp => (1, some 0) | .refusedTargetFull => (1, some 1)
  | .refusedSourceMin => (1, some 2) | .refusedSpread => (1, some 3) | .refusedAction => (1, some 4)
  | .abandonedLink => (2, some 0) | .abandonedAction => (2, some 1) | .abandonedCancel => (2, some 2)
  | .abandonedActivation => (2, some 3) | .abandonedReset => (2, some 4)
  | .cancelledRequest => (3, some 0) | .cancelledActivation => (3, some 1)
  | .cancelledReset => (3, some 2)
/-- Wake causes (R112). -/
def WakeCause.code : WakeCause → Nat
  | .none => 0 | .level => 1 | .move => 2 | .fault => 3 | .request => 4 | .reset => 5 | .link => 6
  | .table => 7
/-- Load phases (R159). -/
def Phase.code : Phase → Nat
  | .none => 0 | .opened => 1 | .closing => 2
/-- First-error kinds (R182). -/
def LoadErrorKind.code : LoadErrorKind → Nat
  | .sequence => 0 | .crcMismatch => 1 | .lateCell => 2
/-- Causes of an ABANDONED load (R182). -/
def AbandonCause.code : AbandonCause → Nat
  | .request => 0 | .trunk => 1 | .restart => 2
/-- Kinds of transaction (R150). -/
def TxKind.code : TxKind → Nat
  | .identify => 0 | .status => 1
/-- Source code of a fault (R182). -/
def faultSource : FaultKey → Nat
  | .port p _ => p.val
  | .donor d => 24 + d.val
/-- An action set as the RESPONSE action bits (R180). -/
def ActionSet.code (a : ActionSet) : Nat :=
  (if a.mute then 1 else 0) + (if a.isolate then 2 else 0) + (if a.attenuate then 4 else 0)

/-! ## PORT_STATUS -/

/-- LNK's fields of PORT_STATUS (R13, R18). -/
def RemoteLink.statusFields (r : RemoteLink) : List Byte :=
  let origin := match r.meas.origin with
    | .entry => b1 0 ++ withPresence 1 none
    | .request tag => b1 1 ++ withPresence 1 (some tag.toNat)
  let least := match r.meas.minimum with
    | some (rt, out) => b2 rt ++ flag out
    | none => ones 3
  b4 r.core.errored ++ b2 r.erroredSec ++ b4 r.core.slips ++ b4 r.core.drops
    ++ b2 r.delay ++ b2 r.lastRT ++ flag r.rtRange
    ++ flag r.meas.running ++ origin ++ b1 r.meas.taken ++ least ++ b1 r.meas.elapsed

/-- DLC's fields of PORT_STATUS (R54). -/
def Hub.combinerFields (h : Hub) (p : PortId) : List Byte :=
  let r := h.dlc.records[p]
  perLane (fun b =>
    let l := r.lanes[b]
    flag r.combining ++ b1 l.summands.length ++ b1 (l.summands.countP fun e => e.contributing)
      ++ b2 l.output ++ b4 h.dlc.clips[p][b])
    ++ flag r.swap

/-- DEQ's fields of PORT_STATUS (R80). -/
def PortEq.statusFields (e : PortEq) : List Byte :=
  orOnes 1 (e.countedIn.map Fin.val) ++ b2 e.delayTaken ++ b2 e.comp ++ flag e.compRange
    ++ flag e.rtTaken ++ flag e.range ++ b4 e.steps

/-- ULC's fields of PORT_STATUS (R93): the reasons and H in each sector to whose record the port belongs,
in ascending sector number. -/
def Hub.gateFields (h : Hub) (p : PortId) : List Byte :=
  perLane fun b =>
    let g := h.ulc.gates[p][b]
    let entries := (List.finRange 12).filterMap fun s =>
      (h.ulc.records[s][b]).contributors.find? fun e => e.port = p
    b1 g.state.code ++ b1 g.count ++ b1 (h.tables.gateLevel p b) ++ b1 (h.tables.gateHold p)
      ++ counted (fun e : Contributor => b1 e.reason.code ++ b2 e.gain) entries

/-- The sectors of an assignment (R113). -/
def Assign.sectors : Assign → List SectorId
  | .none => []
  | .one s => [s]
  | .two s t => [s, t]

/-- SBL's fields of PORT_STATUS (R135). -/
def Hub.balanceFields (h : Hub) (p : PortId) : List Byte :=
  let b := h.sbl.ports[p]
  let sectors := b.assign.sectors
  let place := (h.sbl.queue.findIdx? fun e => e.port = p).map (· + 1)
  orOnes 1 (sectors[0]?.map Fin.val) ++ orOnes 1 (sectors[1]?.map Fin.val)
    ++ orOnes 2 (sectors[0]?.map (h.weight p)) ++ orOnes 2 (sectors[1]?.map (h.weight p))
    ++ b1 b.holdOff ++ b1 b.returns ++ flag (h.isQuiet p) ++ b1 b.quietCount
    ++ orOnes 1 place ++ flag (h.ramping p)

/-- The transaction in flight, if it is port `p`'s (R158). -/
def Hub.transactionFields (h : Hub) (p : PortId) : List Byte :=
  match h.cte.transaction.filter fun t => t.port = p with
  | some t => b1 t.port.val ++ b1 t.kind.code ++ b1 t.attempt ++ withPresence 1 (some t.sequence.toNat)
      ++ b2 t.remaining
  | none => ones 3 ++ withPresence 1 none ++ ones 2

/-- The CTE's fields of PORT_STATUS (R150, R158). -/
def Hub.cteFields (h : Hub) (p : PortId) : List Byte :=
  let c := h.cte.ports[p]
  withPresence 1 (c.identify.map fun i => i.rauClass.toNat)
    ++ orOnes 1 (c.identify.map fun i => i.mask.toNat)
    ++ withPresence 4 (c.identify.map fun i => i.serial.toNat)
    ++ withPresence 2 (c.status.map fun s => s.alarms.toNat)
    ++ withPresence 1 (c.status.map fun s => s.temperature.toNat)
    ++ orOnes 1 (c.status.map fun s => s.paOn.toNat)
    ++ withPresence 4 (c.status.map fun s => s.stamp)
    ++ flag c.pending ++ flag c.hold ++ b1 c.nextAttempt ++ b1 c.misses ++ flag h.cte.priority[p]
    ++ h.transactionFields p

/-- The PORT_STATUS record. -/
def Hub.portStatus (h : Hub) (p : PortId) : List Byte :=
  (h.lnk.remote[p]).statusFields ++ h.combinerFields p ++ (h.deq.ports[p]).statusFields
    ++ h.gateFields p ++ h.balanceFields p ++ h.cteFields p

/-! ## The other records -/

/-- The SECTOR_STATUS record (R80, R93, R135). -/
def Hub.sectorStatus (h : Hub) (s : SectorId) : List Byte :=
  let e := h.deq.sectors[s]
  let b := h.sbl.sectors[s]
  b2 e.target ++ b1 e.counted ++ b2 e.least
    ++ perLane (fun l =>
      let r := h.ulc.records[s][l]
      flag r.gated ++ b1 r.contributors.length
        ++ b1 (r.contributors.countP fun c => c.reason = .none)
        ++ counted (fun c : Contributor => b1 c.reason.code) r.contributors)
    ++ b1 (h.assignedCount s) ++ b4 b.lastLoad ++ flag b.overloaded ++ b1 h.sbl.intervalCount

/-- The CARRIER_STATUS record (R37, R38, R93). -/
def Hub.carrierStatus (h : Hub) (c : CarrierId) : List Byte :=
  let t := h.tables
  b1 h.dlc.carriers[c].code ++ b1 (t.operator c).val ++ b1 (t.lane c).val ++ b1 (t.carrierHome c).val
    ++ [h.lnk.donor[carrierDonor c].state.shortCode]
    ++ (List.finRange 6).flatMap (fun o => flag h.dlc.holds[o])
    ++ b2 (t.upGain c) ++ b4 h.ulc.clips[c]

/-- The METER record (R111, R182). DEDUCED (log 38): taken at a boundary before its WINDOW_END it reports the
window count as it stands there, which is then W. -/
def Hub.meterRecord (h : Hub) (p : PortId) : List Byte :=
  let m := h.lvm.ports[p]
  perLane (fun b =>
    let x := m.meters[b]
    b4 x.last.mean ++ b1 x.last.code ++ b1 x.last.net ++ b1 (h.tables.offset p b) ++ b1 x.last.held
      ++ orOnes 6 x.lastGood)
    ++ b2 m.activity ++ b2 m.smoothed ++ flag m.meters[(0 : Lane)].last.void ++ b1 m.loop.code
    ++ b1 h.tables.windowCode ++ b1 h.lvm.windowCount ++ b4 h.lvm.windowNumber.toNat

/-- The EXTREMES record (R99): an empty record is its six bytes of all ones (R181). -/
def Hub.extremesRecord (h : Hub) (p : PortId) : List Byte :=
  perLane fun b =>
    let e := h.lvm.ports[p].meters[b].extremes
    if e.count = 0 then ones 6 else b1 e.largest ++ b1 e.smallest ++ b4 e.count

/-- The DL_POWER record (R67). -/
def Hub.powerRecord (h : Hub) (p : PortId) : List Byte :=
  let m := h.plm[p]
  let t := h.tables
  perLane (fun b =>
    let l := m.lanes[b]
    toBytes 6 l.power ++ b1 (levelCode l.power) ++ b1 (t.ceiling p b) ++ b1 l.cls.code
      ++ b2 (h.dlc.records[p].lanes[b]).factor ++ b1 l.hold ++ b1 l.overdrive ++ b4 l.attack)
    ++ b1 (t.limiterMode p).code ++ b2 (t.releaseStep p) ++ b1 (t.holdFrames p) ++ flag m.flag
    ++ b1 m.clean

/-- The five fields of a fault record (R136, R158). -/
def FaultRecord.fields (r : FaultRecord) : List Byte :=
  b1 r.state.code ++ flag r.present ++ b1 r.occurrences ++ b1 r.retries ++ b1 r.timer

/-- Which ports and which donors have a record that is not IDLE (R158). DESIGN CHOICE (log 26): the set of donors is one
byte with DNd at bit d, as R181 gives the other sets. -/
def Hub.faultSummary (h : Hub) : List Byte :=
  b4 (maskNat fun p : PortId => !h.allIdle p)
    ++ b1 (maskNat fun d : DonorId => decide (h.fsv.donorRecords[d].state ≠ .idle))

/-- The FAULTS record of a port, or of the donors when `p` is none (R158). -/
def Hub.faultsRecord (h : Hub) (p : Option PortId) : List Byte :=
  match p with
  | some p => (List.finRange 8).flatMap (fun c => (h.fsv.portRecords[p][c]).fields)
      ++ b1 (h.actions p).code ++ h.faultSummary
  | none => (List.finRange 8).flatMap (fun d => (h.fsv.donorRecords[d]).fields) ++ h.faultSummary

/-- The FAULT_HISTORY record: the oldest entry, the number that will be left, the lost count (R148). -/
def Hub.historyRecord (h : Hub) : List Byte :=
  match h.fsv.history with
  | [] => ones 7 ++ b1 0 ++ b4 h.fsv.lost
  | e :: rest => b1 (faultSource e.key) ++ b1 e.key.row ++ b1 e.transition.code ++ b4 e.stamp
      ++ b1 rest.length ++ b4 h.fsv.lost

/-- Port, source, target and cause of a move. -/
def MoveEntry.fields (e : MoveEntry) : List Byte :=
  b1 e.port.val ++ b1 e.source.val ++ b1 e.target.val ++ b1 e.cause.code

/-- The MOVE_QUEUE record: the entries, then the move in flight (R120, R135). -/
def Hub.queueRecord (h : Hub) : List Byte :=
  counted MoveEntry.fields h.sbl.queue
    ++ match h.sbl.flight with
      | some m => m.entry.fields ++ b2 m.length ++ b2 m.step ++ flag m.ending.isSome
          ++ orOnes 1 (m.ending.map EndingCause.code) ++ withPresence 4 (some m.stamp)
      | none => ones 10 ++ withPresence 4 none

/-- The MOVE_LOG record (R128). -/
def Hub.logRecord (h : Hub) : List Byte :=
  counted (fun e : LogEntry =>
      b4 e.sequence.toNat ++ e.entry.fields ++ b1 e.outcome.codes.1 ++ orOnes 1 e.outcome.codes.2
        ++ b4 e.stamp) h.sbl.log
    ++ b4 h.sbl.logSequence.toNat

/-- The ADVICE record (R119, R135). -/
def Hub.adviceRecord (h : Hub) : List Byte :=
  counted MoveEntry.fields h.sbl.advice ++ b4 h.sbl.adviceStamp

/-- The COUNTERS record (R176). -/
def Hub.countersRecord (h : Hub) : List Byte :=
  flag h.inService ++ b4 h.mga.seconds ++ b4 h.mga.overrun ++ b4 h.mga.unexpected
    ++ b4 h.sbl.skips ++ b4 h.fsv.lost ++ b4 h.tld.stray

/-- The NOTICES record (R174). -/
def Hub.noticesRecord (h : Hub) : List Byte :=
  b1 (maskNat fun n : Fin 7 => h.mga.marks[n]) ++ b1 (maskNat fun n : Fin 7 => h.tables.attends n)
    ++ b1 h.attention

/-- Outcome code of a load (R182). -/
def LoadOutcome.code : LoadOutcome → Nat
  | .failed _ _ => 0 | .length _ => 1 | .unchecked _ => 2 | .rejected _ _ => 3 | .scheduled => 4
  | .timeout => 5 | .abandoned _ => 6 | .activated => 7

/-- Detail of a load outcome (R163, R164). -/
def LoadOutcome.detail (o : LoadOutcome) (table : TableId) : List Byte :=
  match o with
  | .failed burst kind => b2 burst ++ b1 kind.code
  | .length received => b2 received
  | .unchecked burst => b2 burst
  | .rejected check idx => [check.code] ++ b1 idx
  | .scheduled => [table.code]
  | .abandoned cause => b1 cause.code
  | .timeout => []
  | .activated => []

/-- The last outcome record (R159). -/
def Tld.lastFields (t : Tld) : List Byte :=
  match t.last with
  | some l => [l.table.code] ++ b1 l.outcome.code ++ l.outcome.detail l.table
      ++ withPresence 4 (some l.stamp)
  | none => ones 2 ++ withPresence 4 none

/-- The LOAD_STATUS record (R166). DESIGN CHOICE (log 26): the loaded indications stand in the order CARRIER, SECTOR,
PORT, in which the prose of R22 names them; its table has SECTOR first. -/
def Tld.statusRecord (t : Tld) : List Byte :=
  let isOpen := t.phase ≠ .none
  let here := fun v : Nat => if isOpen then some v else none
  let error := if isOpen then t.firstError else none
  b1 t.phase.code
    ++ orOnes 1 (here t.table.code.toNat) ++ orOnes 2 (here t.declared)
    ++ orOnes 2 (here t.received) ++ withPresence 1 (here t.expectedTag.toNat)
    ++ withPresence 1 (here t.burstsClosed) ++ withPresence 1 (here t.burstCells)
    ++ orOnes 2 (error.map Prod.fst) ++ orOnes 1 (error.map fun e => e.2.code)
    ++ orOnes 2 (here t.silence)
    ++ flag t.scheduled.isSome ++ orOnes 1 (t.scheduled.map fun x => x.1.code.toNat)
    ++ t.lastFields
    ++ flag t.carrierLoaded ++ flag t.sectorLoaded ++ flag t.portLoaded ++ b4 t.stray

/-- The counters of a donor or the trunk (R13). -/
def LinkCore.counters (c : LinkCore) : List Byte := b4 c.errored ++ b4 c.slips ++ b4 c.drops

/-- The counters of a remote port, in the order of R13. -/
def RemoteLink.counters (r : RemoteLink) : List Byte :=
  b4 r.core.errored ++ b2 r.erroredSec ++ b4 r.core.slips ++ b4 r.core.drops

/-- The LINK_SUMMARY record (R9, R13). DESIGN CHOICE (log 26): the kinds of link stand in one order, the remote ports,
then the donors, then the trunk, for the states and for the counters alike. -/
def Hub.linkSummary (h : Hub) : List Byte :=
  (List.finRange 24).map (fun p => (h.linkOf p).code)
    ++ (List.finRange 8).map (fun d => h.lnk.donor[d].state.shortCode)
    ++ [h.lnk.trunk.state.shortCode]
    ++ (List.finRange 24).flatMap (fun p => b1 h.lnk.remote[p].mask.toNat)
    ++ (List.finRange 24).flatMap (fun p => (h.lnk.remote[p]).counters)
    ++ (List.finRange 8).flatMap (fun d => (h.lnk.donor[d]).counters)
    ++ h.lnk.trunk.counters

/-- The QUIET_SUMMARY record (R135). -/
def Hub.quietSummary (h : Hub) : List Byte :=
  (List.finRange 24).flatMap (fun p =>
      flag (h.isQuiet p) ++ b1 h.sbl.ports[p].quietCount ++ b1 h.sbl.ports[p].wakeCause.code)
    ++ b1 h.tables.quietLimit

/-- The record of an object with index `i`, formed whole from the state as it stands (R172). -/
def Hub.readRecord (h : Hub) (o : ReadObject) (i : Nat) : List Byte :=
  let ofPort := fun f : PortId → List Byte => ((fin? 24 i).map f).getD []
  match o with
  | .portStatus => ofPort h.portStatus
  | .sectorStatus => ((fin? 12 i).map h.sectorStatus).getD []
  | .carrierStatus => ((fin? 32 i).map h.carrierStatus).getD []
  | .meter => ofPort h.meterRecord
  | .extremes => ofPort h.extremesRecord
  | .dlPower => ofPort h.powerRecord
  | .faults => h.faultsRecord (fin? 24 i)
  | .faultHistory => h.historyRecord
  | .moveQueue => h.queueRecord
  | .moveLog => h.logRecord
  | .advice => h.adviceRecord
  | .counters => h.countersRecord
  | .notices => h.noticesRecord
  | .loadStatus => h.tld.statusRecord
  | .linkSummary => h.linkSummary
  | .quietSummary => h.quietSummary

end Sys2Proof.Machine
end

