-- ==== Sys2Proof/Machine/Requests.lean ====
section
/-! DEFINITION. The requests: how one is taken from the head of the request queue (R170), and what each does
(R19, R38, R104, R121, R122, R132, R145, R157, R160, R163, R164, R168, R172, R173, R176). -/

namespace Sys2Proof.Machine

/-! ## Taking a request (R170) -/

/-- The agent takes a request now: it is free, and the response queue has room. -/
def Hub.canTake (h : Hub) : Bool := h.mga.busy = none && h.mga.responses.length < 8

/-- The request queue without its head. -/
def Hub.dequeue (h : Hub) : Hub := { h with mga := { h.mga with requests := h.mga.requests.drop 1 } }

/-- The head of the request queue is taken if it satisfies `is` and can be taken; `act` judges it. -/
def Hub.takeHead (is : Cell → Bool) (act : Cell → Hub → Hub) (h : Hub) : Hub :=
  match h.mga.requests with
  | [] => h
  | c :: _ => if h.canTake ∧ is c then act c h.dequeue else h

/-- A request of kind `k` at the head is taken: BAD_LENGTH, or `act` (R170). BAD_LENGTH has no other effect. DESIGN
CHOICE (log 52): so the phase of a load stays CLOSING after a LOAD_END of wrong length. -/
def Hub.takeRequest (k : ReqKind) (act : Cell → Hub → Hub) (h : Hub) : Hub :=
  h.takeHead (fun c => c.reqKind = some k) fun c h =>
    if c.length.toNat ≠ k.length then h.refuse c.tag .badLength [] else act c h

/-- A request whose kind is none of the manual's (R170 case 1). -/
def Hub.takeUnknown (h : Hub) : Hub :=
  h.takeHead (fun c => c.reqKind = none) fun c h => h.respond c.tag .badRequest 0 []

/-- Act on the port that argument `i` names, or refuse BAD_ARGUMENT. -/
def Hub.withPort (h : Hub) (c : Cell) (act : PortId → Hub → Hub) : Hub :=
  match fin? 24 (c.arg 0) with
  | some p => act p h
  | none => h.refuse c.tag .badArgument []

/-! ## HELLO, TABLE_READ and READ (R172) -/

/-- HELLO: the identification record (R172, R181). DESIGN CHOICE (log 53): bits 3..1 of byte 3, for which R181 gives
nothing, are 0. -/
def Hub.actHello (c : Cell) (h : Hub) : Hub :=
  h.answerOk c.tag ([0x3C, 0x74, 0x24, BitVec.ofNat 8 (16 * Config.revision.toNat) ||| boolByte h.inService]
    ++ b4 Config.deviceSerial.toNat ++ b4 h.mga.seconds)

/-- TABLE_READ: 12 bytes of an active image (R172). -/
def Hub.actTableRead (c : Cell) (h : Hub) : Hub :=
  let offset := c.arg16 1
  match tableOf (c.arg 0) with
  | none => h.refuse c.tag .badArgument []
  | some id =>
    if id.size ≤ offset then h.refuse c.tag .badArgument []
    else h.answerOk c.tag (((h.tables.get id).drop offset).take 12)

/-- The notice that a READ of an object clears (R174). -/
def ReadObject.clears : ReadObject → Option Notice
  | .faults => some .fault
  | .counters => some .overrun
  | .loadStatus => some .load
  | .moveLog => some .move
  | .linkSummary => some .link
  | .advice => some .advice
  | .quietSummary => some .quiet
  | _ => none

/-- The oldest history entry is removed (R148). -/
def Hub.dropHistory (h : Hub) : Hub := { h with fsv := { h.fsv with history := h.fsv.history.drop 1 } }

/-- The four extremes records of port `p` become empty (R99). -/
def Hub.resetExtremes (h : Hub) (p : PortId) : Hub :=
  h.onMeter p fun m => { m with meters := mapTab (fun x : Meter => { x with extremes := .empty }) m.meters }

/-- What a READ answered OK does beside its answer (R99, R148, R174). -/
def Hub.readEffect (h : Hub) (o : ReadObject) (i option : Nat) : Hub :=
  let h := match o.clears with
    | some n => h.unmark n
    | none => h
  match o with
  | .faultHistory => h.dropHistory
  | .extremes =>
    match fin? 24 i with
    | some p => if option = 1 then h.resetExtremes p else h
    | none => h
  | _ => h

/-- The greatest option of an object (R179): only EXTREMES has the reset option. -/
def ReadObject.topOption (o : ReadObject) : Nat := if o = .extremes then 1 else 0

/-- READ of object `o`: one part of its record (R172). -/
def Hub.actRead (o : ReadObject) (c : Cell) (h : Hub) : Hub :=
  let i := c.arg 1
  let record := h.readRecord o i
  let start := 12 * c.arg 2
  if o.indices ≤ i ∨ o.topOption < c.arg 3 ∨ record.length ≤ start then
    h.refuse c.tag .badArgument []
  else (h.answerOk c.tag ((record.drop start).take 12)).readEffect o i (c.arg 3)

/-- A READ cell that `READ_<o>` takes: its object is `o`, or its object code is undefined. -/
def Cell.reads (o : ReadObject) (c : Cell) : Bool :=
  c.reqKind = some .read
    && (readObjectOf (c.arg 0) = some o || readObjectOf (c.arg 0) = none)

/-- A READ of object `o` at the head is taken; an undefined object code is refused (R172). -/
def Hub.takeRead (o : ReadObject) (h : Hub) : Hub :=
  h.takeHead (Cell.reads o) fun c h =>
    if c.length.toNat ≠ ReqKind.read.length then h.refuse c.tag .badLength []
    else if readObjectOf (c.arg 0) = none then h.refuse c.tag .badArgument []
    else h.actRead o c

/-! ## Table loading (R160, R163, R164) -/

/-- LOAD_BEGIN (R160). -/
def Hub.actLoadBegin (c : Cell) (h : Hub) : Hub :=
  match tableOf (c.arg 0) with
  | none => h.refuse c.tag .badArgument []
  | some id =>
    if h.tld.phase ≠ .none then h.refuse c.tag .busy []
    else if c.arg16 1 ≠ id.size then h.refuse c.tag .badLength []
    else
      let tld := { h.tld with
        phase := .opened, table := id, declared := id.size, image := [], received := 0,
        expectedTag := 0, burstsClosed := 0, burstCells := 0, burstCrc := 0x5A3C,
        firstError := none, silence := 0 }
      { h with tld := tld }.answerOk c.tag []

/-- How a LOAD_END judges the load: its outcome, and the reason of a refusal (R163, R29, R30). -/
def Hub.judgeLoad (h : Hub) : LoadOutcome × Option Why :=
  let t := h.tld
  match t.firstError with
  | some (burst, kind) => (.failed burst kind, some .badArgument)
  | none =>
    if t.received < t.declared then (.length t.received, some .badLength)
    else if 0 < t.burstCells then (.unchecked (t.burstsClosed + 1), some .badArgument)
    else
      match ownCheck t.table t.image with
      | some (check, idx) => (.rejected check idx, some .badArgument)
      | none =>
        match if h.inService then crossCheck (t.tables.put t.table t.image) else none with
        | some (check, idx) => (.rejected check idx, some .crossCheck)
        | none => (.scheduled, none)

/-- Report of a LOAD_END: outcome, detail, bytes received, bursts closed, excess bytes (R163). -/
def Tld.endReport (t : Tld) (o : LoadOutcome) : List Byte :=
  b1 o.code ++ o.detail t.table ++ b2 t.received ++ b1 t.burstsClosed ++ b2 (t.received - t.declared)

/-- LOAD_END (R163). -/
def Hub.actLoadEnd (c : Cell) (h : Hub) : Hub :=
  if h.tld.phase = .none then h.refuse c.tag .badArgument h.tld.lastFields
  else
    let (outcome, why) := h.judgeLoad
    let report := h.tld.endReport outcome
    let scheduled := if outcome = .scheduled then some (h.tld.table, h.tld.image) else h.tld.scheduled
    let ripe := if outcome = .scheduled then false else h.tld.scheduledRipe
    let h := h.endLoad outcome
    let h := { h with tld := { h.tld with scheduled := scheduled, scheduledRipe := ripe } }
    match why with
    | some w => h.refuse c.tag w report
    | none => h.answerOk c.tag report

/-- LOAD_ABORT (R164). -/
def Hub.actLoadAbort (c : Cell) (h : Hub) : Hub :=
  if h.tld.phase = .none then h.refuse c.tag .badArgument []
  else (h.endLoad (.abandoned .request)).answerOk c.tag []

/-! ## Hub requests (R168, R173, R176) -/

/-- ENTER_SERVICE (R168). -/
def Hub.actEnterService (c : Cell) (h : Hub) : Hub :=
  if h.inService then h.answerOk c.tag []
  else if h.tld.scheduled.isSome then h.refuse c.tag .busy []
  else
    match h.tld.notLoaded with
    | some id => h.refuse c.tag .notLoaded [id.code]
    | none =>
      match crossCheck h.tables with
      | some (check, idx) => h.refuse c.tag .crossCheck ([check.code] ++ b1 idx)
      | none => h.setBusy (.enterService c.tag)

/-- RESTART: its response joins when it is taken (R173). -/
def Hub.actRestart (c : Cell) (h : Hub) : Hub := (h.answerOk c.tag []).setBusy .restart

/-- PORT_RESET (R173). -/
def Hub.actPortReset (c : Cell) (h : Hub) : Hub :=
  h.withPort c fun p h => h.setBusy (.portReset c.tag p)

/-- The counters of R13 that CLEAR_COUNTERS returns to 0. -/
def LinkCore.clearCounters (c : LinkCore) : LinkCore := { c with errored := 0, slips := 0, drops := 0 }

/-- The counters of R176 return to 0. -/
def Hub.clearCounters (h : Hub) : Hub :=
  { h with
    lnk := { h.lnk with
      remote := mapTab (fun r => { r with core := r.core.clearCounters }) h.lnk.remote
      donor := mapTab LinkCore.clearCounters h.lnk.donor
      trunk := h.lnk.trunk.clearCounters }
    dlc := { h.dlc with clips := .replicate 24 (.replicate 4 0) }
    plm := mapTab (fun m =>
      { m with lanes := mapTab (fun l : LaneLimiter => { l with attack := 0 }) m.lanes }) h.plm
    deq := { h.deq with ports := mapTab (fun e => { e with steps := 0 }) h.deq.ports }
    ulc := { h.ulc with clips := .replicate 32 0 }
    sbl := { h.sbl with skips := 0 }
    fsv := { h.fsv with lost := 0 }
    mga := { h.mga with overrun := 0, unexpected := 0 }
    tld := { h.tld with stray := 0 } }

/-- CLEAR_COUNTERS (R176). -/
def Hub.actClearCounters (c : Cell) (h : Hub) : Hub := h.clearCounters.answerOk c.tag []

/-! ## Operators (R38) -/

/-- Set the hold flag of an operator. -/
def Hub.setHold (h : Hub) (o : OperatorId) (b : Bool) : Hub :=
  { h with dlc := { h.dlc with holds := h.dlc.holds.set o.val b o.isLt } }

/-- OPERATOR_HOLD (R38). -/
def Hub.actOperatorHold (c : Cell) (h : Hub) : Hub :=
  match fin? 6 (c.arg 0) with
  | some o => (h.setHold o true).setBusy (.operatorHold c.tag o)
  | none => h.refuse c.tag .badArgument []

/-- OPERATOR_RELEASE (R38). -/
def Hub.actOperatorRelease (c : Cell) (h : Hub) : Hub :=
  match fin? 6 (c.arg 0) with
  | some o => (h.setHold o false).setBusy (.operatorRelease c.tag o)
  | none => h.refuse c.tag .badArgument []

/-! ## Ports -/

/-- MEASURE_DELAY (R19). -/
def Hub.actMeasureDelay (c : Cell) (h : Hub) : Hub :=
  h.withPort c fun p h =>
    if !(h.linkOf p).aligned then h.refuse c.tag .badArgument []
    else if h.lnk.remote[p].meas.running then
      (h.onRemote p fun r => { r with meas := { r.meas with origin := .request c.tag } }).setBusy
        (.measuring p)
    else h.setBusy (.measureStart c.tag p)

/-- LOOP_TEST (R104). -/
def Hub.actLoopTest (c : Cell) (h : Hub) : Hub :=
  h.withPort c fun p h =>
    if !h.inService then h.respond c.tag .notInService 0 []
    else if !h.isUp p ∨ h.ramping p ∨ h.queued p ∨ h.isQuiet p then h.refuse c.tag .busy []
    else (h.onMeter p fun m => { m with loop := .pending c.tag }).setBusy (.loopTest p)

/-- Place in the queue, from 1, of port `p`'s entry. -/
def Hub.queuePlace (h : Hub) (p : PortId) : Nat := (h.sbl.queue.findIdx fun e => e.port = p) + 1

/-- A MANUAL entry joins the queue, or replaces the port's entry in place; a QUIET port wakes (R121). -/
def Hub.placeManual (h : Hub) (e : MoveEntry) : Hub :=
  if h.queued e.port then
    let queue := h.sbl.queue.map fun q => if q.port = e.port then e else q
    { h with sbl := { h.sbl with queue := queue } }.wakePort e.port .move
  else h.enqueue e

/-- MOVE (R121). -/
def Hub.actMove (c : Cell) (h : Hub) : Hub :=
  if !h.inService then h.respond c.tag .notInService 0 []
  else
    match fin? 24 (c.arg 0), fin? 12 (c.arg 1) with
    | some p, some s =>
      if !h.tables.portOn p ∨ !h.tables.sectorOn s then h.refuse c.tag .badArgument []
      else if h.ramping p then h.refuse c.tag .inFlight []
      else
        match (h.assignOf p).sole with
        | none => h.refuse c.tag .badArgument []
        | some present =>
          if present = s then h.refuse c.tag .badArgument []
          else if h.inLoopTest p then h.refuse c.tag .busy []
          else if 8 ≤ h.sbl.queue.length ∧ !h.queued p then h.refuse c.tag .full []
          else
            let h := h.placeManual ⟨p, present, s, .manual⟩
            h.answerOk c.tag (b1 (h.queuePlace p))
    | _, _ => h.refuse c.tag .badArgument []

/-- The entries of the queue that remain when port `p`'s is removed. -/
def Hub.dropEntry (h : Hub) (p : PortId) : Hub :=
  { h with sbl := { h.sbl with queue := h.sbl.queue.filter fun e => e.port ≠ p } }

/-- CANCEL_MOVE (R122). -/
def Hub.actCancelMove (c : Cell) (h : Hub) : Hub :=
  h.withPort c fun p h =>
    match h.sbl.queue.find? fun e => e.port = p with
    | some e => ((h.dropEntry p).logMove e .cancelledRequest).answerOk c.tag []
    | none =>
      if h.ramping p then (h.markMove p .cancel).answerOk c.tag []
      else h.refuse c.tag .badArgument []

/-- WAKE (R132). -/
def Hub.actWake (c : Cell) (h : Hub) : Hub :=
  if !h.inService then h.respond c.tag .notInService 0 []
  else h.withPort c fun p h =>
    let quiet := h.isQuiet p
    let h := if quiet then h.wakePort p .request
      else h.onBal p fun b => { b with quietCount := 0, wakeCause := .request }
    h.answerOk c.tag (flag quiet)

/-! ## Faults and polling (R145, R157) -/

/-- CLEAR of one record: a LATCHED one returns to IDLE; the counts returned and left ACTIVE (R145). -/
def clearRecord (x : Hub × Nat × Nat) (k : FaultKey) : Hub × Nat × Nat :=
  let (h, returned, left) := x
  let r := h.faultRecord k
  match r.state with
  | .latched =>
    let h := h.changeRecord k { r with state := .idle, retries := 0, timer := 0 }
    (h.writeHistory k .cleared, returned + 1, left)
  | .active => (h, returned, left + 1)
  | _ => x

/-- The records of a port. -/
def portKeys (p : PortId) : List FaultKey := PortClass.all.map fun c => .port p c

/-- All 200 records: the ports ascending, then the donors. -/
def allKeys : List FaultKey :=
  (List.finRange 24).flatMap portKeys ++ (List.finRange 8).map FaultKey.donor

/-- The records that CLEAR_FAULTS names, or none where an argument is out of range (R145, R179). -/
def faultScope (c : Cell) : Option (List FaultKey) :=
  match c.arg 0 with
  | 0 => (fin? 24 (c.arg 1)).map portKeys
  | 1 => (fin? 8 (c.arg 1)).map fun d => [.donor d]
  | 2 => some allKeys
  | _ => none

/-- CLEAR_FAULTS (R145). -/
def Hub.actClearFaults (c : Cell) (h : Hub) : Hub :=
  match faultScope c with
  | none => h.refuse c.tag .badArgument []
  | some keys =>
    let (h, returned, left) := keys.foldl clearRecord (h, 0, 0)
    let report := b1 returned ++ b1 left
    if left = 0 then h.answerOk c.tag report else h.refuse c.tag .present report

/-- PRIORITY_POLL (R157). -/
def Hub.actPriorityPoll (c : Cell) (h : Hub) : Hub :=
  let set := c.arg16 0 * 65536 + c.arg16 2
  if 2 ^ 24 ≤ set then h.refuse c.tag .badArgument []
  else
    let h := { h with cte := { h.cte with
      priority := tab fun p => set.testBit p.val
      priorityPos := 0 } }
    h.answerOk c.tag []

/-! ## Commands -/

/-- HELLO (R172). -/
def execHello (s : State) : Host.Outcome State Fault Refusal :=
  s.onHub (Hub.takeRequest .hello Hub.actHello)
/-- READ_PORT_STATUS (R172). -/
def execReadPortStatus (s : State) : Host.Outcome State Fault Refusal :=
  s.onHub (Hub.takeRead .portStatus)
/-- READ_SECTOR_STATUS (R80). -/
def execReadSectorStatus (s : State) : Host.Outcome State Fault Refusal :=
  s.onHub (Hub.takeRead .sectorStatus)
/-- READ_CARRIER_STATUS (R37). -/
def execReadCarrierStatus (s : State) : Host.Outcome State Fault Refusal :=
  s.onHub (Hub.takeRead .carrierStatus)
/-- READ_METER (R111). -/
def execReadMeter (s : State) : Host.Outcome State Fault Refusal := s.onHub (Hub.takeRead .meter)
/-- READ_EXTREMES (R99). -/
def execReadExtremes (s : State) : Host.Outcome State Fault Refusal :=
  s.onHub (Hub.takeRead .extremes)
/-- READ_DL_POWER (R67). -/
def execReadDlPower (s : State) : Host.Outcome State Fault Refusal :=
  s.onHub (Hub.takeRead .dlPower)
/-- READ_FAULTS (R158). -/
def execReadFaults (s : State) : Host.Outcome State Fault Refusal := s.onHub (Hub.takeRead .faults)
/-- READ_FAULT_HISTORY (R148). -/
def execReadFaultHistory (s : State) : Host.Outcome State Fault Refusal :=
  s.onHub (Hub.takeRead .faultHistory)
/-- READ_MOVE_QUEUE (R120). -/
def execReadMoveQueue (s : State) : Host.Outcome State Fault Refusal :=
  s.onHub (Hub.takeRead .moveQueue)
/-- READ_MOVE_LOG (R128). -/
def execReadMoveLog (s : State) : Host.Outcome State Fault Refusal :=
  s.onHub (Hub.takeRead .moveLog)
/-- READ_ADVICE (R135). -/
def execReadAdvice (s : State) : Host.Outcome State Fault Refusal := s.onHub (Hub.takeRead .advice)
/-- READ_COUNTERS (R176). -/
def execReadCounters (s : State) : Host.Outcome State Fault Refusal :=
  s.onHub (Hub.takeRead .counters)
/-- READ_NOTICES (R174). -/
def execReadNotices (s : State) : Host.Outcome State Fault Refusal :=
  s.onHub (Hub.takeRead .notices)
/-- READ_LOAD_STATUS (R166). -/
def execReadLoadStatus (s : State) : Host.Outcome State Fault Refusal :=
  s.onHub (Hub.takeRead .loadStatus)
/-- READ_LINK_SUMMARY (R9). -/
def execReadLinkSummary (s : State) : Host.Outcome State Fault Refusal :=
  s.onHub (Hub.takeRead .linkSummary)
/-- READ_QUIET_SUMMARY (R135). -/
def execReadQuietSummary (s : State) : Host.Outcome State Fault Refusal :=
  s.onHub (Hub.takeRead .quietSummary)
/-- TABLE_READ (R172). -/
def execTableRead (s : State) : Host.Outcome State Fault Refusal :=
  s.onHub (Hub.takeRequest .tableRead Hub.actTableRead)
/-- LOAD_BEGIN (R160). -/
def execLoadBegin (s : State) : Host.Outcome State Fault Refusal :=
  s.onHub (Hub.takeRequest .loadBegin Hub.actLoadBegin)
/-- LOAD_END (R163). -/
def execLoadEnd (s : State) : Host.Outcome State Fault Refusal :=
  s.onHub (Hub.takeRequest .loadEnd Hub.actLoadEnd)
/-- LOAD_ABORT (R164). -/
def execLoadAbort (s : State) : Host.Outcome State Fault Refusal :=
  s.onHub (Hub.takeRequest .loadAbort Hub.actLoadAbort)
/-- ENTER_SERVICE (R168). -/
def execEnterService (s : State) : Host.Outcome State Fault Refusal :=
  s.onHub (Hub.takeRequest .enterService Hub.actEnterService)
/-- RESTART (R173). -/
def execRestart (s : State) : Host.Outcome State Fault Refusal :=
  s.onHub (Hub.takeRequest .restart Hub.actRestart)
/-- PORT_RESET (R173). -/
def execPortReset (s : State) : Host.Outcome State Fault Refusal :=
  s.onHub (Hub.takeRequest .portReset Hub.actPortReset)
/-- CLEAR_COUNTERS (R176). -/
def execClearCounters (s : State) : Host.Outcome State Fault Refusal :=
  s.onHub (Hub.takeRequest .clearCounters Hub.actClearCounters)
/-- OPERATOR_HOLD (R38). -/
def execOperatorHold (s : State) : Host.Outcome State Fault Refusal :=
  s.onHub (Hub.takeRequest .operatorHold Hub.actOperatorHold)
/-- OPERATOR_RELEASE (R38). -/
def execOperatorRelease (s : State) : Host.Outcome State Fault Refusal :=
  s.onHub (Hub.takeRequest .operatorRelease Hub.actOperatorRelease)
/-- MEASURE_DELAY (R19). -/
def execMeasureDelay (s : State) : Host.Outcome State Fault Refusal :=
  s.onHub (Hub.takeRequest .measureDelay Hub.actMeasureDelay)
/-- LOOP_TEST (R104). -/
def execLoopTest (s : State) : Host.Outcome State Fault Refusal :=
  s.onHub (Hub.takeRequest .loopTest Hub.actLoopTest)
/-- MOVE (R121). -/
def execMove (s : State) : Host.Outcome State Fault Refusal :=
  s.onHub (Hub.takeRequest .move Hub.actMove)
/-- CANCEL_MOVE (R122). -/
def execCancelMove (s : State) : Host.Outcome State Fault Refusal :=
  s.onHub (Hub.takeRequest .cancelMove Hub.actCancelMove)
/-- WAKE (R132). -/
def execWake (s : State) : Host.Outcome State Fault Refusal :=
  s.onHub (Hub.takeRequest .wake Hub.actWake)
/-- CLEAR_FAULTS (R145). -/
def execClearFaults (s : State) : Host.Outcome State Fault Refusal :=
  s.onHub (Hub.takeRequest .clearFaults Hub.actClearFaults)
/-- PRIORITY_POLL (R157). -/
def execPriorityPoll (s : State) : Host.Outcome State Fault Refusal :=
  s.onHub (Hub.takeRequest .priorityPoll Hub.actPriorityPoll)
/-- UNKNOWN_REQUEST (R170). -/
def execUnknownRequest (s : State) : Host.Outcome State Fault Refusal := s.onHub Hub.takeUnknown

end Sys2Proof.Machine
end

