-- ==== Sys2Proof/Machine/Boundary.lean ====
section
/-! DEFINITION. SECOND_MARK (R13, R136, R139, R141, R152, R167), the supply of the trunk cell (R171, R175) and
FRAME_BOUNDARY: what a boundary still has to do is done in one fixed order, and the next frame begins. -/

namespace Sys2Proof.Machine

/-! ## SECOND_MARK -/

/-- The completed second of port `p`: the CRC_RATE clearing test, then the count returns to 0 (R13, R139). -/
def Hub.markErrored (p : PortId) (h : Hub) : Hub :=
  let key := FaultKey.port p .crcRate
  let h := if h.lnk.remote[p].erroredSec ≤ h.tables.param key.row / 4 then h.clearCondition key else h
  h.onRemote p fun r => { r with erroredSec := 0 }

/-- The UL_SILENT detector of port `p` at a second mark (R141). A presentation is left due for
UL_SILENT_PRESENT. -/
def Hub.markSilent (p : PortId) (h : Hub) : Hub :=
  let up := h.isUp p
  let param := h.tables.param (FaultKey.port p .ulSilent).row
  h.onDet p fun d =>
    if !up then { d with silence := 0, silentMark := true }
    else if d.silentMark then
      let n := bump 3600 d.silence
      { d with silence := n, silentDue := d.silentDue || decide (param ≤ n) }
    else { d with silentMark := true }

/-- The interval count at a second mark (R114): it rises in SERVICE, but not at the boundary at which ENTER_SERVICE
took effect (R133). Where it reaches the balance interval, the mark is a balance interval, left due for
BALANCE_INTERVAL, and the count returns to 0. DESIGN CHOICE (log 45): taken after a SITE activation of its boundary,
the mark counts as 1 toward the restarted count, which it compares with the interval from before (R31, R35). -/
def Hub.markInterval (h : Hub) : Hub :=
  if h.inService ∧ h.bd.serviceBegun = false then
    let n := h.sbl.intervalCount + 1
    if h.eventTables.interval ≤ n then
      { h with sbl := { h.sbl with intervalCount := 0, intervalDue := true } }
    else { h with sbl := { h.sbl with intervalCount := n } }
  else h

/-- SECOND_MARK, at the boundary at which the frame count reaches 16,000 (R167). DESIGN CHOICE (log 48): the
clearings of CRC_RATE are handed on in ascending port number. -/
def Hub.secondMark (h : Hub) : Hub :=
  if !h.markDue then h
  else
    let h := { h with
      mga := { h.mga with frameCount := 0, seconds := sat32 h.mga.seconds 1 } }
    let h := each Hub.markErrored h.markPoll.markInterval
    let h := { h with fsv := { h.fsv with
      portRecords := mapTab (mapTab FaultRecord.tick) h.fsv.portRecords
      donorRecords := mapTab FaultRecord.tick h.fsv.donorRecords } }
    each Hub.markSilent h

/-- SECOND_MARK (R167). -/
def execSecondMark (s : State) : Host.Outcome State Fault Refusal := s.atBoundary Hub.secondMark

/-! ## The trunk cell (R16, R171, R175) -/

/-- MGA supplies the cell of the trunk frame that begins, once at a boundary (R171). -/
def Hub.trunkSupply (h : Hub) : Hub :=
  if h.bd.supplyDone then h
  else
    let attention := h.attention
    let h := { h with bd := { h.bd with supplyDone := true } }
    match h.mga.responses with
    | r :: rest =>
      if h.lnk.trunk.state = .up then
        { h with mga := { h.mga with responses := rest, sent := r.cellBytes attention } }
      else { h with mga := { h.mga with sent := idleCellBytes attention } }
    | [] => { h with mga := { h.mga with sent := idleCellBytes attention } }

/-! ## Requests that are due (R170) -/

/-- The request at the head of the queue is taken by its own rule. -/
def Hub.serveHead (h : Hub) : Hub :=
  match h.mga.requests with
  | [] => h
  | c :: _ =>
    match c.reqKind with
    | none => h.takeUnknown
    | some .hello => h.takeRequest .hello Hub.actHello
    | some .read => h.takeRead ((readObjectOf (c.arg 0)).getD .portStatus)
    | some .tableRead => h.takeRequest .tableRead Hub.actTableRead
    | some .loadBegin => h.takeRequest .loadBegin Hub.actLoadBegin
    | some .loadEnd => h.takeRequest .loadEnd Hub.actLoadEnd
    | some .loadAbort => h.takeRequest .loadAbort Hub.actLoadAbort
    | some .enterService => h.takeRequest .enterService Hub.actEnterService
    | some .restart => h.takeRequest .restart Hub.actRestart
    | some .portReset => h.takeRequest .portReset Hub.actPortReset
    | some .move => h.takeRequest .move Hub.actMove
    | some .cancelMove => h.takeRequest .cancelMove Hub.actCancelMove
    | some .clearFaults => h.takeRequest .clearFaults Hub.actClearFaults
    | some .wake => h.takeRequest .wake Hub.actWake
    | some .measureDelay => h.takeRequest .measureDelay Hub.actMeasureDelay
    | some .loopTest => h.takeRequest .loopTest Hub.actLoopTest
    | some .priorityPoll => h.takeRequest .priorityPoll Hub.actPriorityPoll
    | some .operatorHold => h.takeRequest .operatorHold Hub.actOperatorHold
    | some .operatorRelease => h.takeRequest .operatorRelease Hub.actOperatorRelease
    | some .clearCounters => h.takeRequest .clearCounters Hub.actClearCounters

/-- Requests are taken while the agent can take one, at most `n` (R170). -/
def Hub.serve : Nat → Hub → Hub
  | 0, h => h
  | n + 1, h => if h.canTake then h.serveHead.serve n else h

/-! ## FRAME_BOUNDARY -/

/-- `f` for every link: the remote ports, the donors, the trunk. -/
def eachLink (f : LinkId → Hub → Hub) (h : Hub) : Hub :=
  f .trunk (each (fun d => f (.donor d)) (each (fun p => f (.remote p)) h))

/-- `f` for every fault record. -/
def eachKey (f : FaultKey → Hub → Hub) (h : Hub) : Hub := allKeys.foldl (fun h k => f k h) h

/-- The events of the links that are still due: the absence of frames, alignment and its loss, cells (R2,
R4, R5, R169). -/
def Hub.settleLinks (h : Hub) : Hub :=
  let h := eachLink (fun l => Hub.receiveFrame l []) h
  let h := eachLink Hub.alignmentLost (eachLink Hub.linkAligned h)
  let h := Hub.takeCell .idle (fun _ h => h) h
  let h := Hub.takeCell .request Hub.acceptRequest h
  let h := Hub.takeCell .data (fun c h => { h with tld := h.tld.data c }) h
  let h := Hub.takeCell .check (fun c h => { h with tld := h.tld.check c }) h
  Hub.takeCell .response Hub.unexpectedCell h

/-- Measurements, replies and misses that are still due (R18, R19, R153, R154). -/
def Hub.settleRau (h : Hub) : Hub :=
  let h := each Hub.measurementTimeout (each Hub.measurementDone h)
  h.measurementStart.identifyReply.statusReply.attemptMiss

/-- Detectors, limiter, window and second mark that are still due. -/
def Hub.settleLevels (h : Hub) : Hub :=
  let h := (each Hub.cratePresent h).limiterUpdate
  let h := each (fun p => each (Hub.holdRestore p)) h
  let h := each Hub.overdriveClear (each Hub.overdrivePresent h)
  let h := (each Hub.overloadPresent h.windowEnd).secondMark
  (each Hub.silentPresent h).pollInterval

/-- Expiries, balancing and moves that are still due. -/
def Hub.settleBalance (h : Hub) : Hub :=
  let h := eachKey (fun k h => h.coolingExpiry k) h
  let h := eachKey (fun k h => h.settleExpiry k) h
  let h := each Hub.quietEntry h.balanceInterval
  h.moveAbandon.rampStep.moveCommit.moveStart

/-- Effects of accepted requests and loads that are still due. -/
def Hub.settleEffects (h : Hub) : Hub :=
  h.loadTimeout.tableActivation.holdEffect.releaseEffect.serviceEntry.portResetEffect.restartEffect

/-- DESIGN CHOICE. All that the boundary still has to do, in one fixed order. An event that the manual lets
come earlier or later has its own command, which takes it before. DESIGN CHOICE (log 33): a PORT_RESET taken
before the recomputation clears the step counter first, so a change of c_p at that boundary leaves it at 1
(R79). Requests are taken before the supply of the trunk cell and, where it makes room, after it (R170). -/
def Hub.settle (h : Hub) : Hub :=
  let h := h.settleLinks.settleRau.settleLevels.settleBalance.settleEffects
  let h := h.deqRecompute.cteSelect.join
  let h := (h.serve h.mga.requests.length).trunkSupply
  h.serve h.mga.requests.length

/-- FRAME_BOUNDARY: the boundary begins, if it is not under way, and `part` of its work is done (R1). -/
def Hub.frameBoundary (part : BoundaryPart) (h : Hub) : Hub :=
  match part with
  | .whole => h.settle.beginFrame
  | .frameEnd => h
  | .limiterUpdate => h.limiterUpdate
  | .deqRecompute => h.deqRecompute
  | .combiningJoin => h.join
  | .trunkSupply => h.trunkSupply

/-- FRAME_BOUNDARY (R1). -/
def execFrameBoundary (part : BoundaryPart) (s : State) : Host.Outcome State Fault Refusal :=
  s.atBoundary (Hub.frameBoundary part)

end Sys2Proof.Machine
end

