-- ==== Sys2Proof/Machine/Dispatch.lean ====
section
/-! DEFINITION. The meaning of every command: one arm per constructor, one direct call. -/

namespace Sys2Proof.Machine

def exec (i : Instr) (s : State) : Host.Outcome State Fault Refusal :=
  match i with
  | .powerOn => Sys2Proof.Machine.execPowerOn s
  | .signalPresent l => Sys2Proof.Machine.execSignalPresent l s
  | .signalAbsent l => Sys2Proof.Machine.execSignalAbsent l s
  | .frameBoundary part => Sys2Proof.Machine.execFrameBoundary part s
  | .receiveFrame l done => Sys2Proof.Machine.execReceiveFrame l done s
  | .linkAligned l => Sys2Proof.Machine.execLinkAligned l s
  | .linkAlignmentLost l => Sys2Proof.Machine.execLinkAlignmentLost l s
  | .delayMeasurementStart => Sys2Proof.Machine.execDelayMeasurementStart s
  | .measurementDone p => Sys2Proof.Machine.execMeasurementDone p s
  | .measurementTimeout p => Sys2Proof.Machine.execMeasurementTimeout p s
  | .identifyReply => Sys2Proof.Machine.execIdentifyReply s
  | .statusReply => Sys2Proof.Machine.execStatusReply s
  | .cteSelect => Sys2Proof.Machine.execCteSelect s
  | .attemptMiss => Sys2Proof.Machine.execAttemptMiss s
  | .pollInterval => Sys2Proof.Machine.execPollInterval s
  | .secondMark => Sys2Proof.Machine.execSecondMark s
  | .crcRatePresent p => Sys2Proof.Machine.execCrcRatePresent p s
  | .ulSilentPresent p => Sys2Proof.Machine.execUlSilentPresent p s
  | .windowEnd => Sys2Proof.Machine.execWindowEnd s
  | .ulOverloadPresent p => Sys2Proof.Machine.execUlOverloadPresent p s
  | .holdRestore p b => Sys2Proof.Machine.execHoldRestore p b s
  | .dlOverdrivePresent p => Sys2Proof.Machine.execDlOverdrivePresent p s
  | .dlOverdriveClear p => Sys2Proof.Machine.execDlOverdriveClear p s
  | .idleCell => Sys2Proof.Machine.execIdleCell s
  | .requestCell => Sys2Proof.Machine.execRequestCell s
  | .dataCell => Sys2Proof.Machine.execDataCell s
  | .checkCell => Sys2Proof.Machine.execCheckCell s
  | .responseCell => Sys2Proof.Machine.execResponseCell s
  | .hello => Sys2Proof.Machine.execHello s
  | .readPortStatus => Sys2Proof.Machine.execReadPortStatus s
  | .readSectorStatus => Sys2Proof.Machine.execReadSectorStatus s
  | .readCarrierStatus => Sys2Proof.Machine.execReadCarrierStatus s
  | .readMeter => Sys2Proof.Machine.execReadMeter s
  | .readExtremes => Sys2Proof.Machine.execReadExtremes s
  | .readDlPower => Sys2Proof.Machine.execReadDlPower s
  | .readFaults => Sys2Proof.Machine.execReadFaults s
  | .readFaultHistory => Sys2Proof.Machine.execReadFaultHistory s
  | .readMoveQueue => Sys2Proof.Machine.execReadMoveQueue s
  | .readMoveLog => Sys2Proof.Machine.execReadMoveLog s
  | .readAdvice => Sys2Proof.Machine.execReadAdvice s
  | .readCounters => Sys2Proof.Machine.execReadCounters s
  | .readNotices => Sys2Proof.Machine.execReadNotices s
  | .readLoadStatus => Sys2Proof.Machine.execReadLoadStatus s
  | .readLinkSummary => Sys2Proof.Machine.execReadLinkSummary s
  | .readQuietSummary => Sys2Proof.Machine.execReadQuietSummary s
  | .tableRead => Sys2Proof.Machine.execTableRead s
  | .loadBegin => Sys2Proof.Machine.execLoadBegin s
  | .loadEnd => Sys2Proof.Machine.execLoadEnd s
  | .loadAbort => Sys2Proof.Machine.execLoadAbort s
  | .loadTimeout => Sys2Proof.Machine.execLoadTimeout s
  | .tableActivation => Sys2Proof.Machine.execTableActivation s
  | .enterService => Sys2Proof.Machine.execEnterService s
  | .serviceEntry => Sys2Proof.Machine.execServiceEntry s
  | .restart => Sys2Proof.Machine.execRestart s
  | .restartEffect => Sys2Proof.Machine.execRestartEffect s
  | .portReset => Sys2Proof.Machine.execPortReset s
  | .portResetEffect => Sys2Proof.Machine.execPortResetEffect s
  | .clearCounters => Sys2Proof.Machine.execClearCounters s
  | .operatorHold => Sys2Proof.Machine.execOperatorHold s
  | .operatorRelease => Sys2Proof.Machine.execOperatorRelease s
  | .operatorHoldEffect => Sys2Proof.Machine.execOperatorHoldEffect s
  | .operatorReleaseEffect => Sys2Proof.Machine.execOperatorReleaseEffect s
  | .measureDelay => Sys2Proof.Machine.execMeasureDelay s
  | .loopTest => Sys2Proof.Machine.execLoopTest s
  | .move => Sys2Proof.Machine.execMove s
  | .cancelMove => Sys2Proof.Machine.execCancelMove s
  | .wake => Sys2Proof.Machine.execWake s
  | .clearFaults => Sys2Proof.Machine.execClearFaults s
  | .priorityPoll => Sys2Proof.Machine.execPriorityPoll s
  | .balanceInterval => Sys2Proof.Machine.execBalanceInterval s
  | .quietEntry p => Sys2Proof.Machine.execQuietEntry p s
  | .moveStart => Sys2Proof.Machine.execMoveStart s
  | .rampStep => Sys2Proof.Machine.execRampStep s
  | .moveCommit => Sys2Proof.Machine.execMoveCommit s
  | .moveAbandon => Sys2Proof.Machine.execMoveAbandon s
  | .coolingExpiry k => Sys2Proof.Machine.execCoolingExpiry k s
  | .settleExpiry k => Sys2Proof.Machine.execSettleExpiry k s
  | .unknownRequest => Sys2Proof.Machine.execUnknownRequest s

end Sys2Proof.Machine
end

