-- ==== Sys2Proof/WellFormed.lean ====
section
/-! DEFINITION. Which commands can reach the hub: RECEIVE_FRAME brings stretches of one frame length of its
link, each at a bit position of the frame period, at most two of them (R2, R17, R177). Every other operand is in
range by its type. -/

namespace Sys2Proof

open Sys2Proof.Machine

/-- A stretch has the length of its link's frames in bytes (R177). -/
def Arrival.lengthOk (l : LinkId) (a : Arrival) : Bool := a.bytes.length = frameLength l

/-- A stretch begins at a bit position of the link's frame period (R4). -/
def Arrival.posOk (l : LinkId) (a : Arrival) : Bool := a.pos < 8 * frameLength l

/-- The marker was found at one of the 256 instants of the hub frame that has just ended or of the one before
it (R1, R17). DEDUCED (log 30): a span frame lasts one hub frame period, and it is complete in the frame
that has just ended (R2). -/
def Arrival.foundOk (a : Arrival) : Bool := a.framesAgo ≤ 1 && a.instant < 256

/-- At most two received frames of a link become complete between two hub frame boundaries (R2). -/
def countOk (done : List Arrival) : Bool := done.length ≤ 2

/-- A command that can reach the hub. -/
def Instr.wf : Instr → Bool
  | .receiveFrame l done =>
    countOk done && done.all fun a => a.lengthOk l && a.posOk l && a.foundOk
  | _ => true

end Sys2Proof
end

