-- ==== Sys2Proof/Safety.lean ====
section
/-! DEFINITION. The terms in which statements speak of a good hub: the laws that the manual states of every
frame, and when a request can be taken. -/

namespace Sys2Proof.Machine

/-! ## Laws of every frame -/

/-- Every L lies within 512..4096 (R55). -/
def Hub.factorsInRange (h : Hub) : Prop :=
  ∀ (p : PortId) (b : Lane), 512 ≤ h.plm[p].lanes[b].factor ∧ h.plm[p].lanes[b].factor ≤ 4096

/-- The compensation law of one port (R71, R75): c_p = min(1023, T_s − delay taken) in the sector where
the port counts, else 0; the indication tells of a clamp; the DELAY_RANGE state joins the two facts. -/
def PortEq.lawful (sectors : Vector SectorEq 12) (e : PortEq) : Prop :=
  (match e.countedIn with
    | some s => e.comp = min 1023 (sectors[s].target - e.delayTaken)
        ∧ e.compRange = decide (1023 < sectors[s].target - e.delayTaken)
    | none => e.comp = 0 ∧ e.compRange = false)
  ∧ e.range = (e.rtTaken || e.compRange)

/-- The compensation law holds of every port (R71, R75). -/
def Hub.equalized (h : Hub) : Prop := ∀ p : PortId, (h.deq.ports[p]).lawful h.deq.sectors

/-- Every delay line holds its 1,024 instants (R72, R73). -/
def Hub.linesFull (h : Hub) : Prop :=
  ∀ p : PortId, h.deq.ports[p].downLine.length = 1024 ∧ h.deq.ports[p].upLine.length = 1024

/-- The laws of the move queue and of assignment (R113, R120): at most 8 entries, never two for one port,
never one for the port in flight; the port in flight, and no other, is assigned to a source and a
target; in CONFIG nothing is queued and no move is in flight. -/
def Hub.movesLawful (h : Hub) : Prop :=
  h.sbl.queue.length ≤ 8
  ∧ (h.sbl.queue.map fun e => e.port).Nodup
  ∧ (∀ m, h.sbl.flight = some m → ∀ e ∈ h.sbl.queue, e.port ≠ m.entry.port)
  ∧ (∀ m, h.sbl.flight = some m → h.assignOf m.entry.port = .two m.entry.source m.entry.target)
  ∧ (∀ p s t, h.assignOf p = .two s t → (h.flightOf p).isSome)
  ∧ (h.inService = false → h.sbl.queue = [] ∧ h.sbl.flight = none)

/-- The laws of assignment of R113, with what they rest on. In CONFIG no port is assigned. In SERVICE a disabled
port is at no sector, an enabled one at exactly one or ramping; no enabled sector exceeds its max members; a
queued port stands alone in its entry's source (R120); the active tables pass the cross checks, and would pass
them with the scheduled image in place (R30). While an accepted ENTER_SERVICE waits, no image is scheduled and
the active tables pass (R168). -/
def Hub.placesLawful (h : Hub) : Prop :=
  (h.inService = false → ∀ p, h.assignOf p = .none)
  ∧ (h.inService = true →
    (∀ p, h.tables.portOn p = false → h.assignOf p = .none)
    ∧ (∀ p, h.tables.portOn p = true → (∃ s, h.assignOf p = .one s) ∨ (h.flightOf p).isSome)
    ∧ (∀ s, h.tables.sectorOn s = true → h.assignedCount s ≤ h.tables.maxMembers s)
    ∧ (∀ e ∈ h.sbl.queue, h.assignOf e.port = .one e.source)
    ∧ crossCheck h.tables = none
    ∧ ∀ id img, h.tld.scheduled = some (id, img) → crossCheck (h.tables.put id img) = none)
  ∧ ∀ tag, h.mga.busy = some (.enterService tag) → h.tld.scheduled = none ∧ crossCheck h.tables = none

/-- The bounds of the hub's lists: the request queue (R169), the move log (R128), the fault history (R148)
and the advice list (R119). -/
def Hub.listsBounded (h : Hub) : Prop :=
  h.mga.requests.length ≤ 4 ∧ h.sbl.log.length ≤ 16 ∧ h.fsv.history.length ≤ 16
    ∧ h.sbl.advice.length ≤ 8

/-- Responses that the agent still owes: one while it is busy with a request that it answers later (R170); a
RESTART was answered when it was taken (R173). -/
def Mga.owed (m : Mga) : Nat :=
  match m.busy with
  | none => 0
  | some .restart => 0
  | some _ => 1

/-- The bound of the response queue (R171), and what it rests on: the queue has room for what the agent still owes
(R170), and a test or a measurement that is to be answered keeps the agent busy (R19, R104). -/
def Hub.answersBounded (h : Hub) : Prop :=
  h.mga.responses.length + h.mga.owed ≤ 8
  ∧ (∀ p : PortId, h.lvm.ports[p].loop ≠ .none → h.mga.busy = some (.loopTest p))
  ∧ ∀ (p : PortId) (tag : Byte), h.lnk.remote[p].meas.running = true →
      h.lnk.remote[p].meas.origin = .request tag → h.mga.busy = some (.measuring p)

/-- A link state of a donor port or of the trunk: DOWN, HUNT or UP (R14, R15). -/
def LinkState.ofDonor (st : LinkState) : Prop := st = .down ∨ st = .hunt ∨ st = .up

/-- Every donor and the trunk are in a state that R14 and R15 give them. -/
def Hub.linksLegal (h : Hub) : Prop :=
  (∀ d : DonorId, (h.lnk.donor[d].state).ofDonor) ∧ (h.lnk.trunk.state).ofDonor

/-! ## The checks of a table, in plain terms (R29, R30, on the layouts of R180) -/

/-- Number of records of a table (R180). -/
def TableId.records : TableId → Nat
  | .site => 1 | .sector => 12 | .carrier => 32 | .port => 24 | .response => 9

/-- The own checks of record `n` of an image, each its name with what it asks of the record, in the order of the
table of R29. RANGE joins the ranges of R23 to R28. -/
def ownRules (id : TableId) (m : List Byte) (n : Nat) : List (CheckName × Prop) :=
  match id with
  | .site =>
    [ (.range, byteAt m 0 ≤ 2 ∧ 1 ≤ byteAt m 1 ∧ byteAt m 2 ≤ 7 ∧ byteAt m 3 ≤ 7
        ∧ (∀ k, 4 ≤ k → k ≤ 7 → byteAt m k ≤ 15) ∧ 1 ≤ byteAt m 8 ∧ byteAt m 8 ≤ 15
        ∧ 1 ≤ byteAt m 9 ∧ byteAt m 9 ≤ 60 ∧ byteAt m 10 ≤ 127),
      (.pad, ∀ k, 11 ≤ k → k ≤ 15 → byteAt m k = 0) ]
  | .sector =>
    let o := 12 * n
    [ (.range, byteAt m o ≤ 3 ∧ 1 ≤ byteAt m (o + 1) ∧ byteAt m (o + 1) ≤ 10
        ∧ 1 ≤ byteAt m (o + 2) ∧ byteAt m (o + 2) ≤ 10 ∧ 4 ≤ byteAt m (o + 3) ∧ byteAt m (o + 3) ≤ 12
        ∧ 1 ≤ byteAt m (o + 4) ∧ byteAt m (o + 4) ≤ 15
        ∧ word24At m (o + 6) ≤ 74400 ∧ word24At m (o + 9) ≤ 74400),
      (.pad, byteAt m (o + 5) = 0),
      (.memberLimits, byteAt m (o + 1) ≤ byteAt m (o + 2)),
      (.markOrder, word24At m (o + 9) ≤ word24At m (o + 6)) ]
  | .carrier =>
    let o := 8 * n
    [ (.range, byteAt m o ≤ 1 ∧ byteAt m (o + 1) ≤ 5 ∧ byteAt m (o + 2) ≤ 3 ∧ byteAt m (o + 3) ≤ 11
        ∧ word16At m (o + 4) ≤ 8191 ∧ word16At m (o + 6) ≤ 8191) ]
  | .port =>
    let o := 48 * n
    let alternate := fun k => byteAt m (o + 2 + k)
    [ (.range, byteAt m o < 64 ∧ byteAt m o / 16 ≤ 2 ∧ byteAt m (o + 1) ≤ 11
        ∧ (∀ k < 3, alternate k ≤ 11 ∨ alternate k = 0xFF)
        ∧ 1 ≤ byteAt m (o + 5) ∧ 1 ≤ word16At m (o + 6) ∧ word16At m (o + 6) ≤ 512
        ∧ 1 ≤ byteAt m (o + 8) ∧ byteAt m (o + 9) ≤ 15 ∧ word16At m (o + 10) ≤ 7440
        ∧ byteAt m (o + 12) ≤ 124 ∧ 256 ≤ word16At m (o + 14) ∧ word16At m (o + 14) ≤ 4096
        ∧ ∀ b < 4, word16At m (o + 16 + 8 * b) ≤ 8191 ∧ word16At m (o + 18 + 8 * b) ≤ 8191
          ∧ byteAt m (o + 20 + 8 * b) ≤ 164 ∧ byteAt m (o + 21 + 8 * b) ≤ 124
          ∧ byteAt m (o + 22 + 8 * b) ≤ 124 ∧ byteAt m (o + 23 + 8 * b) ≤ 124),
      (.pad, byteAt m (o + 13) = 0),
      (.alternates, (∀ k < 3, alternate k ≠ byteAt m (o + 1))
        ∧ ∀ j k, j < k → k < 3 →
          (alternate j = alternate k → alternate j = 0xFF) ∧ (alternate j = 0xFF → alternate k = 0xFF)) ]
  | .response =>
    let o := 8 * n
    let param := word16At m (o + 4)
    [ (.range, byteAt m o ≤ 3 ∧ byteAt m (o + 1) ≤ 7 ∧ 1 ≤ byteAt m (o + 2)
        ∧ 1 ≤ byteAt m (o + 3) ∧ byteAt m (o + 3) ≤ 15
        ∧ (n = 1 → 1 ≤ param ∧ param ≤ 16000) ∧ (n = 3 → 1 ≤ param ∧ param ≤ 255)
        ∧ (n = 4 → 1 ≤ param ∧ param ≤ 3600) ∧ (n ≠ 1 → n ≠ 3 → n ≠ 4 → param = 0)),
      (.pad, byteAt m (o + 6) = 0 ∧ byteAt m (o + 7) = 0),
      (.donorPolicy, n = 8 → 2 ≤ byteAt m o ∧ byteAt m (o + 1) = 0) ]

/-- Record `n` of an image passes its own checks (R29). -/
def recordPasses (id : TableId) (m : List Byte) (n : Nat) : Prop := ∀ r ∈ ownRules id m n, r.2

/-- What the cross checks forbid of the item with index `i` (R30). -/
def crossFails (t : Tables) : CheckName → Nat → Prop
  | .carrierHome, i => ∃ c : CarrierId, c.val = i ∧ t.carrierOn c = true ∧ t.sectorOn (t.carrierHome c) = false
  | .portSectors, i => ∃ p : PortId, p.val = i ∧ t.portOn p = true
      ∧ (t.sectorOn (t.home p) = false ∨ ∃ s ∈ t.alternates p, t.sectorOn s = false)
  | .memberCount, i => ∃ s : SectorId, s.val = i ∧ t.sectorOn s = true
      ∧ ¬ (t.minMembers s ≤ t.homeCount s ∧ t.homeCount s ≤ t.maxMembers s)
  | .laneCarriers, i => ∃ s : SectorId, s.val = i ∧ ∃ b : Lane,
      8 < t.carriersOn s b (fun _ => true)
        ∨ ∃ o : OperatorId, 2 < t.carriersOn s b fun c => t.operator c = o
  | _, _ => False

/-- The cross checks, in their order (R30). -/
def crossOrder : List CheckName := [.carrierHome, .portSectors, .memberCount, .laneCarriers]

/-! ## What the boundary has decided of a port -/

/-- Nothing that this boundary's frames and detectors have decided of port `p` is still to be taken, and PLM's
update has not been taken yet. -/
def Hub.nothingDue (h : Hub) (p : PortId) : Prop :=
  ¬ (h.linkOf p = .hunt ∧ 4 ≤ h.lnk.remote[p].core.good ∧ h.lnk.remote[p].core.arrival ≠ none)
  ∧ ¬ ((h.linkOf p).aligned = true ∧ 8 ≤ h.lnk.remote[p].core.bad)
  ∧ ¬ (h.lnk.remote[p].meas.running = true ∧ h.lnk.remote[p].meas.taken = 4)
  ∧ h.cte.ports[p].field = none
  ∧ h.fsv.detectors[p].crcDue = false ∧ h.fsv.detectors[p].overloadDue = false
  ∧ h.fsv.detectors[p].silentDue = false ∧ h.bd.limiterDone = false

/-! ## Commands -/

end Sys2Proof.Machine

namespace Sys2Proof

/-- A command that takes a request from the head of the request queue (R170). -/
def Instr.isRequest : Instr → Bool
  | .hello | .readPortStatus | .readSectorStatus | .readCarrierStatus | .readMeter | .readExtremes
  | .readDlPower | .readFaults | .readFaultHistory | .readMoveQueue | .readMoveLog | .readAdvice
  | .readCounters | .readNotices | .readLoadStatus | .readLinkSummary | .readQuietSummary
  | .tableRead | .loadBegin | .loadEnd | .loadAbort | .enterService | .restart | .portReset
  | .clearCounters | .operatorHold | .operatorRelease | .measureDelay | .loopTest | .move
  | .cancelMove | .wake | .clearFaults | .priorityPoll | .unknownRequest => true
  | .powerOn | .signalPresent _ | .signalAbsent _ | .frameBoundary _ | .receiveFrame _ _
  | .linkAligned _ | .linkAlignmentLost _ | .delayMeasurementStart | .measurementDone _
  | .measurementTimeout _ | .identifyReply | .statusReply | .cteSelect | .attemptMiss
  | .pollInterval | .secondMark | .crcRatePresent _ | .ulSilentPresent _ | .windowEnd
  | .ulOverloadPresent _ | .holdRestore _ _ | .dlOverdrivePresent _ | .dlOverdriveClear _
  | .idleCell | .requestCell | .dataCell | .checkCell | .responseCell | .loadTimeout
  | .tableActivation | .serviceEntry | .restartEffect | .portResetEffect | .operatorHoldEffect
  | .operatorReleaseEffect | .balanceInterval | .quietEntry _ | .moveStart | .rampStep
  | .moveCommit | .moveAbandon | .coolingExpiry _ | .settleExpiry _ => false

/-- The commands that are events of a frame boundary: all but POWER_ON and the taking of a request. -/
def Instr.isBoundaryEvent (c : Instr) : Prop := c ≠ .powerOn ∧ c.isRequest = false

/-- The whole FRAME_BOUNDARY, after which the next frame is under way (R1). -/
def Instr.beginsFrame (c : Instr) : Prop := c = .frameBoundary .whole

end Sys2Proof

namespace Sys2Proof.Machine

/-- `c` is at the head of the request queue with `rest` behind it, the agent is free and the response queue
has room (R170). -/
def Hub.offers (h : Hub) (c : Cell) (rest : List Cell) : Prop :=
  h.mga.requests = c :: rest ∧ h.mga.busy = none ∧ h.mga.responses.length < 8

/-- A request of kind `k` with the length of its kind is offered (R170, R179). -/
def Hub.offersKind (h : Hub) (c : Cell) (rest : List Cell) (k : ReqKind) : Prop :=
  h.offers c rest ∧ c.reqKind = some k ∧ c.length.toNat = k.length

/-- The agent when the head has been taken, with `rest` waiting, and answered with `r` (R170, R171). -/
def Mga.answered (m : Mga) (rest : List Cell) (r : Response) : Mga :=
  { m with requests := rest, responses := m.responses ++ [r] }

/-- A response OK with a report (R179). -/
def okResponse (tag : Byte) (report : List Byte) : Response :=
  { tag := tag, status := .ok, used := report.length, payload := report }

/-- A response that is not OK: the reason code, then the report (R179). -/
def badResponse (tag : Byte) (status : Status) (reason : Byte) (report : List Byte) : Response :=
  { tag := tag, status := status, used := report.length + 1, payload := reason :: report }

/-- A class's pending mark is set (R174). -/
def Mga.raised (m : Mga) (n : Notice) : Mga :=
  { m with marks := m.marks.set n.idx.val true n.idx.isLt }

/-- The last sixteen of a list that one more item joins (R128, R148). -/
def lastSixteen {α : Type} (xs : List α) : List α := xs.drop (xs.length - 16)

/-- The move log with some ends of moves logged, numbered on from `seq` and stamped `stamp` (R128). -/
def logged (log : List LogEntry) (seq : BitVec 32) (stamp : Nat) (ends : List (MoveEntry × MoveOutcome)) :
    List LogEntry :=
  lastSixteen (log ++ ends.zipIdx.map fun x =>
    { sequence := seq + BitVec.ofNat 32 (x.2 + 1), entry := x.1.1, outcome := x.1.2, stamp := stamp })

/-! ## When an event of a boundary is due, in plain terms -/

/-- The condition under which event `c` acts at the boundary under way. The other commands always act (log 3). -/
def Hub.due (h : Hub) (c : Instr) : Prop :=
  let agent := fun b : Busy => h.mga.busy = some b ∧ h.mga.busyRipe = true
  let reply := fun k : TxKind => ∃ x f, h.cte.transaction = some x ∧ x.kind = k ∧ h.replyOf x = some f
  let cell := fun k : CellType => ∃ x, h.mga.cell = some x ∧ x.kind = k
  let moves := fun f : MoveRecord → Prop => ∃ m, h.sbl.flight = some m ∧ f m
  match c with
  | .receiveFrame l _ => (h.core l).handed = false
  | .linkAligned l => (h.core l).state = .hunt ∧ 4 ≤ (h.core l).good ∧ (h.core l).arrival ≠ none
  | .linkAlignmentLost l => (h.core l).state.aligned = true ∧ 8 ≤ (h.core l).bad
  | .delayMeasurementStart => ∃ tag p, agent (.measureStart tag p)
  | .measurementDone p => h.lnk.remote[p].meas.running = true ∧ h.lnk.remote[p].meas.taken = 4
  | .measurementTimeout p => h.lnk.remote[p].meas.running = true ∧ 16 ≤ h.lnk.remote[p].meas.elapsed
      ∧ h.lnk.remote[p].meas.taken < 4 ∧ h.lnk.remote[p].core.handed = true
  | .identifyReply => reply .identify
  | .statusReply => reply .status
  | .cteSelect => h.cte.transaction = none ∧ h.bd.selectDone = false
  | .attemptMiss => ∃ x, h.cte.transaction = some x ∧ x.remaining = 0
      ∧ h.lnk.remote[x.port].core.handed = true ∧ h.replyOf x = none
  | .pollInterval => h.cte.pollDue = true
  | .secondMark => 16000 ≤ h.mga.frameCount
  | .crcRatePresent p => h.fsv.detectors[p].crcDue = true
  | .ulSilentPresent p => h.fsv.detectors[p].silentDue = true
  | .ulOverloadPresent p => h.fsv.detectors[p].overloadDue = true
  | .windowEnd => h.tables.window ≤ h.lvm.windowCount
  | .holdRestore p b => h.bd.limiterDone = false ∨ h.plm[p].lanes[b].restoreDue = true
  | .dlOverdrivePresent p => h.bd.limiterDone = false
      ∨ h.plm[p].flag = false ∧ ∃ b : Lane, h.plm[p].lanes[b].overdrive = 16
  | .dlOverdriveClear p => h.bd.limiterDone = false ∨ h.plm[p].flag = true ∧ h.plm[p].clean = 16
  | .idleCell => cell .idle
  | .requestCell => cell .request
  | .dataCell => cell .data
  | .checkCell => cell .check
  | .responseCell => cell .response
  | .loadTimeout => h.tld.phase = .opened ∧ 16000 ≤ h.tld.silence
  | .tableActivation => h.tld.scheduled ≠ none ∧ h.tld.scheduledRipe = true
  | .serviceEntry => ∃ tag, agent (.enterService tag)
  | .restartEffect => agent .restart
  | .portResetEffect => ∃ tag p, agent (.portReset tag p)
  | .operatorHoldEffect => ∃ tag o, agent (.operatorHold tag o)
  | .operatorReleaseEffect => ∃ tag o, agent (.operatorRelease tag o)
  | .balanceInterval => h.inService = true ∧ h.sbl.intervalDue = true
  | .quietEntry p => h.sbl.ports[p].quietDue = true
  | .moveStart => h.sbl.flight = none ∧ h.bd.headSeen = false
  | .rampStep => moves fun m => h.bd.rampDue = true ∧ m.ending = none ∧ m.step + 1 < m.length
  | .moveCommit => moves fun m => h.bd.rampDue = true ∧ m.ending = none ∧ m.length ≤ m.step + 1
  | .moveAbandon => moves fun m => h.bd.abandonDue = true ∧ m.ending ≠ none
  | .coolingExpiry k => (h.faultRecord k).state = .cooling ∧ h.timerOut (h.faultRecord k) = true
  | .settleExpiry k => (h.faultRecord k).state = .idle ∧ 0 < (h.faultRecord k).retries
      ∧ h.timerOut (h.faultRecord k) = true
  | .frameBoundary .frameEnd => False
  | .frameBoundary .limiterUpdate => h.bd.limiterDone = false
  | .frameBoundary .deqRecompute => h.bd.deqDone = false
  | .frameBoundary .combiningJoin => h.bd.joinDone = false
  | .frameBoundary .trunkSupply => h.bd.supplyDone = false
  | .frameBoundary .whole | .powerOn | .signalPresent _ | .signalAbsent _ => True
  | .hello | .readPortStatus | .readSectorStatus | .readCarrierStatus | .readMeter | .readExtremes
  | .readDlPower | .readFaults | .readFaultHistory | .readMoveQueue | .readMoveLog | .readAdvice
  | .readCounters | .readNotices | .readLoadStatus | .readLinkSummary | .readQuietSummary
  | .tableRead | .loadBegin | .loadEnd | .loadAbort | .enterService | .restart | .portReset
  | .clearCounters | .operatorHold | .operatorRelease | .measureDelay | .loopTest | .move
  | .cancelMove | .wake | .clearFaults | .priorityPoll | .unknownRequest => True

/-! ## Deliveries, in plain terms (R5, R13) -/

/-- The verdict of a frame of link `l` that is delivered with aligned position `pos` (R5). -/
def verdictOf (l : LinkId) (pos : Option Nat) (a : Arrival) : Verdict :=
  if markerGood a.bytes = false ∨ pos ≠ some a.pos then .slipped
  else if crcMatches l a.bytes then .good
  else .errored

/-- A link after the delivery of a frame with verdict `v`: the payload of a GOOD frame is the link's samples, and
those of an errored one are zero; the bad-marker count, the errored total and the slip count move (R2, R5, R13). -/
def LinkCore.delivered (c : LinkCore) (l : LinkId) (v : Verdict) (a : Arrival) : LinkCore :=
  { c with
    verdict := some v
    samples := if v = .good ∧ l ≠ .trunk then payloadSamples (payloadPart l a.bytes) else []
    bad := if v = .slipped then min (c.bad + 1) 8 else 0
    errored := if v = .errored then min (c.errored + 1) (2 ^ 32 - 1) else c.errored
    slips := if v = .slipped then min (c.slips + 1) (2 ^ 32 - 1) else c.slips }

/-! ## Presentations and clearings, in plain terms (R137, R142, R143, R147, R148) -/

/-- A presentation of a condition that is CLEAR, under a mode other than IGNORE, is written as DETECTED (R147). -/
def FaultRecord.detects (r : FaultRecord) (t : Tables) (row : Nat) : Bool :=
  !r.present && decide (t.responseMode row ≠ .ignore)

/-- Such a detection takes an IDLE or a LATCHED record into ACTIVE or COOLING, and raises FAULT (R142, R143, R147). -/
def FaultRecord.enters (r : FaultRecord) (t : Tables) (row : Nat) : Bool :=
  r.detects t row && decide (r.state = .idle ∨ r.state = .latched)

/-- A fault record after a presentation of its condition (R137, R142, R143). One that is PRESENT already is left.
DESIGN CHOICE (log 51): the retry count and the timer stand where an IDLE record goes to ACTIVE. -/
def FaultRecord.presented (r : FaultRecord) (t : Tables) (row : Nat) : FaultRecord :=
  if r.present then r
  else
    let cools := t.responseMode row = .retry ∧ r.state = .idle
    { state := if r.enters t row then if cools then .cooling else .active else r.state
      present := true
      occurrences := min (r.occurrences + 1) 255
      retries := if cools then min (r.retries + 1) 15 else r.retries
      timer := if cools then t.retrySeconds row else r.timer
      fresh := r.fresh || decide cools }

/-- A fault record after a clearing of its condition (R137, R142, R143). -/
def FaultRecord.cleared (r : FaultRecord) : FaultRecord :=
  { r with present := false, state := if r.present = true ∧ r.state = .active then .latched else r.state }

/-- A clearing of a PRESENT condition takes an ACTIVE record to LATCHED, which is written (R142, R143, R147). -/
def FaultRecord.latches (r : FaultRecord) : Bool := r.present && decide (r.state = .active)

/-- The history entries that a presentation writes (R147). -/
def FaultRecord.presentEntries (r : FaultRecord) (t : Tables) (k : FaultKey) (stamp : Nat) : List HistoryEntry :=
  if r.detects t k.row then [⟨k, .detected, stamp⟩] else []

/-- The history entries that a clearing writes (R147). -/
def FaultRecord.clearEntries (r : FaultRecord) (k : FaultKey) (stamp : Nat) : List HistoryEntry :=
  if r.latches then [⟨k, .latched, stamp⟩] else []

/-- The fault history of `h'` is that of `h` with some entries written: the last sixteen stay, and each one dropped
is counted as lost (R148). -/
def Fsv.written (f f' : Fsv) (entries : List HistoryEntry) : Prop :=
  let dropped := f.history.length + entries.length - 16
  f.history.length ≤ 16 →
    f'.history = lastSixteen (f.history ++ entries)
    ∧ f'.lost = if dropped = 0 then f.lost else min (f.lost + dropped) (2 ^ 32 - 1)

/-- What records that leave IDLE and actions that enter do in SBL: a QUIET port of `woken` wakes with its cause
(R131), and a RAMPING move whose port gains MUTE or ISOLATE is marked ENDING with cause ACTION (R126, R146). -/
def Hub.supervises (h h' : Hub) (woken : PortId → Option WakeCause) : Prop :=
  h'.sbl = { h.sbl with
    ports := tab fun p => match woken p with
      | some cause =>
        if h.isQuiet p then
          { h.sbl.ports[p] with quiet := false, quietDue := false, quietCount := 0, wakeCause := cause }
        else h.sbl.ports[p]
      | none => h.sbl.ports[p]
    flight := h.sbl.flight.map fun m =>
      let q := m.entry.port
      if m.ending = none ∧ ((h'.actions q).mute = true ∧ (h.actions q).mute = false
          ∨ (h'.actions q).isolate = true ∧ (h.actions q).isolate = false) then
        { m with ending := some .action }
      else m }

/-- The pending marks of `m'` are those of `m` and the classes that `raised` names (R174). -/
def Mga.marked (m m' : Mga) (raised : Notice → Prop) : Prop :=
  ∀ n : Notice, m'.marks[n.idx] = true ↔ m.marks[n.idx] = true ∨ raised n

/-- All that a presentation of condition `c` on port `p` does, in FSV, SBL and MGA (R126, R131, R137, R142, R143,
R146 to R148). -/
def Hub.presents (h h' : Hub) (p : PortId) (c : PortClass) : Prop :=
  let key := FaultKey.port p c
  let r := h.faultRecord key
  let leaves := r.detects h.tables key.row = true ∧ r.state = .idle
  (∀ k : FaultKey, h'.faultRecord k = if k = key then r.presented h.tables key.row else h.faultRecord k)
  ∧ h.fsv.written h'.fsv (r.presentEntries h.tables key h.mga.seconds)
  ∧ h.supervises h' (fun q => if q = p ∧ leaves then some .fault else none)
  ∧ h'.mga = { h.mga with marks := h'.mga.marks }
  ∧ h.mga.marked h'.mga fun n => n = .fault ∧ r.enters h.tables key.row = true
      ∨ n = .quiet ∧ leaves ∧ h.isQuiet p = true

/-- The responses that the exit of port `p` from PROVING or UP queues: to a MEASURE_DELAY whose measurement runs or
still waits to start (R18, R19), and, where the port was UP, to a loop test (R107). -/
def Hub.exitAnswers (h : Hub) (p : PortId) : List Response :=
  let r := h.lnk.remote[p]
  let report := fun taken : Nat =>
    BitVec.ofNat 8 taken :: toBytes 2 r.delay ++ toBytes 2 r.lastRT ++ [boolByte r.rtRange]
  let measured : List Response := match r.meas.running, r.meas.origin with
    | true, .request tag => [badResponse tag .timeout 0 (report r.meas.taken)]
    | _, _ => []
  let waiting : List Response := match h.mga.busy with
    | some (.measureStart tag q) => if q = p ∧ measured = [] then [badResponse tag .timeout 0 (report 0)] else []
    | _ => []
  let tested : List Response := match h.lvm.ports[p].loop with
    | .none => []
    | .pending tag | .running tag => if h.isUp p then [badResponse tag .timeout 0 [0]] else []
  measured ++ waiting ++ tested

/-- The command that takes a READ of an object. -/
def readCommand : ReadObject → Instr
  | .portStatus => .readPortStatus | .sectorStatus => .readSectorStatus
  | .carrierStatus => .readCarrierStatus | .meter => .readMeter | .extremes => .readExtremes
  | .dlPower => .readDlPower | .faults => .readFaults | .faultHistory => .readFaultHistory
  | .moveQueue => .readMoveQueue | .moveLog => .readMoveLog | .advice => .readAdvice
  | .counters => .readCounters | .notices => .readNotices | .loadStatus => .readLoadStatus
  | .linkSummary => .readLinkSummary | .quietSummary => .readQuietSummary

/-- The command that takes a request of kind `k` other than READ. -/
def requestCommand : ReqKind → Instr
  | .hello => .hello | .read => .readNotices | .tableRead => .tableRead | .loadBegin => .loadBegin
  | .loadEnd => .loadEnd | .loadAbort => .loadAbort | .enterService => .enterService
  | .restart => .restart | .portReset => .portReset | .move => .move | .cancelMove => .cancelMove
  | .clearFaults => .clearFaults | .wake => .wake | .measureDelay => .measureDelay
  | .loopTest => .loopTest | .priorityPoll => .priorityPoll | .operatorHold => .operatorHold
  | .operatorRelease => .operatorRelease | .clearCounters => .clearCounters

/-! ## Commands one after the other -/

/-- The state after some commands, each run on what the one before it left. -/
def runAll (cs : List Instr) (s : State) : State :=
  cs.foldl (fun s c => match exec c s with
    | .next t => t
    | _ => s) s

/-- The command that takes the request in a cell (R170, R179). -/
def Cell.command (c : Cell) : Instr :=
  match c.reqKind with
  | none => .unknownRequest
  | some .read => readCommand ((readObjectOf (c.arg 0)).getD .portStatus)
  | some k => requestCommand k

/-- The commands that take the oldest requests, at most `n`, while the agent is free and the response queue has
room (R170). -/
def takeRequests : Nat → State → State
  | 0, s => s
  | n + 1, s =>
    match s.hub.mga.requests with
    | [] => s
    | c :: _ =>
      if s.hub.mga.busy = none ∧ s.hub.mga.responses.length < 8 then takeRequests n (runAll [c.command] s) else s

/-- The 33 links (R1). -/
def allLinks : List LinkId :=
  (List.finRange 24).map LinkId.remote ++ (List.finRange 8).map LinkId.donor ++ [.trunk]

/-- The model's order of the events that a whole FRAME_BOUNDARY still has to take (DESIGN CHOICE, log entry 4). -/
def boundaryOrder : List Instr :=
  let ports := fun f : PortId → Instr => (List.finRange 24).map f
  allLinks.map (Instr.receiveFrame · []) ++ allLinks.map Instr.linkAligned ++ allLinks.map Instr.linkAlignmentLost
    ++ [.idleCell, .requestCell, .dataCell, .checkCell, .responseCell]
    ++ ports .measurementDone ++ ports .measurementTimeout
    ++ [.delayMeasurementStart, .identifyReply, .statusReply, .attemptMiss]
    ++ ports .crcRatePresent ++ [.frameBoundary .limiterUpdate]
    ++ (List.finRange 24).flatMap (fun p => (List.finRange 4).map fun b => .holdRestore p b)
    ++ ports .dlOverdrivePresent ++ ports .dlOverdriveClear
    ++ [.windowEnd] ++ ports .ulOverloadPresent ++ [.secondMark] ++ ports .ulSilentPresent ++ [.pollInterval]
    ++ allKeys.map Instr.coolingExpiry ++ allKeys.map Instr.settleExpiry
    ++ [.balanceInterval] ++ ports .quietEntry ++ [.moveAbandon, .rampStep, .moveCommit, .moveStart]
    ++ [.loadTimeout, .tableActivation, .operatorHoldEffect, .operatorReleaseEffect, .serviceEntry,
        .portResetEffect, .restartEffect]
    ++ [.frameBoundary .deqRecompute, .cteSelect, .frameBoundary .combiningJoin]

/-- The hub when a whole FRAME_BOUNDARY has taken all that its boundary still has to do: the events, then the
requests that are due, the trunk cell, and the requests for which that made room (R170, R171). -/
def State.boundaryDone (s : State) : Hub :=
  let s := runAll boundaryOrder { s with hub := s.hub.openBoundary }
  let s := takeRequests s.hub.mga.requests.length s
  let s := runAll [.frameBoundary .trunkSupply] s
  (takeRequests s.hub.mga.requests.length s).hub

/-! ## Layouts of records (R181) -/

/-- Fields of given widths, in bytes, one after the other, most significant byte first. -/
def layout (fields : List (Nat × Nat)) : List Byte := fields.flatMap fun x => toBytes x.1 x.2

/-- A yes/no field: 1 for yes (R181). -/
def yesNo (b : Bool) : Nat × Nat := (1, if b then 1 else 0)

/-- A field of `n` bytes that is all ones when absent (R181). -/
def orAllOnes (n : Nat) (v : Option Nat) : Nat × Nat := (n, v.getD (256 ^ n - 1))

/-- A field of `n` bytes behind a presence field, zeros when absent (R181). -/
def behindPresence (n : Nat) (v : Option Nat) : List (Nat × Nat) := [yesNo v.isSome, (n, v.getD 0)]

/-- A field that codes an enumeration: the place of the value in the order listed, from 0 (R181). -/
def codedIn {α : Type} [DecidableEq α] (order : List α) (x : α) : Nat × Nat := (1, order.idxOf x)

/-- A set as a bit mask of `n` bytes: bit i for item i (R181). -/
def maskOf {k : Nat} (n : Nat) (f : Fin k → Bool) : Nat × Nat :=
  (n, ((List.finRange k).map fun i => if f i then 2 ^ i.val else 0).sum)

/-- The fields of each of the four lanes, lane by lane (R181). -/
def eachLane (f : Lane → List (Nat × Nat)) : List (Nat × Nat) := (List.finRange 4).flatMap f

/-- A list of varying length: its count, then the fields of each item (R181). -/
def listOf {α : Type} (xs : List α) (f : α → List (Nat × Nat)) : List (Nat × Nat) :=
  (1, xs.length) :: xs.flatMap f

end Sys2Proof.Machine
end

