-- ==== Sys2Proof/Certificates/Slice0/Obligations.lean ====
section
/-! DEFINITION. The statements about the model, each a `Prop`: how commands run, the invariants that every
step keeps, and for every command its effect and frame. `h` is the hub at the boundary under way,
which a boundary event begins where it is not (`Hub.openBoundary`). -/

open Sys2Proof Sys2Proof.Machine

/-! ## Steps and boundaries -/

/-- One step is `exec` of the command at the front of the queue, on the state with the queue's rest; on an
empty queue the hub idles. The queue is the model's (log entry 1). -/
def Obligations.StepTakesTheFrontCommand : Prop :=
  (∀ (c : Instr) (s : State), step { s with pending := c :: s.pending } = exec c s)
  ∧ ∀ s : State, s.pending = [] → step s = .next s

/-- The state at power-on as the manual's tables give it (R20, R22, R23, R28, R37, R38, R40, R50, R55, R68, R81, R94,
R112, R136, R140, R141, R148, R150, R159, R167, R169, R171, R174). That no receiver reports light at reset is the
model's choice (log entry 7). -/
def Obligations.ResetValues : Prop :=
  let h := State.reset.hub
  State.reset.pending = []
  ∧ h.lnk.frameNumber = 0
  ∧ (∀ p : PortId, h.linkOf p = .disabled ∧ h.lnk.remote[p].mask = 0 ∧ h.lnk.remote[p].delay = 0
      ∧ h.lnk.remote[p].lastRT = 0 ∧ h.lnk.remote[p].rtRange = false
      ∧ h.lnk.remote[p].meas.running = false ∧ h.lnk.remote[p].erroredSec = 0)
  ∧ (∀ d : DonorId, h.lnk.donor[d].state = .down) ∧ h.lnk.trunk.state = .down
  ∧ (∀ l : LinkId, (h.core l).good = 0 ∧ (h.core l).bad = 0 ∧ (h.core l).cand = none ∧ (h.core l).last = none
      ∧ (h.core l).errored = 0 ∧ (h.core l).slips = 0 ∧ (h.core l).drops = 0)
  ∧ (∀ p : PortId, h.dlc.combining[p] = false)
  ∧ (∀ (p : PortId) (b : Lane), h.dlc.clips[p][b] = 0)
  ∧ (∀ c : CarrierId, h.dlc.carriers[c] = .absent ∧ h.ulc.clips[c] = 0)
  ∧ (∀ o : OperatorId, h.dlc.holds[o] = false)
  ∧ (∀ (p : PortId) (b : Lane), h.plm[p].lanes[b].factor = 4096 ∧ h.plm[p].lanes[b].powerSum = 0
      ∧ h.plm[p].lanes[b].power = 0 ∧ h.plm[p].lanes[b].cls = .clean ∧ h.plm[p].lanes[b].hold = 0
      ∧ h.plm[p].lanes[b].overdrive = 0 ∧ h.plm[p].lanes[b].attack = 0)
  ∧ (∀ p : PortId, h.plm[p].flag = false ∧ h.plm[p].clean = 0)
  ∧ (∀ s : SectorId, h.deq.sectors[s] = { target := 0, counted := 0, least := 0 })
  ∧ (∀ p : PortId, h.deq.ports[p].countedIn = none ∧ h.deq.ports[p].delayTaken = 0
      ∧ h.deq.ports[p].comp = 0 ∧ h.deq.ports[p].compRange = false ∧ h.deq.ports[p].rtTaken = false
      ∧ h.deq.ports[p].range = false ∧ h.deq.ports[p].steps = 0
      ∧ h.deq.ports[p].downLine = List.replicate 1024 Quad.zero
      ∧ h.deq.ports[p].upLine = List.replicate 1024 Quad.zero)
  ∧ (∀ (p : PortId) (b : Lane), h.ulc.gates[p][b] = { state := .closed, count := 0 })
  ∧ (∀ (p : PortId) (b : Lane) (z : SectorId), h.ulc.reasons[p][b][z] = some .link)
  ∧ (∀ (z : SectorId) (b : Lane), h.ulc.records[z][b].contributors = []
      ∧ h.ulc.records[z][b].carriers = [] ∧ h.ulc.records[z][b].z = { i := 0, q := 0 })
  ∧ (∀ (p : PortId) (b : Lane), h.lvm.ports[p].meters[b] =
      { integrator := 0, lastGood := none, acc := 0, held := 0
        last := { mean := 0, code := 0, net := 0, held := 0, void := false }
        extremes := { largest := 0, smallest := 0, count := 0 } })
  ∧ (∀ p : PortId, h.lvm.ports[p].void = false ∧ h.lvm.ports[p].activity = 0
      ∧ h.lvm.ports[p].smoothed = 0 ∧ h.lvm.ports[p].loop = .none)
  ∧ h.lvm.windowCount = 0 ∧ h.lvm.windowNumber = 0
  ∧ (∀ p : PortId, h.assignOf p = .none ∧ h.sbl.ports[p].holdOff = 0 ∧ h.sbl.ports[p].returns = 0
      ∧ h.sbl.ports[p].quiet = false ∧ h.sbl.ports[p].quietCount = 0
      ∧ h.sbl.ports[p].wakeCause = .none)
  ∧ (∀ z : SectorId, h.sbl.sectors[z] =
      { workLoad := 0, workCount := 0, lastLoad := 0, overloaded := false })
  ∧ h.sbl.flight = none ∧ h.sbl.queue = [] ∧ h.sbl.log = [] ∧ h.sbl.logSequence = 0
  ∧ h.sbl.advice = [] ∧ h.sbl.intervalCount = 0 ∧ h.sbl.skips = 0
  ∧ (∀ k : FaultKey, (h.faultRecord k).state = .idle ∧ (h.faultRecord k).present = false
      ∧ (h.faultRecord k).occurrences = 0 ∧ (h.faultRecord k).retries = 0
      ∧ (h.faultRecord k).timer = 0)
  ∧ (∀ p : PortId, h.fsv.detectors[p].run = 0 ∧ h.fsv.detectors[p].silence = 0
      ∧ h.fsv.detectors[p].silentMark = false)
  ∧ h.fsv.history = [] ∧ h.fsv.lost = 0
  ∧ h.cte.transaction = none ∧ h.cte.sequence = 0 ∧ h.cte.pass = none ∧ h.cte.passWaiting = false
  ∧ h.cte.pollCount = 0 ∧ h.cte.priorityPos = 0
  ∧ (∀ p : PortId, h.cte.priority[p] = false ∧ h.cte.ports[p].pending = false
      ∧ h.cte.ports[p].hold = false ∧ h.cte.ports[p].nextAttempt = 1 ∧ h.cte.ports[p].misses = 0
      ∧ h.cte.ports[p].identify = none ∧ h.cte.ports[p].status = none)
  ∧ h.tld.phase = .none ∧ h.tld.carrierLoaded = false ∧ h.tld.sectorLoaded = false
  ∧ h.tld.portLoaded = false ∧ h.tld.scheduled = none ∧ h.tld.last = none ∧ h.tld.stray = 0
  ∧ h.tld.image = [] ∧ h.tld.received = 0 ∧ h.tld.expectedTag = 0 ∧ h.tld.burstsClosed = 0
  ∧ h.tld.burstCells = 0 ∧ h.tld.burstCrc = 0x5A3C ∧ h.tld.firstError = none ∧ h.tld.silence = 0
  ∧ h.tld.tables.site = [0, 10, 4, 3, 8, 8, 8, 8, 6, 5, 0x7F, 0, 0, 0, 0, 0]
  ∧ h.tld.tables.sector = List.replicate 144 0 ∧ h.tld.tables.carrier = List.replicate 256 0
  ∧ h.tld.tables.port = List.replicate 1152 0
  ∧ h.tld.tables.response =
      [2, 0, 10, 3, 0, 0, 0, 0] ++ [1, 2, 10, 3, 0, 160, 0, 0] ++ [1, 0, 30, 5, 0, 0, 0, 0]
      ++ [1, 2, 5, 3, 0, 8, 0, 0] ++ [2, 0, 10, 3, 0, 60, 0, 0] ++ [0, 1, 10, 3, 0, 0, 0, 0]
      ++ [2, 0, 10, 3, 0, 0, 0, 0] ++ [2, 0, 10, 3, 0, 0, 0, 0] ++ [2, 0, 10, 3, 0, 0, 0, 0]
  ∧ h.mga.hubState = .config ∧ h.mga.frameCount = 0 ∧ h.mga.seconds = 0 ∧ h.mga.requests = []
  ∧ h.mga.responses = [] ∧ h.mga.busy = none ∧ h.mga.overrun = 0 ∧ h.mga.unexpected = 0
  ∧ ∀ n : Fin 7, h.mga.marks[n] = false

/-- The end of a frame begins a boundary: the hub frame number, the window count, the frame count, the elapsed
count of a running measurement, the frames remaining of an attempt and the silence count of an OPEN load
take their step, and no frame has been handed on yet (R1, R2, R18, R95, R153, R164, R167); the links' states and
counts, and every other item of the other blocks, stand. What a boundary does once is due anew: PLM's update (R61),
the recomputation (R69), COMBINING_JOIN (R89), the engine's selection (R151) and the supply of the trunk cell (R171).
A ramp step is due where a move is RAMPING (R125) and an abandonment where it is ENDING (R126, R127), and the queue's
head is considered only where no move is in flight (R123). No activation and no ENTER_SERVICE has taken effect at the
boundary yet (R31, R133). That a boundary is under way, that the model notes what it has done, and that an event of
its own ends the frame, are the model's choices (log entries 3, 4, 10 and 41). The meters are the next
statement's. -/
def Obligations.FrameEndBeginsABoundary : Prop :=
  ∀ s : State, s.hub.bd.isOpen = false →
    ∃ t, exec (.frameBoundary .frameEnd) s = .next t ∧ t.pending = s.pending
      ∧ t.hub.lnk.frameNumber = s.hub.lnk.frameNumber + 1
      ∧ t.hub.lvm.windowCount = s.hub.lvm.windowCount + 1
      ∧ t.hub.mga.frameCount = s.hub.mga.frameCount + 1
      ∧ (∀ l : LinkId, t.hub.core l =
          { s.hub.core l with handed := false, arrival := none, verdict := none, samples := [] })
      ∧ (∀ p : PortId, t.hub.lnk.remote[p].meas.elapsed =
          if s.hub.lnk.remote[p].meas.running then min (s.hub.lnk.remote[p].meas.elapsed + 1) 16
          else s.hub.lnk.remote[p].meas.elapsed)
      ∧ (∀ p : PortId, t.hub.lnk.remote[p] = { s.hub.lnk.remote[p] with
          core := t.hub.core (.remote p)
          meas := { s.hub.lnk.remote[p].meas with elapsed := t.hub.lnk.remote[p].meas.elapsed } })
      ∧ t.hub.cte.transaction =
          s.hub.cte.transaction.map (fun x => { x with remaining := x.remaining - 1 })
      ∧ t.hub.tld.silence =
          (if s.hub.tld.phase = .opened then min (s.hub.tld.silence + 1) 16000 else s.hub.tld.silence)
      ∧ (∀ k : FaultKey, t.hub.faultRecord k = { s.hub.faultRecord k with fresh := false })
      ∧ (∀ p : PortId, t.hub.cte.ports[p] = { s.hub.cte.ports[p] with field := none }
          ∧ t.hub.plm[p] = { s.hub.plm[p] with cleared := false }
          ∧ t.hub.lvm.ports[p] = { s.hub.lvm.ports[p] with
              meters := t.hub.lvm.ports[p].meters, void := t.hub.lvm.ports[p].void, cleared := false })
      ∧ t.hub = { s.hub with
          lnk := { s.hub.lnk with
            frameNumber := t.hub.lnk.frameNumber, remote := t.hub.lnk.remote
            donor := t.hub.lnk.donor, trunk := t.hub.lnk.trunk }
          plm := t.hub.plm
          lvm := { s.hub.lvm with ports := t.hub.lvm.ports, windowCount := t.hub.lvm.windowCount }
          fsv := { s.hub.fsv with
            portRecords := t.hub.fsv.portRecords, donorRecords := t.hub.fsv.donorRecords }
          cte := { s.hub.cte with transaction := t.hub.cte.transaction, ports := t.hub.cte.ports }
          mga := { s.hub.mga with
            frameCount := t.hub.mga.frameCount, busyRipe := s.hub.mga.busy.isSome, cell := none }
          tld := { s.hub.tld with
            silence := t.hub.tld.silence, scheduledRipe := s.hub.tld.scheduled.isSome }
          bd :=
            { isOpen := true
              limiterDone := false, deqDone := false, joinDone := false, supplyDone := false, selectDone := false
              headSeen := s.hub.sbl.flight.isSome
              rampDue := s.hub.sbl.flight.any fun m => m.ending = none
              abandonDue := s.hub.sbl.flight.any fun m => m.ending ≠ none
              serviceBegun := false, before := none } }

/-- Each meter classes the frame that ended and adds the energy of its class (R97, R105). -/
def Obligations.MetersClassTheEndedFrame : Prop :=
  ∀ (s : State) (p : PortId) (b : Lane), s.hub.bd.isOpen = false →
    ∃ t, exec (.frameBoundary .frameEnd) s = .next t
      ∧ (let f := s.hub.frame[p]
         let m := s.hub.lvm.ports[p].meters[b]
         let m' := t.hub.lvm.ports[p].meters[b]
         let void := s.hub.lvm.ports[p].void
         let void' := t.hub.lvm.ports[p].void
         let good := f.verdict = some .good
         if s.hub.lvm.ports[p].loop.isRunning then
           m' = { m with acc := m.acc + m.integrator, integrator := 0 } ∧ void' = void
         else if f.link ≠ .proving ∧ f.link ≠ .up then
           m' = { m with integrator := 0 } ∧ void' = true
         else if f.link = .up ∧ f.mask.getLsbD b.val = false then
           m' = { m with integrator := 0, lastGood := if good then some 0 else m.lastGood }
             ∧ void' = void
         else if good then
           m' = { m with integrator := 0, acc := m.acc + m.integrator, lastGood := some m.integrator }
             ∧ void' = void
         else
           m' = { m with integrator := 0, acc := m.acc + m.lastGood.getD 0, held := min (m.held + 1) 128 }
             ∧ void' = void)

/-- The model's choice (log entry 3): every event of a boundary first begins the boundary where it is not under
way, and then acts as on the hub whose frame has ended; one whose condition does not hold there (`Hub.due`) changes
nothing more. The manual says only that events act at frame boundaries, between two frames, and when. -/
def Obligations.BoundaryEventsShareOneBoundary : Prop :=
  (∀ (c : Instr) (s : State), c.isBoundaryEvent → s.hub.bd.isOpen = false →
    exec c s = exec c { s with hub := s.hub.beginBoundary })
  ∧ ∀ (c : Instr) (s : State), c.isBoundaryEvent → ¬ s.hub.openBoundary.due c →
    exec c s = .next { s with hub := s.hub.openBoundary }

/-- The hub frame number advances by one at every frame boundary and at nothing else but power-on, RESTART
included (R1). That the first event of a boundary advances it, and that the boundary stays under way until
FRAME_BOUNDARY begins the next frame, are the model's choices (log entries 3 and 4). -/
def Obligations.FrameNumberCountsBoundaries : Prop :=
  ∀ (c : Instr) (s t : State), exec c s = .next t →
    (c.isBoundaryEvent → t.hub.lnk.frameNumber =
        (if s.hub.bd.isOpen then s.hub.lnk.frameNumber else s.hub.lnk.frameNumber + 1)
      ∧ (t.hub.bd.isOpen = true ↔ ¬ c.beginsFrame))
    ∧ (c.isRequest = true → t.hub.lnk.frameNumber = s.hub.lnk.frameNumber
      ∧ t.hub.bd.isOpen = s.hub.bd.isOpen)
    ∧ (c = .powerOn → t.hub.lnk.frameNumber = 0)

/-! ## Invariants -/

/-- Every L that PLM sets lies within 512..4096 (R55, R58 to R60). -/
def Obligations.FactorsStayInRange : Prop :=
  ∀ s t : State, s.hub.factorsInRange → step s = .next t → t.hub.factorsInRange

/-- In every frame c_p = min(1023, T_s − delay taken) in the sector where the port counts, 0 elsewhere, and the
DELAY_RANGE state joins its two facts (R71, R75). Every delay line always holds 1,024 instants, so that it has what
c_p asks of it (R72, R73). -/
def Obligations.CompensationLawStays : Prop :=
  (∀ s t : State, s.hub.equalized → step s = .next t → t.hub.equalized)
  ∧ ∀ s t : State, s.hub.linesFull → step s = .next t → t.hub.linesFull

/-- The move queue holds at most 8 entries, never two for one port, never one for the port in flight; the port
in flight alone is assigned to two sectors; in CONFIG there is no move. In CONFIG no port is assigned; in SERVICE
a disabled port is at no sector, an enabled one at exactly one or ramping, and no enabled sector exceeds its max
members (R113, R120, R122); the latter rests on the cross checks that admit the tables (R30, R32, R133). -/
def Obligations.MoveLawsStay : Prop :=
  (∀ s t : State, s.hub.movesLawful → step s = .next t → t.hub.movesLawful)
  ∧ ∀ s t : State, s.hub.movesLawful → s.hub.placesLawful → step s = .next t → t.hub.placesLawful

/-- The request queue, the move log, the fault history and the advice list stay within their bounds (R119, R128,
R148, R169), and so does the response queue, which always has room for the response that a busy agent still owes
(R170, R171). -/
def Obligations.ListBoundsStay : Prop :=
  (∀ s t : State, s.hub.listsBounded → step s = .next t → t.hub.listsBounded)
  ∧ ∀ s t : State, s.hub.answersBounded → step s = .next t →
      t.hub.answersBounded ∧ t.hub.mga.responses.length ≤ 8

/-- Donor ports and the trunk stay in DOWN, HUNT or UP (R14, R15). -/
def Obligations.DonorAndTrunkStatesStayLegal : Prop :=
  ∀ s t : State, s.hub.linksLegal → step s = .next t → t.hub.linksLegal

/-- The state at power-on meets all eight invariants. -/
def Obligations.ResetMeetsTheInvariants : Prop :=
  let h := State.reset.hub
  h.factorsInRange ∧ h.equalized ∧ h.linesFull ∧ h.movesLawful ∧ h.placesLawful ∧ h.listsBounded
    ∧ h.answersBounded ∧ h.linksLegal

/-- The hub state changes from CONFIG to SERVICE only by an accepted ENTER_SERVICE, and from SERVICE to CONFIG
only by RESTART or power-on (R167), over all commands. -/
def Obligations.HubStateChangesOnlyByItsRequests : Prop :=
  ∀ (c : Instr) (s t : State), exec c s = .next t →
    (s.hub.inService = true → t.hub.inService = false →
      c = .powerOn ∨ (s.hub.mga.busy = some .restart
        ∧ (c = .restartEffect ∨ c = .frameBoundary .whole)))
    ∧ (s.hub.inService = false → t.hub.inService = true →
      (∃ tag, s.hub.mga.busy = some (.enterService tag))
        ∧ (c = .serviceEntry ∨ c = .frameBoundary .whole))

/-! ## Power and links (Chapter 1) -/

/-- POWER_ON: every block in its power-on state, remote ports DISABLED, donors and trunk in DOWN or, where
signal is present, in HUNT at once (R20). That the receivers go on reporting what they see is the model's
choice (log entry 7). -/
def Obligations.PowerOnStartsEveryBlock : Prop :=
  ∀ s : State, ∃ t, exec .powerOn s = .next t ∧ t.pending = s.pending
    ∧ t.hub = { Hub.init with lnk := t.hub.lnk }
    ∧ t.hub.lnk.frameNumber = 0
    ∧ (∀ p : PortId, t.hub.lnk.remote[p] =
        RemoteLink.init .disabled s.hub.lnk.remote[p].core.signal)
    ∧ (∀ d : DonorId, t.hub.lnk.donor[d] =
        LinkCore.init (if s.hub.lnk.donor[d].signal then .hunt else .down) s.hub.lnk.donor[d].signal)
    ∧ t.hub.lnk.trunk =
        LinkCore.init (if s.hub.lnk.trunk.signal then .hunt else .down) s.hub.lnk.trunk.signal

/-- SIGNAL_PRESENT moves a link in DOWN to HUNT and is noted in every state; SIGNAL_ABSENT of a link that is not
aligned, and not just reaching its fourth good marker, is noted by DISABLED and takes DOWN and HUNT to DOWN with
cleared alignment counts. A link whose frame of the fourth good marker is complete at this boundary aligns first, and
the signal-absent then acts on the aligned link (R4; DEDUCED, log entry 44). Nothing else changes (R3). -/
def Obligations.SignalsOfUnalignedLinks : Prop :=
  (∀ (l : LinkId) (s : State), exec (.signalPresent l) s = .next { s with
    hub := s.hub.openBoundary.onCore l fun c =>
      { c with signal := true, state := if c.state = .down then .hunt else c.state } })
  ∧ ∀ (l : LinkId) (s : State),
    let c := s.hub.openBoundary.core l
    c.state.aligned = false →
    (¬ (c.state = .hunt ∧ 4 ≤ c.good ∧ c.arrival ≠ none) → exec (.signalAbsent l) s = .next { s with
      hub := s.hub.openBoundary.onCore l fun c =>
        if c.state = .disabled then { c with signal := false }
        else { c with signal := false, state := .down, good := 0, bad := 0, cand := none, last := none } })
    ∧ (c.state = .hunt → 4 ≤ c.good → c.arrival ≠ none → ∃ t, exec (.linkAligned l) s = .next t
        ∧ exec (.signalAbsent l) s = exec (.signalAbsent l) t)

/-- A remote port leaves PROVING or UP by signal-absent or the eighth bad marker with every effect of R10: its
measurement and a waiting MEASURE_DELAY end (R18, R19), its transaction is abandoned (R156), it is SILENT with closed
gates (R40, R89), LINK_LOSS is presented, which moves its record by the mode of its class, with the history, the
actions and the notice (R142, R143, R146 to R148), and, where it was UP, its loop test is ABORTED (R107), its move is
marked ENDING with cause LINK (R126), it wakes (R131) and LINK is raised. What its frame of this boundary has decided
is done first: a good reply has moved it to UP (R8), a fourth round trip has completed its measurement (R18); that the
commands for these need not have come is DEDUCED (log entry 44). That LINK comes before LINK_LOSS (log entry 43) and
that the record of an ended measurement keeps its origin, taken, minimum and elapsed (log entry 42) are the model's
choices; the one byte 0 of an aborted loop test's response (log entry 25), and that a port whose entry into QUIET is
due counts as QUIET (log entry 21), are DEDUCED. Every other item of the hub stands. That an IDLE record keeps a
running settle time where it goes to ACTIVE is the model's choice (log entry 51). -/
def Obligations.RemotePortLeavesAlignment : Prop :=
  ∀ (p : PortId) (c : Instr) (s : State),
    let h₀ := s.hub.openBoundary
    let h := h₀.takeDue p
    (h₀.linkOf p).aligned = true →
    (c = .signalAbsent (.remote p)
      ∨ c = .linkAlignmentLost (.remote p) ∧ 8 ≤ h₀.lnk.remote[p].core.bad) →
    (h₀.lnk.remote[p].meas.running = false ∨ h₀.lnk.remote[p].meas.taken ≠ 4 →
      h₀.cte.inFlight p = false ∨ h₀.cte.ports[p].field = none → h = h₀)
    ∧ (∀ (x : Transaction) (f : List Byte), h₀.cte.transaction = some x → x.port = p →
      x.kind = .identify → h₀.bd.selectDone = false → h₀.cte.ports[p].field = some f → byteAt f 0 = 1 →
      fieldSequence f = x.sequence → (identifyFields f).mask ≠ 0 →
      h.linkOf p = .up ∧ h.lnk.remote[p].mask = (identifyFields f).mask ∧ h.cte.transaction = none)
    ∧ (∀ (rt : Nat) (out : Bool), h₀.lnk.remote[p].meas.running = true →
      h₀.lnk.remote[p].meas.taken = 4 → h₀.lnk.remote[p].meas.minimum = some (rt, out) →
      h.lnk.remote[p].lastRT = rt ∧ h.lnk.remote[p].delay = (rt + 1) / 2
        ∧ h.lnk.remote[p].rtRange = out ∧ h.lnk.remote[p].meas.running = false)
    ∧ ∃ t, exec c s = .next t ∧ t.pending = s.pending
      ∧ (let r := h.lnk.remote[p]
         t.hub.lnk = { h.lnk with remote := upd h.lnk.remote p fun r => { r with
            mask := 0
            meas := { r.meas with running := false }
            core := { r.core with
              state := if c = .signalAbsent (.remote p) then .down else .hunt
              signal := if c = .signalAbsent (.remote p) then false else r.core.signal
              good := 0, cand := none, last := none
              bad := if c = .signalAbsent (.remote p) then 0 else r.core.bad
              drops := min (r.core.drops + 1) (2 ^ 32 - 1) } } }
         ∧ (let report := fun taken : Nat => BitVec.ofNat 8 taken :: toBytes 2 r.delay
              ++ toBytes 2 r.lastRT ++ [boolByte r.rtRange]
            let measured : List Response := match r.meas.running, r.meas.origin with
              | true, .request tag => [badResponse tag .timeout 0 (report r.meas.taken)]
              | _, _ => []
            let waiting : List Response := match h.mga.busy with
              | some (.measureStart tag q) =>
                if q = p ∧ measured = [] then [badResponse tag .timeout 0 (report 0)] else []
              | _ => []
            let tested : List Response :=
              if h.isUp p then match h.lvm.ports[p].loop with
                | .none => []
                | .pending tag => [badResponse tag .timeout 0 [0]]
                | .running tag => [badResponse tag .timeout 0 [0]]
              else []
            let answers := measured ++ waiting ++ tested
            t.hub.mga = { h.mga with
              responses := h.mga.responses ++ answers
              busy := if answers = [] then h.mga.busy else none
              busyRipe := if answers = [] then h.mga.busyRipe else false
              marks := t.hub.mga.marks }))
      ∧ (let key := FaultKey.port p .linkLoss
         let r := h.faultRecord key
         let leaves := r.detects h.tables key.row = true ∧ r.state = .idle
         (∀ k : FaultKey, t.hub.faultRecord k =
            if k = key then r.presented h.tables key.row else h.faultRecord k)
         ∧ h.fsv.written t.hub.fsv (r.presentEntries h.tables key h.mga.seconds)
         ∧ t.hub.fsv.detectors = h.fsv.detectors
         ∧ h.mga.marked t.hub.mga (fun n => n = .link ∧ h.isUp p = true
            ∨ n = .fault ∧ r.enters h.tables key.row = true
            ∨ n = .quiet ∧ h.isQuiet p = true ∧ (h.isUp p = true ∨ leaves))
         ∧ (h.isUp p = false →
            h.supervises t.hub fun q => if q = p ∧ leaves then some .fault else none)
         ∧ (h.isUp p = true → t.hub.sbl = { h.sbl with
            ports := upd h.sbl.ports p fun b => if h.isQuiet p then
              { b with quiet := false, quietDue := false, quietCount := 0, wakeCause := .link } else b
            flight := h.sbl.flight.map fun m =>
              if m.entry.port = p ∧ m.ending = none then { m with ending := some .link } else m }))
      ∧ t.hub.dlc = { h.dlc with combining := h.dlc.combining.set p.val false p.isLt }
      ∧ t.hub.ulc = { h.ulc with gates := upd h.ulc.gates p fun _ => .replicate 4 ⟨.closed, 0⟩ }
      ∧ t.hub.lvm = { h.lvm with
          ports := upd h.lvm.ports p fun m =>
            if h.isUp p = true ∧ m.loop ≠ .none then
              { m with loop := .none, void := true,
                       meters := mapTab (fun x => { x with acc := 0, held := 0 }) m.meters }
            else m }
      ∧ t.hub.cte = { h.cte with
          transaction := h.cte.transaction.filter (fun x => x.port ≠ p)
          ports := upd h.cte.ports p fun x => { x with pending := false, misses := 0, field := none } }
      ∧ t.hub = { h with
          lnk := t.hub.lnk, dlc := t.hub.dlc, ulc := t.hub.ulc, lvm := t.hub.lvm, fsv := t.hub.fsv
          cte := t.hub.cte, mga := t.hub.mga, sbl := t.hub.sbl }

/-- A donor leaves UP by signal-absent or the eighth bad marker: its enabled carriers become LOST, LINK is raised and
DONOR_LOSS presented, by the mode of its class (R142, R147, R148), and its alignment counts start afresh (R3, R5); the
other links, carriers and blocks stand (R14, R37, R9, R13). That an IDLE record keeps a running settle time where it
goes to ACTIVE is the model's choice (log entry 51). -/
def Obligations.DonorLeavesUp : Prop :=
  ∀ (d : DonorId) (c : Instr) (s : State),
    let h := s.hub.openBoundary
    h.lnk.donor[d].state = .up →
    (c = .signalAbsent (.donor d) ∨ c = .linkAlignmentLost (.donor d) ∧ 8 ≤ h.lnk.donor[d].bad) →
    ∃ t, exec c s = .next t ∧ t.pending = s.pending
      ∧ t.hub.lnk = { h.lnk with donor := upd h.lnk.donor d fun r => { r with
          state := if c = .signalAbsent (.donor d) then .down else .hunt
          signal := if c = .signalAbsent (.donor d) then false else r.signal
          good := 0, cand := none, last := none
          bad := if c = .signalAbsent (.donor d) then 0 else r.bad
          drops := min (r.drops + 1) (2 ^ 32 - 1) } }
      ∧ (∀ k : CarrierId, t.hub.dlc.carriers[k] =
          if carrierDonor k = d ∧ h.dlc.carriers[k] ≠ .absent then .lost else h.dlc.carriers[k])
      ∧ t.hub.dlc = { h.dlc with carriers := t.hub.dlc.carriers }
      ∧ (let key := FaultKey.donor d
         let r := h.faultRecord key
         (∀ k : FaultKey, t.hub.faultRecord k =
            if k = key then r.presented h.tables key.row else h.faultRecord k)
         ∧ h.fsv.written t.hub.fsv (r.presentEntries h.tables key h.mga.seconds)
         ∧ t.hub.fsv.detectors = h.fsv.detectors
         ∧ t.hub.mga = { h.mga with marks := t.hub.mga.marks }
         ∧ h.mga.marked t.hub.mga fun n => n = .link ∨ n = .fault ∧ r.enters h.tables key.row = true)
      ∧ t.hub = { h with lnk := t.hub.lnk, dlc := t.hub.dlc, fsv := t.hub.fsv, mga := t.hub.mga }

/-- The trunk leaves UP by signal-absent or the eighth bad marker: an open load ends as ABANDONED with cause TRUNK,
LINK is raised, its alignment counts start afresh, and the request and response queues stand (R3, R5, R15, R164). -/
def Obligations.TrunkLeavesUp : Prop :=
  ∀ (c : Instr) (s : State),
    let h := s.hub.openBoundary
    h.lnk.trunk.state = .up →
    (c = .signalAbsent .trunk ∨ c = .linkAlignmentLost .trunk ∧ 8 ≤ h.lnk.trunk.bad) →
    ∃ t, exec c s = .next t ∧ t.pending = s.pending
      ∧ t.hub.lnk = { h.lnk with trunk := { h.lnk.trunk with
          state := if c = .signalAbsent .trunk then .down else .hunt
          signal := if c = .signalAbsent .trunk then false else h.lnk.trunk.signal
          good := 0, cand := none, last := none
          bad := if c = .signalAbsent .trunk then 0 else h.lnk.trunk.bad
          drops := min (h.lnk.trunk.drops + 1) (2 ^ 32 - 1) } }
      ∧ t.hub.tld = (if h.tld.phase = .none then h.tld else
          { h.tld with
            phase := .none, image := []
            last := some { table := h.tld.table, outcome := .abandoned .trunk,
                           stamp := h.mga.seconds } })
      ∧ t.hub.mga = (if h.tld.phase = .none then h.mga.raised .link
          else (h.mga.raised .link).raised .load)
      ∧ t.hub = { h with lnk := t.hub.lnk, tld := t.hub.tld, mga := t.hub.mga }

/-- A remote port in HUNT with four good markers enters PROVING at the boundary after the frame of the fourth is
complete: a measurement with origin ENTRY starts, and a new identify sequence marks an identify pending (R4, R7, R18,
R155). The frame of the fourth marker is the first one delivered, with its verdict (R5): its samples where it is GOOD
and none where it is errored, the bad-marker count and the counters of R13, a GOOD frame's control field handed to the
engine (R12), and CRC_RATE left due where the errored-this-second count reaches the class parameter (R139). It gives
no round trip, and in PROVING its lane mask is not compared (R11, R18). Where a second frame became complete at the
same boundary, that later one is delivered, and it may be SLIPPED (R2). Nothing else changes. That a due presentation
waits for its own command is the model's choice (log entry 10). -/
def Obligations.RemotePortAligns : Prop :=
  ∀ (p : PortId) (a : Arrival) (s : State),
    let h := s.hub.openBoundary
    let r := h.lnk.remote[p]
    let verdict := verdictOf (.remote p) r.core.cand a
    let errored := if verdict = .errored then min (r.erroredSec + 1) 16000 else r.erroredSec
    h.linkOf p = .hunt → 4 ≤ r.core.good → r.core.arrival = some a →
    exec (.linkAligned (.remote p)) s = .next { s with hub := { h with
      lnk := { h.lnk with remote := upd h.lnk.remote p fun r => { r with
        core := { r.core with state := .proving, bad := 0 }.delivered (.remote p) verdict a
        erroredSec := errored
        meas := { running := true, origin := .entry, taken := 0, minimum := none, elapsed := 0 } } }
      cte := { h.cte with ports := upd h.cte.ports p fun c => { c with
        hold := false, nextAttempt := 1, pending := true
        field := if verdict = .good then some (controlPart (.remote p) a.bytes) else c.field } }
      fsv := { h.fsv with detectors := upd h.fsv.detectors p fun d => { d with
        crcDue := d.crcDue || decide (verdict = .errored
          ∧ h.tables.param (FaultKey.row (.port p .crcRate)) ≤ errored) } } } }

/-- A donor or the trunk in HUNT with four good markers enters UP once the frame of the fourth is complete, and raises
LINK; a donor's enabled carriers become HELD or ACTIVE by their operators' hold flags, and DONOR_LOSS clears (R4, R14,
R15, R37, R9, R142, R147). The frame of the fourth marker is the first one delivered, with its verdict: its samples
where a donor's is GOOD and none where it is errored, the bad-marker count and the counters of R13, and a GOOD trunk
frame's cell handed to MGA (R5, R14, R15); where a second frame became complete at the same boundary, that later one
is delivered (R2). Nothing else changes. That a flag set or cleared when its request was taken counts even where the
effect of the hold or release is still due at this boundary is the model's choice (log entry 46). -/
def Obligations.DonorAndTrunkAlign : Prop :=
  (∀ (d : DonorId) (a : Arrival) (s : State),
    let h := s.hub.openBoundary
    let c := h.lnk.donor[d]
    c.state = .hunt → 4 ≤ c.good → c.arrival = some a →
    ∃ t, exec (.linkAligned (.donor d)) s = .next t ∧ t.pending = s.pending
      ∧ (∀ k : FaultKey, t.hub.faultRecord k =
          if k = .donor d then (h.faultRecord k).cleared else h.faultRecord k)
      ∧ h.fsv.written t.hub.fsv ((h.faultRecord (.donor d)).clearEntries (.donor d) h.mga.seconds)
      ∧ t.hub.fsv.detectors = h.fsv.detectors
      ∧ t.hub = { h with
          lnk := { h.lnk with
            donor := upd h.lnk.donor d fun c =>
              { c with state := .up, bad := 0 }.delivered (.donor d) (verdictOf (.donor d) c.cand a) a }
          dlc := { h.dlc with
            carriers := tab fun k =>
              if carrierDonor k = d ∧ h.dlc.carriers[k] ≠ .absent then
                if h.dlc.holds[h.tables.operator k] then .held else .active
              else h.dlc.carriers[k] }
          mga := h.mga.raised .link
          fsv := t.hub.fsv })
  ∧ ∀ (a : Arrival) (s : State),
    let h := s.hub.openBoundary
    let c := h.lnk.trunk
    let verdict := verdictOf .trunk c.cand a
    c.state = .hunt → 4 ≤ c.good → c.arrival = some a →
    exec (.linkAligned .trunk) s = .next { s with hub := { h with
      lnk := { h.lnk with trunk := { c with state := .up, bad := 0 }.delivered .trunk verdict a }
      mga := { h.mga.raised .link with
        cell := if verdict = .good then some (cellOf (controlPart .trunk a.bytes)) else h.mga.cell } } }

/-- RECEIVE_FRAME on an aligned link: no frame is a bad marker; else the last frame that became complete is SLIPPED by a
bad marker or position, ERRORED by its CRC, or GOOD with its payload, and the counts move as the verdict says
(R2, R5, R12, R13). An ERRORED frame of a remote port leaves CRC_RATE due at the class parameter (R139); a GOOD one
gives a running measurement its round trip, from the hub instant count at which its marker was found (R1, R17,
R18; where an arrival was found is DEDUCED, log entry 30), and marks an identify pending where an UP port's lane
mask differs (R11). No other link and no other item of the hub changes. A frame at the aligned position is the stretch
received there, or, where the stretches of the bit stream lie elsewhere, one that began in the stretch before (R4);
that its marker's instant is then counted back from that of the next stretch, a fraction dropped, and that a stretch
which does not follow its predecessor shows no marker there, are the model's choices (log entry 29). -/
def Obligations.FramesOfAnAlignedLink : Prop :=
  (∀ (l : LinkId) (c : LinkCore) (a : Arrival),
    let period := 8 * frameLength l
    (c.cand = none ∨ c.cand = some a.pos ∨ c.last = none ∨ (∃ b, c.last = some b ∧ b.pos ≠ a.pos) → c.cut l a = a)
    ∧ ∀ (b : Arrival) (pos : Nat), c.cand = some pos → c.last = some b → b.pos = a.pos → pos ≠ a.pos →
      pos < period → a.pos < period → a.instant < 256 →
      let k := (pos + period - a.pos) % period
      let frame := c.cut l a
      frame.pos = pos
      ∧ (a.bytes.length = frameLength l → b.bytes.length = frameLength l →
        bitsOf frame.bytes = (bitsOf b.bytes).drop k ++ (bitsOf a.bytes).take k)
      ∧ frame.instant < 256
      ∧ ∃ back : Nat, (period - k) * 256 ≤ back * period ∧ back * period < (period - k) * 256 + period
        ∧ 256 * frame.framesAgo + a.instant = 256 * a.framesAgo + frame.instant + back)
  ∧ ∀ (l : LinkId) (done : List Arrival) (s : State),
    let h := s.hub.openBoundary
    let c := h.core l
    let before := done.dropLast.getLast?.or c.last
    c.state.aligned = true → c.handed = false →
    ∃ t, exec (.receiveFrame l done) s = .next t ∧ t.pending = s.pending
      ∧ (match done.getLast? with
        | none => t.hub = h.onCore l fun c => { c with handed := true, bad := min (c.bad + 1) 8 }
        | some newest =>
          let a := { c with last := before }.cut l newest
          if markerGood a.bytes = false ∨ c.cand ≠ some a.pos then
            t.hub = h.onCore l fun c =>
              { c with handed := true, last := some newest, bad := min (c.bad + 1) 8, verdict := some .slipped, samples := [],
                       slips := min (c.slips + 1) (2 ^ 32 - 1) }
          else if crcMatches l a.bytes = false then
            t.hub.core l = { c with handed := true, last := some newest, bad := 0, verdict := some .errored, samples := [],
                                    errored := min (c.errored + 1) (2 ^ 32 - 1) }
            ∧ (∀ p : PortId, l = .remote p →
                t.hub.lnk.remote[p] = { h.lnk.remote[p] with
                  core := t.hub.core l, erroredSec := min (h.lnk.remote[p].erroredSec + 1) 16000 }
                ∧ t.hub.fsv.detectors[p] = { h.fsv.detectors[p] with
                  crcDue := h.fsv.detectors[p].crcDue
                    || decide (h.tables.param (FaultKey.row (.port p .crcRate))
                        ≤ t.hub.lnk.remote[p].erroredSec) }
                ∧ t.hub.cte = h.cte)
            ∧ t.hub.mga = h.mga
          else
            t.hub.core l = { c with handed := true, last := some newest, bad := 0, verdict := some .good,
                                    samples := if l = .trunk then [] else
                                      payloadSamples (payloadPart l a.bytes) }
            ∧ (∀ p : PortId, l = .remote p →
                let m := h.lnk.remote[p].meas
                let found := 256 * ((h.lnk.frameNumber.toNat + 511 - a.framesAgo) % 256) + a.instant
                let rt := (((found : Int) - 256 * byteAt a.bytes 6 - byteAt a.bytes 7) % 65536).toNat
                let taken := (min rt 4095, decide (4095 < rt))
                t.hub.cte.ports[p] = { h.cte.ports[p] with
                    field := some (controlPart l a.bytes)
                    pending := h.cte.ports[p].pending
                      || (decide (h.linkOf p = .up ∧ headerMask a.bytes ≠ h.lnk.remote[p].mask)
                        && !h.cte.transaction.any fun x => x.port = p ∧ x.kind = .identify) }
                ∧ t.hub.fsv = h.fsv
                ∧ (newest.framesAgo ≤ 1 → newest.instant < 256 → t.hub.lnk.remote[p] = { h.lnk.remote[p] with
                    core := t.hub.core l
                    meas :=
                      if m.running = true ∧ 0 < m.elapsed ∧ m.taken < 4 ∧ echoPresent a.bytes = true then
                        { m with
                          taken := m.taken + 1
                          minimum := match m.minimum with
                            | none => some taken
                            | some (least, out) =>
                              if taken.1 < least then some taken
                              else if taken.1 = least then some (least, out && taken.2)
                              else some (least, out) }
                      else m }))
            ∧ t.hub.mga = { h.mga with
                cell := if l = .trunk then some (cellOf (controlPart l a.bytes)) else h.mga.cell })
      ∧ (∀ m : LinkId, m ≠ l → t.hub.core m = h.core m)
      ∧ (∀ p : PortId, l ≠ .remote p → t.hub.lnk.remote[p] = h.lnk.remote[p]
          ∧ t.hub.cte.ports[p] = h.cte.ports[p] ∧ t.hub.fsv.detectors[p] = h.fsv.detectors[p])
      ∧ (∀ p : PortId, t.hub.lnk.remote[p].mask = h.lnk.remote[p].mask
          ∧ t.hub.lnk.remote[p].delay = h.lnk.remote[p].delay)
      ∧ t.hub = { h with
          lnk := { h.lnk with
            remote := t.hub.lnk.remote, donor := t.hub.lnk.donor, trunk := t.hub.lnk.trunk }
          fsv := { h.fsv with detectors := t.hub.fsv.detectors }
          cte := { h.cte with ports := t.hub.cte.ports }
          mga := t.hub.mga }

/-- RECEIVE_FRAME on a link that is not aligned delivers nothing. In HUNT each stretch of received bits is searched for
the marker at any bit position, the last 31 bits of the stretch before it included: the first one found fixes the
candidate position with the good-marker count at 1; the marker at the candidate position one frame length on raises the
count; without it the count returns to 0 and the search starts again from the next bit (R4). The frame of the fourth
marker is complete with the stretch in which it does not begin. No stretch is a miss, but where the count is 4 already
the rest of the frame is waited for (the model's choice, log entry 29). A link that has handed on at this boundary
already takes no second frame (R2; that one may come is the model's choice, log entry 3). That a stretch which does not
follow the one before it starts the search anew is the model's choice (log entry 29); that DISABLED and DOWN take
nothing is DEDUCED (log entry 22). -/
def Obligations.FramesOfAnUnalignedLink : Prop :=
  (∀ (bs : List Byte) (i : Nat), (bitsOf bs).length = 8 * bs.length
    ∧ (i < 8 * bs.length → (bitsOf bs)[i]? = some ((bs.getD (i / 8) 0).getLsbD (7 - i % 8))))
  ∧ ∀ (l : LinkId) (done : List Arrival) (s : State),
    let h := s.hub.openBoundary
    let c := h.core l
    let period := 8 * frameLength l
    let look := fun (c : LinkCore) (a : Arrival) =>
      let lead := match c.last with
        | some b => if b.pos = a.pos then (bitsOf b.bytes).drop (8 * b.bytes.length - 31) else []
        | none => []
      let bits := lead ++ bitsOf a.bytes
      let found := fun i : Nat => decide ((bits.drop i).take 32 = bitsOf [0xE4, 0x1B, 0x7D, 0x28])
      let searched := fun i : Nat =>
        match (List.range bits.length).find? fun j => decide (i ≤ j) && found j with
        | some j => { c with
            cand := some ((a.pos + period + j - lead.length) % period), good := 1, last := some a }
        | none => { c with cand := none, good := 0, last := some a }
      if 4 ≤ c.good then { c with arrival := some (c.cut l a), last := some a }
      else match c.cand with
        | none => searched 0
        | some pos =>
          let i := (pos + period + lead.length - a.pos) % period
          if (c.last.any fun b => b.pos ≠ a.pos) = true then searched 0
          else if found i then { c with
            good := c.good + 1, last := some a
            arrival := if c.good = 3 ∧ i ≤ lead.length then some (c.cut l a) else c.arrival }
          else searched (i + 1)
    (c.handed = true → exec (.receiveFrame l done) s = .next { s with hub := h })
    ∧ (c.handed = false → c.state = .disabled ∨ c.state = .down →
      exec (.receiveFrame l done) s = .next { s with
        hub := h.onCore l fun c => { c with handed := true } })
    ∧ (c.handed = false → c.state = .hunt → done = [] →
      exec (.receiveFrame l done) s = .next { s with
        hub := h.onCore l fun c =>
          if 4 ≤ c.good then { c with handed := true }
          else { c with handed := true, cand := none, good := 0, last := none } })
    ∧ (c.handed = false → c.state = .hunt → done ≠ [] →
      exec (.receiveFrame l done) s = .next { s with
        hub := h.onCore l fun c => done.foldl look { c with handed := true } })

/-- A measurement starts at the boundary after its MEASURE_DELAY (R18, R19), completes with its fourth round
trip, or ends as TIMEOUT at its sixteenth boundary; a waiting request is answered, and D_p, last RT and the
RT-range indication change at completion alone. That the record of an ended measurement keeps its origin, taken,
minimum and elapsed is the model's choice (log entry 42). -/
def Obligations.MeasurementsStartAndEnd : Prop :=
  (∀ (p : PortId) (tag : Byte) (s : State),
    let h := s.hub.openBoundary
    h.mga.busy = some (.measureStart tag p) → h.mga.busyRipe = true →
    exec .delayMeasurementStart s = .next { s with hub := { h with
      lnk := { h.lnk with remote := upd h.lnk.remote p fun r => { r with
        meas := { running := true, origin := .request tag, taken := 0, minimum := none, elapsed := 0 } } }
      mga := { h.mga with busy := some (.measuring p) } } })
  ∧ (∀ (p : PortId) (rt : Nat) (out : Bool) (s : State),
    let h := s.hub.openBoundary
    let m := h.lnk.remote[p].meas
    let lnk := { h.lnk with remote := upd h.lnk.remote p fun r =>
      { r with lastRT := rt, delay := (rt + 1) / 2, rtRange := out,
               meas := { r.meas with running := false } } }
    m.running = true → m.taken = 4 → m.minimum = some (rt, out) →
    (m.origin = .entry → exec (.measurementDone p) s = .next { s with hub := { h with lnk := lnk } })
    ∧ (∀ tag, m.origin = .request tag →
      exec (.measurementDone p) s = .next { s with hub := { h with
        lnk := lnk
        mga := { h.mga with
          busy := none, busyRipe := false
          responses := h.mga.responses ++ [okResponse tag
            (4 :: toBytes 2 ((rt + 1) / 2) ++ toBytes 2 rt ++ [boolByte out])] } } }))
  ∧ ∀ (p : PortId) (s : State),
    let h := s.hub.openBoundary
    let r := h.lnk.remote[p]
    let lnk := { h.lnk with remote := upd h.lnk.remote p fun r =>
      { r with meas := { r.meas with running := false } } }
    r.meas.running = true → 16 ≤ r.meas.elapsed → r.meas.taken < 4 → r.core.handed = true →
    (r.meas.origin = .entry →
      exec (.measurementTimeout p) s = .next { s with hub := { h with lnk := lnk } })
    ∧ (∀ tag, r.meas.origin = .request tag →
      exec (.measurementTimeout p) s = .next { s with hub := { h with
        lnk := lnk
        mga := { h.mga with
          busy := none, busyRipe := false
          responses := h.mga.responses ++ [badResponse tag .timeout 0
            (BitVec.ofNat 8 r.meas.taken :: toBytes 2 r.delay ++ toBytes 2 r.lastRT
              ++ [boolByte r.rtRange])] } } })

/-! ## Transactions (Chapter 9) -/

/-- A good IDENTIFY reply answers the transaction, fills the RAU record, gives the port its lane mask and moves
a port in PROVING to UP with the LINK notice and LINK_LOSS cleared (R8, R9, R11, R154); the clearings leave the
records and the history as R142, R147 and R148 give; that the entry of RAU_NO_REPLY comes before that of LINK_LOSS is
the model's choice (log entry 54). A reply answers only an attempt of an earlier boundary: at the
boundary of the selection (`selectDone`) it is ignored (R153, R154). Nothing else changes. A reply with an empty lane
mask counts as no reply, and one that is not of the transaction's port, kind and sequence number, or comes with no
transaction in flight, is ignored: neither changes anything (R154). -/
def Obligations.GoodIdentifyReply : Prop :=
  (∀ (x : Transaction) (f : List Byte) (s : State),
    let h := s.hub.openBoundary
    let p := x.port
    h.cte.transaction = some x → x.kind = .identify → h.cte.ports[p].field = some f →
    byteAt f 0 = 1 → fieldSequence f = x.sequence → (identifyFields f).mask ≠ 0 →
    (h.bd.selectDone = true → exec .identifyReply s = .next { s with hub := h })
    ∧ (h.bd.selectDone = false →
    ∃ t, exec .identifyReply s = .next t ∧ t.pending = s.pending
      ∧ t.hub.cte = { h.cte with
          transaction := none
          ports := upd h.cte.ports p fun c => { c with
            identify := some (identifyFields f), nextAttempt := 1, misses := 0, field := none } }
      ∧ (let silent := FaultKey.port p .rauNoReply
         let loss := FaultKey.port p .linkLoss
         let proving := h.linkOf p = .proving
         (∀ k : FaultKey, t.hub.faultRecord k =
            if k = silent ∨ k = loss ∧ proving then (h.faultRecord k).cleared else h.faultRecord k)
         ∧ h.fsv.written t.hub.fsv ((h.faultRecord silent).clearEntries silent h.mga.seconds
            ++ if proving then (h.faultRecord loss).clearEntries loss h.mga.seconds else [])
         ∧ t.hub.fsv.detectors = h.fsv.detectors ∧ t.hub.sbl = h.sbl)
      ∧ t.hub.lnk = { h.lnk with remote := upd h.lnk.remote p fun r => { r with
          mask := (identifyFields f).mask
          core := { r.core with state := if r.core.state = .proving then .up else r.core.state } } }
      ∧ t.hub.mga = (if h.linkOf p = .proving then h.mga.raised .link else h.mga)
      ∧ t.hub = { h with lnk := t.hub.lnk, fsv := t.hub.fsv, cte := t.hub.cte, mga := t.hub.mga }))
  ∧ ∀ s : State,
    let h := s.hub.openBoundary
    (∀ (x : Transaction) (f : List Byte), h.cte.transaction = some x → x.kind = .identify →
      h.cte.ports[x.port].field = some f → byteAt f 0 = 1 → fieldSequence f = x.sequence →
      (identifyFields f).mask = 0) →
    exec .identifyReply s = .next { s with hub := h }

/-- A STATUS reply answers the transaction, fills the RAU record and presents or clears RAU_ALARM (R154), which moves
the record by the mode of its class, with the wake and the ending of a move that a detection brings (R126, R131, R142,
R146 to R148); that a port whose entry into QUIET is due counts as QUIET is DEDUCED (log entry 21). At the boundary of
the selection (`selectDone`) a reply is ignored (R153). Nothing else changes. A reply that is not of the transaction's
port, kind and sequence number, or comes with no transaction in flight, is ignored and changes nothing (R154). That an
IDLE record keeps a running settle time where it goes to ACTIVE (log entry 51), and that the history entry of
RAU_NO_REPLY comes before that of RAU_ALARM (log entry 54), are the model's choices. -/
def Obligations.StatusReplyReportsTheRau : Prop :=
  (∀ (x : Transaction) (f : List Byte) (s : State),
    let h := s.hub.openBoundary
    let p := x.port
    h.cte.transaction = some x → x.kind = .status → h.cte.ports[p].field = some f →
    byteAt f 0 = 2 → fieldSequence f = x.sequence →
    (h.bd.selectDone = true → exec .statusReply s = .next { s with hub := h })
    ∧ (h.bd.selectDone = false →
    ∃ t, exec .statusReply s = .next t ∧ t.pending = s.pending
      ∧ t.hub.cte = { h.cte with
          transaction := none
          ports := upd h.cte.ports p fun c => { c with
            status := some (statusFields f h.mga.seconds), misses := 0, field := none } }
      ∧ (let silent := FaultKey.port p .rauNoReply
         let alarm := FaultKey.port p .rauAlarm
         let a := h.faultRecord alarm
         let alarmed := (statusFields f h.mga.seconds).alarms ≠ 0
         let leaves := alarmed ∧ a.detects h.tables alarm.row = true ∧ a.state = .idle
         (∀ k : FaultKey, t.hub.faultRecord k =
            if k = alarm then if alarmed then a.presented h.tables alarm.row else a.cleared
            else if k = silent then (h.faultRecord k).cleared else h.faultRecord k)
         ∧ h.fsv.written t.hub.fsv ((h.faultRecord silent).clearEntries silent h.mga.seconds
            ++ if alarmed then a.presentEntries h.tables alarm h.mga.seconds
              else a.clearEntries alarm h.mga.seconds)
         ∧ t.hub.fsv.detectors = h.fsv.detectors
         ∧ h.supervises t.hub (fun q => if q = p ∧ leaves then some .fault else none)
         ∧ t.hub.mga = { h.mga with marks := t.hub.mga.marks }
         ∧ h.mga.marked t.hub.mga fun n => n = .fault ∧ alarmed ∧ a.enters h.tables alarm.row = true
            ∨ n = .quiet ∧ leaves ∧ h.isQuiet p = true)
      ∧ t.hub = { h with cte := t.hub.cte, fsv := t.hub.fsv, sbl := t.hub.sbl, mga := t.hub.mga }))
  ∧ ∀ s : State,
    let h := s.hub.openBoundary
    (∀ (x : Transaction) (f : List Byte), h.cte.transaction = some x → x.kind = .status →
      h.cte.ports[x.port].field = some f → byteAt f 0 = 2 → fieldSequence f ≠ x.sequence) →
    exec .statusReply s = .next { s with hub := h }

/-- With no transaction in flight the engine selects an identify, else a priority turn, else a regular turn,
always the lowest port that qualifies, with the frames of its attempt (R151 to R153). Where the priority cycle ends,
its position returns to 0, and the turn goes to a RUNNING regular pass, else to the lowest UP port of the set (R151).
A regular pass ends when no UP port lies at or above its position; one that waits begins within the same turn (R152).
A second selection of one boundary yields nothing, not even where the first was abandoned at the same boundary: the
model's choice (log entry 55). A poll interval starts a regular pass, or marks one as waiting (R152). That CTE_SELECT
and POLL_INTERVAL may come where they are not due, and then change nothing, is the model's choice (log entry 3). -/
def Obligations.EngineSelectsInOrder : Prop :=
  (∀ (p : PortId) (s : State),
    let h := s.hub.openBoundary
    let waits := fun q : PortId =>
      (h.linkOf q).aligned = true ∧ h.cte.ports[q].pending = true ∧ h.cte.ports[q].hold = false
    let inSet := fun q : PortId => h.cte.priority[q] = true ∧ h.isUp q = true
    let bd := { h.bd with selectDone := true }
    let seq := h.cte.sequence + 1
    h.cte.transaction = none → h.bd.selectDone = false →
    (waits p → (∀ q : PortId, q < p → ¬ waits q) →
      exec .cteSelect s = .next { s with hub := { h with
        bd := bd
        cte := { h.cte with
          sequence := seq
          ports := upd h.cte.ports p fun c => { c with pending := false }
          transaction := some { port := p, kind := .identify, attempt := h.cte.ports[p].nextAttempt
                                sequence := seq
                                remaining := match h.cte.ports[p].nextAttempt with
                                  | 1 => 8
                                  | 2 => 32
                                  | 3 => 128
                                  | _ => 512 } } } })
    ∧ ((∀ q : PortId, ¬ waits q) → inSet p → h.cte.priorityPos ≤ p.val →
      (∀ q : PortId, h.cte.priorityPos ≤ q.val → q < p → ¬ inSet q) →
      exec .cteSelect s = .next { s with hub := { h with
        bd := bd
        cte := { h.cte with
          sequence := seq, priorityPos := p.val + 1
          transaction := some { port := p, kind := .status, attempt := 1, sequence := seq
                                remaining := 64 } } } })
    ∧ ((∀ q : PortId, ¬ waits q) → h.cte.pass = none → inSet p →
      (∀ q : PortId, inSet q → q.val < h.cte.priorityPos) → (∀ q : PortId, q < p → ¬ inSet q) →
      exec .cteSelect s = .next { s with hub := { h with
        bd := bd
        cte := { h.cte with
          sequence := seq, priorityPos := p.val + 1
          transaction := some { port := p, kind := .status, attempt := 1, sequence := seq
                                remaining := 64 } } } })
    ∧ (∀ pos : Nat, (∀ q : PortId, ¬ waits q) → h.cte.pass = some pos →
      (∀ q : PortId, inSet q → q.val < h.cte.priorityPos) →
      let ended := ∃ q : PortId, inSet q
      let next := fun low : Nat => h.isUp p = true ∧ low ≤ p.val
        ∧ ∀ q : PortId, low ≤ q.val → q < p → h.isUp q = false
      let polls := fun waiting : Bool => exec .cteSelect s = .next { s with hub := { h with
        bd := bd
        cte := { h.cte with
          sequence := seq, pass := some (p.val + 1), passWaiting := waiting
          priorityPos := if ended then 0 else h.cte.priorityPos
          transaction := some { port := p, kind := .status, attempt := 1, sequence := seq
                                remaining := 64 } } } }
      let stops := exec .cteSelect s = .next { s with hub := { h with
        bd := bd
        cte := { h.cte with
          pass := none, passWaiting := false
          priorityPos := if ended then 0 else h.cte.priorityPos } } }
      (next pos → polls h.cte.passWaiting)
      ∧ ((∀ q : PortId, pos ≤ q.val → h.isUp q = false) →
        (h.cte.passWaiting = true → next 0 → polls false)
        ∧ (h.cte.passWaiting = false ∨ (∀ q : PortId, h.isUp q = false) → stops)))
    ∧ ((∀ q : PortId, ¬ waits q) → h.cte.pass = none → (∀ q : PortId, ¬ inSet q) →
      exec .cteSelect s = .next { s with hub := { h with bd := bd } }))
  ∧ (∀ s : State,
    let h := s.hub.openBoundary
    h.cte.transaction ≠ none ∨ h.bd.selectDone = true → exec .cteSelect s = .next { s with hub := h })
  ∧ ∀ s : State,
    let h := s.hub.openBoundary
    (h.cte.pollDue = false → exec .pollInterval s = .next { s with hub := h })
    ∧ (h.cte.pollDue = true →
      exec .pollInterval s = .next { s with hub := { h with cte := { h.cte with
        pollDue := false
        pass := match h.cte.pass with
          | none => some 0
          | some pos => some pos
        passWaiting := h.cte.passWaiting || h.cte.pass.isSome } } })

/-- An unanswered attempt is a miss: the next IDENTIFY attempt is marked pending, the fourth exhausts the identify, a
STATUS miss raises the miss count, and the third presents RAU_NO_REPLY; one beyond the third leaves the count at 3 and
presents nothing (R153, R155); under IGNORE an exhausted identify starts a new sequence at once, and else its port is
held (R155). The condition acts by the mode of its class, with the wake and the ending of a move that a detection
brings (R126, R131, R142, R146 to R148). That a port whose entry into QUIET is due counts as QUIET is DEDUCED (log
entry 21). That an IDLE record keeps a running settle time where it goes to ACTIVE is the model's choice (log entry
51). -/
def Obligations.UnansweredAttemptsAreMisses : Prop :=
  ∀ (x : Transaction) (s : State),
    let h := s.hub.openBoundary
    let p := x.port
    h.cte.transaction = some x → x.remaining = 0 → h.lnk.remote[p].core.handed = true →
    h.replyOf x = none →
    (x.kind = .identify → x.attempt < 4 →
      exec .attemptMiss s = .next { s with hub := { h with cte := { h.cte with
        transaction := none
        ports := upd h.cte.ports p fun c =>
          { c with nextAttempt := x.attempt + 1, pending := true } } } })
    ∧ (x.kind = .status → h.cte.ports[p].misses < 2 →
      exec .attemptMiss s = .next { s with hub := { h with cte := { h.cte with
        transaction := none
        ports := upd h.cte.ports p fun c => { c with misses := c.misses + 1 } } } })
    ∧ (x.kind = .status → h.cte.ports[p].misses = 3 →
      exec .attemptMiss s = .next { s with hub := { h with cte := { h.cte with transaction := none } } })
    ∧ (x.kind = .identify → 4 ≤ x.attempt →
      ∃ t, exec .attemptMiss s = .next t ∧ t.pending = s.pending
        ∧ h.presents t.hub p .rauNoReply ∧ t.hub.fsv.detectors = h.fsv.detectors
        ∧ (let ignored := decide (h.tables.responseMode (FaultKey.row (.port p .rauNoReply)) = .ignore)
           t.hub.cte = { h.cte with
             transaction := none
             ports := upd h.cte.ports p fun c => { c with
               nextAttempt := 1, hold := !ignored
               pending := c.pending || ignored && (h.linkOf p).aligned } })
        ∧ t.hub = { h with cte := t.hub.cte, fsv := t.hub.fsv, sbl := t.hub.sbl, mga := t.hub.mga })
    ∧ (x.kind = .status → h.cte.ports[p].misses = 2 →
      ∃ t, exec .attemptMiss s = .next t ∧ t.pending = s.pending
        ∧ h.presents t.hub p .rauNoReply ∧ t.hub.fsv.detectors = h.fsv.detectors
        ∧ t.hub.cte = { h.cte with
            transaction := none, ports := upd h.cte.ports p fun c => { c with misses := 3 } }
        ∧ t.hub = { h with cte := t.hub.cte, fsv := t.hub.fsv, sbl := t.hub.sbl, mga := t.hub.mga })

/-! ## Second marks and faults (Chapters 9 and 11) -/

/-- A second mark: the hub second count rises, the frame count starts again (R167), the errored-this-second counts are
judged by CRC_RATE and cleared (R13, R139), the COOLING periods and settle times of all 200 fault records fall by one
(R136), the UL_SILENT detector counts the second and leaves the presentation due at the class parameter (R141), and
the counts toward the poll interval (R152) and the balance interval (R114, R133) take their step, against the
intervals from before an activation of the same boundary (R31). The clearings of CRC_RATE take ACTIVE records to
LATCHED, where their actions stay, and are written to the history (R142, R143, R146 to R148). Nothing else changes.
That a due presentation or interval waits for its own command (log entry 10), that the clearings are written in
ascending port (log entry 48), and that a mark after a SITE activation counts toward the restarted counts (log entry
45) are the model's choices. -/
def Obligations.SecondMarkServesTheSecond : Prop :=
  ∀ s : State,
    let h := s.hub.openBoundary
    let old := h.bd.before.getD h.tables
    let polls := old.pollInterval ≤ h.cte.pollCount + 1
    let crc := fun p : PortId => h.faultRecord (.port p .crcRate)
    let cleared := fun p : PortId => decide
      (h.lnk.remote[p].erroredSec ≤ h.tables.param (FaultKey.row (.port p .crcRate)) / 4)
    let reached := h.inService = true ∧ h.bd.serviceBegun = false
      ∧ old.interval ≤ h.sbl.intervalCount + 1
    16000 ≤ h.mga.frameCount →
    ∃ t, exec .secondMark s = .next t ∧ t.pending = s.pending
      ∧ t.hub.mga = { h.mga with frameCount := 0, seconds := min (h.mga.seconds + 1) (2 ^ 32 - 1) }
      ∧ t.hub.cte = { h.cte with
          pollCount := if polls then 0 else h.cte.pollCount + 1, pollDue := h.cte.pollDue || decide polls }
      ∧ h.fsv.written t.hub.fsv ((List.finRange 24).flatMap fun p =>
          if cleared p then (crc p).clearEntries (.port p .crcRate) t.hub.mga.seconds else [])
      ∧ t.hub.sbl = { h.sbl with
          intervalCount := if reached then 0
            else if h.inService = true ∧ h.bd.serviceBegun = false then h.sbl.intervalCount + 1
            else h.sbl.intervalCount
          intervalDue := h.sbl.intervalDue || decide reached }
      ∧ (∀ p : PortId, t.hub.lnk.remote[p] = { h.lnk.remote[p] with erroredSec := 0 })
      ∧ (∀ k : FaultKey, t.hub.faultRecord k = { h.faultRecord k with
          timer := if (h.faultRecord k).fresh = false
              ∧ ((h.faultRecord k).state = .cooling ∨ (h.faultRecord k).state = .idle) then
              (h.faultRecord k).timer - 1 else (h.faultRecord k).timer
          present := (t.hub.faultRecord k).present, state := (t.hub.faultRecord k).state })
      ∧ (∀ p : PortId, (t.hub.faultRecord (.port p .crcRate)).present = ((crc p).present && !cleared p)
          ∧ (t.hub.faultRecord (.port p .crcRate)).state =
            if (crc p).present = true ∧ cleared p = true ∧ (crc p).state = .active then .latched
            else (crc p).state)
      ∧ (∀ k : FaultKey, (∀ p : PortId, k ≠ .port p .crcRate) →
          (t.hub.faultRecord k).present = (h.faultRecord k).present
          ∧ (t.hub.faultRecord k).state = (h.faultRecord k).state)
      ∧ (∀ p : PortId,
          let d := h.fsv.detectors[p]
          let counts := h.isUp p = true ∧ d.silentMark = true
          let n := min (d.silence + 1) 3600
          t.hub.fsv.detectors[p] = { d with
            silentMark := true
            silence := if h.isUp p = false then 0 else if counts then n else d.silence
            silentDue := d.silentDue
              || decide (counts ∧ h.tables.param (FaultKey.row (.port p .ulSilent)) ≤ n) })
      ∧ t.hub = { h with
          lnk := { h.lnk with remote := t.hub.lnk.remote }
          sbl := t.hub.sbl, fsv := t.hub.fsv, cte := t.hub.cte, mga := t.hub.mga }

/-- The three detectors of FSV present a condition that is due, and a detection moves the record by the mode of its
class, counts an occurrence and, but for IGNORE, writes DETECTED to the history (R137, R139 to R143, R147, R148). A
record that leaves IDLE wakes a QUIET port with cause FAULT (R131), and MUTE or ISOLATE that enters marks the port's
move ENDING with cause ACTION (R126, R146). The same of the DELAY_RANGE presentations of a recomputation, with its
clearings, each port's in ascending number (R75; the order is the model's choice, log entry 34), unless a RESTART is
due, which lets nothing be handed on (R78). That a port whose entry into QUIET is due counts as QUIET is DEDUCED (log
entry 21). That an IDLE record keeps a running settle time where it goes to ACTIVE is the model's choice (log entry
51). The effective action set of a port has an action exactly where a class of the port has it in its action set, has
mode LATCHED or RETRY, and has its record in ACTIVE, COOLING or LATCHED (R146). -/
def Obligations.DetectorsPresentByMode : Prop :=
  (∀ (h : Hub) (p : PortId), ∀ action ∈ [ActionSet.mute, ActionSet.isolate, ActionSet.attenuate],
    (action (h.actions p) = true ↔ ∃ k : PortClass,
      let mode := h.tables.responseMode (FaultKey.row (.port p k))
      (h.faultRecord (.port p k)).state ∈ [RecordState.active, .cooling, .latched]
      ∧ (mode = .latched ∨ mode = .retry)
      ∧ action (h.tables.responseActions (FaultKey.row (.port p k))) = true))
  ∧ (∀ (p : PortId) (k : PortClass) (c : Instr) (s : State),
    let h := s.hub.openBoundary
    let d := h.fsv.detectors[p]
    (c = .crcRatePresent p ∧ k = .crcRate ∧ d.crcDue = true
      ∨ c = .ulOverloadPresent p ∧ k = .ulOverload ∧ d.overloadDue = true
      ∨ c = .ulSilentPresent p ∧ k = .ulSilent ∧ d.silentDue = true) →
    ∃ t, exec c s = .next t ∧ t.pending = s.pending
      ∧ h.presents t.hub p k
      ∧ t.hub.fsv.detectors = upd h.fsv.detectors p (fun d => { d with
          crcDue := d.crcDue && decide (k ≠ .crcRate)
          overloadDue := d.overloadDue && decide (k ≠ .ulOverload)
          silentDue := d.silentDue && decide (k ≠ .ulSilent) })
      ∧ t.hub = { h with fsv := t.hub.fsv, sbl := t.hub.sbl, mga := t.hub.mga })
  ∧ ∀ s : State,
    let h := s.hub.openBoundary
    h.bd.deqDone = false →
    ∃ t, exec (.frameBoundary .deqRecompute) s = .next t
      ∧ (let key := fun p : PortId => FaultKey.port p .delayRange
         let r := fun p : PortId => h.faultRecord (key p)
         let stamp := h.mga.seconds
         let acts := ¬ (h.mga.busy = some .restart ∧ h.mga.busyRipe = true)
         let rises := fun p : PortId =>
           decide acts && t.hub.deq.ports[p].range && !h.deq.ports[p].range
         let falls := fun p : PortId =>
           decide acts && !t.hub.deq.ports[p].range && h.deq.ports[p].range
         let leaves := fun p : PortId =>
           rises p && (r p).detects h.tables (key p).row && decide ((r p).state = .idle)
         (∀ p : PortId, t.hub.faultRecord (key p) =
            if rises p then (r p).presented h.tables (key p).row
            else if falls p then (r p).cleared else r p)
         ∧ (∀ k : FaultKey, (∀ p : PortId, k ≠ key p) → t.hub.faultRecord k = h.faultRecord k)
         ∧ h.fsv.written t.hub.fsv ((List.finRange 24).flatMap fun p =>
            if rises p then (r p).presentEntries h.tables (key p) stamp
            else if falls p then (r p).clearEntries (key p) stamp else [])
         ∧ h.supervises t.hub (fun p => if leaves p then some .fault else none)
         ∧ t.hub.mga = { h.mga with marks := t.hub.mga.marks }
         ∧ h.mga.marked t.hub.mga (fun n =>
            n = .fault ∧ (∃ p, rises p = true ∧ (r p).enters h.tables (key p).row = true)
            ∨ n = .quiet ∧ ∃ p, leaves p = true ∧ h.isQuiet p = true))

/-- A COOLING expiry releases the record, detects again, or escalates at the retry limit; when the settle time of
an IDLE record runs out its retry count becomes 0 (R143, R144). An expiry is due where the
timer stands at 0, or at 1 while its boundary's second mark is still to be taken, and was not set at this boundary
(R136, R143); that it may come before the SECOND_MARK is the model's choice (log entry 20), as is its entries' stamp
with the second count before the mark (log entry 40). One that is not due changes nothing (that it may come is the
model's choice, log entry 3). The history has RETRY_EXPIRED, with DETECTED after it where the condition is
still PRESENT, or ESCALATED (R147, R148). -/
def Obligations.CoolingAndSettleExpiry : Prop :=
  (∀ (k : FaultKey) (s : State),
    let h := s.hub.openBoundary
    let r := h.faultRecord k
    let runsOut := r.fresh = false ∧ (r.timer = 0 ∨ r.timer = 1 ∧ 16000 ≤ h.mga.frameCount)
    (¬ (r.state = .cooling ∧ runsOut) → exec (.coolingExpiry k) s = .next { s with hub := h })
    ∧ (¬ (r.state = .idle ∧ 0 < r.retries ∧ runsOut) → exec (.settleExpiry k) s = .next { s with hub := h }))
  ∧ (∀ (k : FaultKey) (s : State),
    let h := s.hub.openBoundary
    let r := h.faultRecord k
    let secs := h.tables.retrySeconds k.row
    r.state = .cooling → r.fresh = false → r.timer = 0 ∨ r.timer = 1 ∧ 16000 ≤ h.mga.frameCount →
    ∃ t, exec (.coolingExpiry k) s = .next t ∧ t.pending = s.pending
      ∧ t.hub.faultRecord k =
        (if r.retries < h.tables.retryLimit k.row then
          if r.present then
            { r with occurrences := min (r.occurrences + 1) 255, retries := min (r.retries + 1) 15,
                     timer := secs, fresh := true }
          else { r with state := .idle, timer := secs, fresh := true }
        else { r with state := if r.present then .active else .latched, timer := 0 })
      ∧ h.fsv.written t.hub.fsv (
          if r.retries < h.tables.retryLimit k.row then
            ⟨k, .retryExpired, h.mga.seconds⟩ :: if r.present then [⟨k, .detected, h.mga.seconds⟩] else []
          else [⟨k, .escalated, h.mga.seconds⟩])
      ∧ t.hub.fsv.detectors = h.fsv.detectors
      ∧ t.hub.mga = (if r.present then h.mga.raised .fault else h.mga)
      ∧ t.hub.cte = (match k with
          | .port p .rauNoReply => { h.cte with ports := upd h.cte.ports p fun c => { c with
              hold := false, nextAttempt := 1, pending := c.pending || (h.linkOf p).aligned } }
          | _ => h.cte)
      ∧ (∀ k' : FaultKey, k' ≠ k → t.hub.faultRecord k' = h.faultRecord k')
      ∧ h.supervises t.hub (fun _ => none)
      ∧ t.hub = { h with fsv := t.hub.fsv, sbl := t.hub.sbl, cte := t.hub.cte, mga := t.hub.mga })
  ∧ ∀ (k : FaultKey) (s : State),
    let h := s.hub.openBoundary
    let r := h.faultRecord k
    r.state = .idle → 0 < r.retries → r.fresh = false → r.timer = 0 ∨ r.timer = 1 ∧ 16000 ≤ h.mga.frameCount →
    ∃ t, exec (.settleExpiry k) s = .next t ∧ t.pending = s.pending
      ∧ t.hub.faultRecord k = { r with retries := 0, timer := 0 }
      ∧ (∀ k' : FaultKey, k' ≠ k → t.hub.faultRecord k' = h.faultRecord k')
      ∧ t.hub = { h with fsv := t.hub.fsv }
      ∧ t.hub.fsv.history = h.fsv.history ∧ t.hub.fsv.lost = h.fsv.lost
      ∧ t.hub.fsv.detectors = h.fsv.detectors

/-! ## Meters, gates and limiters (Chapters 4, 6 and 7) -/

/-- A window end: every meter outside a loop-test window completes its window and takes its net level into its
extremes, and the port's activity and smoothed activity follow (R95, R98 to R101); a PENDING loop test becomes RUNNING
with its window cleared (R105); a RUNNING one ends and is answered with its codes and net levels (R106); the results
wake a QUIET port at its wake level (R131) and move the overload run and the silence count of its detectors, with the
clearings they hand on (R102, R140, R141); what a presentation or a clearing does to the record, the history, the
notice, the port's actions and its move is that of its class (R126, R142, R143, R146 to R148). After an activation of
the same boundary, the smoothing, weights, offsets and levels are still those from before it (R31); that the class
parameters and the response policy are the new ones is DEDUCED (R36, log entry 36). A port whose meters were cleared
at this boundary hands nothing on (R110; of a PORT activation DEDUCED, log entry 37). The 8 bytes of a test's response
(log entry 25), and that a port whose entry into QUIET is due counts as QUIET (log entry 21), are DEDUCED. That a
presentation waits for its own command (log entry 10), that one of UL_SILENT which a second mark left due comes after
the wake (log entry 50), and that the ports are taken in ascending number with UL_OVERLOAD before UL_SILENT (log entry
48), are the model's choices. That an IDLE record keeps a running settle time where it goes to ACTIVE is the model's
choice (log entry 51). -/
def Obligations.WindowEndCompletesEveryMeter : Prop :=
  ∀ s : State,
    let h := s.hub.openBoundary
    let T := h.bd.before.getD h.tables
    let k := T.windowCode
    let testing := fun p : PortId => h.lvm.ports[p].loop.isRunning
    let mean := fun (p : PortId) (b : Lane) =>
      (roundShift h.lvm.ports[p].meters[b].acc (8 + k)).toNat
    let overload := fun p : PortId => FaultKey.port p .ulOverload
    let silent := fun p : PortId => FaultKey.port p .ulSilent
    let hands := fun p : PortId => testing p = false ∧ h.lvm.ports[p].cleared = false
    let code := fun (p : PortId) (b : Lane) => if h.lvm.ports[p].void then 0 else levelCode (mean p b)
    let net := fun (p : PortId) (b : Lane) => code p b - T.offset p b
    let inMask := fun (p : PortId) (b : Lane) => h.frame[p].mask.getLsbD b.val = true
    let measured := fun p : PortId => h.frame[p].link = .up ∧ h.lvm.ports[p].void = false
    let loud := fun p : PortId => ∃ b : Lane, inMask p b ∧ T.overloadLevel p b ≤ net p b
    let low := fun p : PortId => ∀ b : Lane, inMask p b → net p b + 4 < T.overloadLevel p b
    let heard := fun p : PortId => ∃ b : Lane, inMask p b ∧ 0 < net p b
    let awakes := fun p : PortId => ∃ b : Lane, T.wakeLevel p ≤ net p b
    let calmed := fun p : PortId => ¬ measured p ∨ ¬ loud p ∧ low p
    let due := fun p : PortId => h.fsv.detectors[p].silentDue = true
    let first := fun p : PortId =>
      if due p then (h.faultRecord (silent p)).presented h.tables (silent p).row else h.faultRecord (silent p)
    let leaves := fun p : PortId => due p ∧ (h.faultRecord (silent p)).detects h.tables (silent p).row = true
      ∧ (h.faultRecord (silent p)).state = .idle
    h.tables.window ≤ h.lvm.windowCount →
    ∃ t, exec .windowEnd s = .next t ∧ t.pending = s.pending
      ∧ t.hub.lvm.windowCount = 0 ∧ t.hub.lvm.windowNumber = h.lvm.windowNumber + 1
      ∧ (∀ p : PortId, testing p = true → t.hub.lvm.ports[p] = { h.lvm.ports[p] with
          loop := .none, void := false
          meters := mapTab (fun x => { x with acc := 0, held := 0 }) h.lvm.ports[p].meters })
      ∧ (∀ p : PortId, testing p = false → h.lvm.ports[p].cleared = true →
          t.hub.lvm.ports[p] = { h.lvm.ports[p] with void := false })
      ∧ (∀ p : PortId, testing p = true ∨ h.lvm.ports[p].cleared = true →
          t.hub.fsv.detectors[p] = h.fsv.detectors[p]
          ∧ ∀ c : PortClass, t.hub.faultRecord (.port p c) = h.faultRecord (.port p c))
      ∧ (∀ p : PortId, testing p = false → h.lvm.ports[p].cleared = false →
          let v := h.lvm.ports[p]
          let a := net p 0 * T.lambda 0 + net p 1 * T.lambda 1 + net p 2 * T.lambda 2 + net p 3 * T.lambda 3
          let d := h.fsv.detectors[p]
          (∀ b : Lane, t.hub.lvm.ports[p].meters[b] =
              { integrator := v.meters[b].integrator, lastGood := v.meters[b].lastGood
                acc := 0, held := 0
                last := { mean := if v.void then 0 else mean p b
                          code := code p b, net := net p b, held := v.meters[b].held, void := v.void }
                extremes :=
                  let e := v.meters[b].extremes
                  if v.void then e
                  else if e.count = 0 then { largest := net p b, smallest := net p b, count := 1 }
                  else { largest := max e.largest (net p b), smallest := min e.smallest (net p b)
                         count := min (e.count + 1) (2 ^ 32 - 1) } })
          ∧ t.hub.lvm.ports[p].activity = a
          ∧ t.hub.lvm.ports[p].smoothed =
              (if h.frame[p].link = .up ∧ v.void = false then
                ((v.smoothed : Int) + roundShift
                  (((if h.frame[p].silenced then 0 else a : Nat) : Int) - v.smoothed)
                  T.alpha).toNat
              else v.smoothed)
          ∧ t.hub.lvm.ports[p].void = false
          ∧ t.hub.lvm.ports[p].loop = (match v.loop with
              | .pending tag => .running tag
              | x => x)
          ∧ t.hub.fsv.detectors[p] = { d with
              run := if measured p ∧ loud p then min (d.run + 1) 255 else 0
              overloadDue := d.overloadDue || decide (measured p ∧ loud p
                ∧ h.tables.param (overload p).row ≤ min (d.run + 1) 255)
              silence := if measured p ∧ ¬ heard p then d.silence else 0
              silentMark := d.silentMark && decide (measured p ∧ ¬ heard p)
              silentDue := false })
      ∧ (∀ p : PortId, hands p →
          t.hub.faultRecord (overload p) =
            (if calmed p then (h.faultRecord (overload p)).cleared else h.faultRecord (overload p))
          ∧ t.hub.faultRecord (silent p) = if heard p then (first p).cleared else first p)
      ∧ h.fsv.written t.hub.fsv ((List.finRange 24).flatMap fun p =>
          if hands p then
            (if calmed p then (h.faultRecord (overload p)).clearEntries (overload p) h.mga.seconds else [])
            ++ (if due p then (h.faultRecord (silent p)).presentEntries h.tables (silent p) h.mga.seconds else [])
            ++ if heard p then (first p).clearEntries (silent p) h.mga.seconds else []
          else [])
      ∧ h.supervises t.hub (fun p =>
          if hands p ∧ awakes p then some .level else if hands p ∧ leaves p then some .fault else none)
      ∧ h.mga.marked t.hub.mga (fun n =>
          n = .fault ∧ (∃ p, hands p ∧ due p
            ∧ (h.faultRecord (silent p)).enters h.tables (silent p).row = true)
          ∨ n = .quiet ∧ ∃ p, hands p ∧ (awakes p ∨ leaves p) ∧ h.isQuiet p = true)
      ∧ t.hub.mga = { h.mga with
          responses := h.mga.responses ++ ((List.finRange 24).filterMap fun p =>
            match h.lvm.ports[p].loop with
            | .running tag => some (okResponse tag
                (((List.finRange 4).map fun b => BitVec.ofNat 8 (levelCode (mean p b)))
                  ++ (List.finRange 4).map fun b =>
                    BitVec.ofNat 8 (levelCode (mean p b) - T.offset p b)))
            | _ => none)
          busy := if ∃ p : PortId, testing p = true then none else h.mga.busy
          busyRipe := if ∃ p : PortId, testing p = true then false else h.mga.busyRipe
          marks := t.hub.mga.marks }
      ∧ (∀ k : FaultKey, (∀ p : PortId, k ≠ .port p .ulOverload ∧ k ≠ .port p .ulSilent) →
          t.hub.faultRecord k = h.faultRecord k)
      ∧ t.hub = { h with
          ulc := { h.ulc with gates := t.hub.ulc.gates }
          lvm := t.hub.lvm, fsv := t.hub.fsv, sbl := t.hub.sbl, mga := t.hub.mga }

/-- The gates follow the table of R88 at a window end, for a port that was COMBINING and still is, outside its
loop-test window and not reset at this boundary (of a PORT activation that clears its meters, DEDUCED, log entry 37);
every other gate stands (R88 to R90). COMBINING_JOIN, once at a boundary (that it may come again and then changes
nothing is the model's choice, log entry 3): a port UP in the frame that ended and still UP becomes COMBINING, and its
lanes of gate level 0 open (R40, R89). A window end after a PORT activation of the same boundary still takes the old
levels and hold (R31); that a join then takes the new ones is the model's choice (log entry 35). -/
def Obligations.GatesFollowTheirTable : Prop :=
  (∀ s : State,
    let h := s.hub.openBoundary
    h.tables.window ≤ h.lvm.windowCount →
    ∃ t, exec .windowEnd s = .next t
      ∧ ∀ (p : PortId) (b : Lane),
        let T := h.bd.before.getD h.tables
        let g := T.gateHold p
        let x := h.ulc.gates[p][b]
        t.hub.ulc.gates[p][b] =
          if h.lvm.ports[p].loop.isRunning = false ∧ h.lvm.ports[p].cleared = false
              ∧ h.frame[p].combining = true ∧ h.dlc.combining[p] = true then
            if T.gateLevel p b ≤ t.hub.lvm.ports[p].meters[b].last.net then
              { state := .opened, count := g }
            else if x.state = .opened ∧ 0 < g then { state := .holding, count := x.count }
            else if x.state = .holding ∧ 2 ≤ x.count then { state := .holding, count := x.count - 1 }
            else { state := .closed, count := 0 }
          else x)
  ∧ ∀ s : State,
    let h := s.hub.openBoundary
    let joins := fun p : PortId =>
      decide (h.frame[p].link = .up) && h.isUp p && !h.dlc.combining[p]
    (h.bd.joinDone = true → exec (.frameBoundary .combiningJoin) s = .next { s with hub := h })
    ∧ (h.bd.joinDone = false → exec (.frameBoundary .combiningJoin) s = .next { s with hub := { h with
        bd := { h.bd with joinDone := true }
        dlc := { h.dlc with combining := tab fun p => h.dlc.combining[p] || joins p }
        ulc := { h.ulc with
          gates := tab fun p =>
            if joins p then tab fun b =>
              if h.tables.gateLevel p b = 0 then { state := .opened, count := h.tables.gateHold p }
              else { state := .closed, count := 0 }
            else h.ulc.gates[p] } } })

/-- PLM's update of the ended frame: P, its class, L by attack or recovery, the hold count, the attack counter and the
port's clean count, once at a boundary (R56 to R61, R63). In HOLD mode the restoration that falls due is
HOLD_RESTORE's. Of a port whose limiter was cleared at this boundary the update changes nothing (R65, R66), and once
taken it changes nothing more at the boundary (that it may come again is the model's choice, log entry 3). -/
def Obligations.LimiterFollowsTheEndedFrame : Prop :=
  (∀ s : State, s.hub.openBoundary.bd.limiterDone = true →
    exec (.frameBoundary .limiterUpdate) s = .next { s with hub := s.hub.openBoundary })
  ∧ ∀ (p : PortId) (b : Lane) (s : State),
    let h := s.hub.openBoundary
    let l := h.plm[p].lanes[b]
    let power := l.powerSum / 256
    let ceiling := h.tables.ceiling p b
    let mode := h.tables.limiterMode p
    h.bd.limiterDone = false → h.plm[p].cleared = false →
    ∃ t, exec (.frameBoundary .limiterUpdate) s = .next t ∧ t.pending = s.pending
      ∧ (let l' := t.hub.plm[p].lanes[b]
         l'.powerSum = 0 ∧ l'.power = power
         ∧ (if ceiling < levelCode power then
              l'.cls = .excess ∧ l'.factor = max 512 (l.factor - (l.factor + 7) / 8) ∧ l'.hold = 0
              ∧ l'.attack = min (l.attack + 1) (2 ^ 32 - 1)
            else if ceiling < levelCode power + 2 then
              l'.cls = .between ∧ l'.factor = l.factor ∧ l'.hold = l.hold ∧ l'.attack = l.attack
            else
              l'.cls = .clean ∧ l'.attack = l.attack
              ∧ l'.factor = (match mode with
                | .next => 4096
                | .step => min 4096 (l.factor + h.tables.releaseStep p)
                | .hold => l.factor)
              ∧ l'.hold = (if mode = .hold then if l.factor < 4096 then min (l.hold + 1) 255 else 0
                else l.hold))
         ∧ l'.restoreDue = (if levelCode power + 2 ≤ ceiling ∧ mode = .hold ∧ l.factor < 4096 then
             decide (h.tables.holdFrames p ≤ l.hold + 1) else l.restoreDue))
      ∧ t.hub.plm[p].flag = h.plm[p].flag
      ∧ t.hub.plm[p].clean =
          (if ∃ x : Lane, h.tables.ceiling p x < levelCode (h.plm[p].lanes[x].powerSum / 256) then 0
          else min (h.plm[p].clean + 1) 16)
      ∧ (∀ q : PortId, h.plm[q].cleared = true → t.hub.plm[q] = h.plm[q])
      ∧ t.hub = { h with plm := t.hub.plm, bd := { h.bd with limiterDone := true } }

/-- The overdrive count of R62: one more, up to 16, for a frame formed at L = 512 and classed EXCESS, else 0; a
lane at 4096 needs 16 EXCESS frames to reach the floor, and its sixteenth is formed at 551. -/
def Obligations.OverdriveCountsFramesAtTheFloor : Prop :=
  (∀ (p : PortId) (b : Lane) (s : State),
    let h := s.hub.openBoundary
    let l := h.plm[p].lanes[b]
    h.bd.limiterDone = false → h.plm[p].cleared = false →
    ∃ t, exec (.frameBoundary .limiterUpdate) s = .next t
      ∧ t.hub.plm[p].lanes[b].overdrive =
        if l.factor = 512 ∧ t.hub.plm[p].lanes[b].cls = .excess then min (l.overdrive + 1) 16 else 0)
  ∧ attackFactor^[15] 4096 = 551 ∧ attackFactor^[16] 4096 = 512
  ∧ (∀ n < 16, attackFactor^[n] 4096 ≠ 512) ∧ ∀ n, attackFactor^[16 + n] 4096 = 512

/-- HOLD_RESTORE returns L to 4096 and the hold count to 0 once the count has reached the hold frames (R60). The
overdrive flag goes to PRESENT when a lane's overdrive count is 16, and to CLEAR when the clean count is (R63), and
FSV's condition follows, by the mode of its class, with the wake and the ending of a move that a detection brings
(R126, R131, R142, R146 to R148), unless a RESTART is due at this boundary, which lets nothing be handed on (R65);
PLM's other state and the other ports' stand. That a port whose entry into QUIET is due counts as QUIET is DEDUCED
(log entry 21). That an IDLE record keeps a running settle time where it goes to ACTIVE is the model's choice (log
entry 51). -/
def Obligations.HoldRestoreAndOverdriveFlag : Prop :=
  (∀ (p : PortId) (b : Lane) (s : State),
    let h := s.hub.openBoundary
    h.bd.limiterDone = true → h.plm[p].lanes[b].restoreDue = true →
    exec (.holdRestore p b) s = .next { s with hub := { h with
      plm := upd h.plm p fun m => { m with
        lanes := upd m.lanes b fun l => { l with factor := 4096, hold := 0, restoreDue := false } } } })
  ∧ ∀ (p : PortId) (s : State),
    let h := s.hub.openBoundary
    let key := FaultKey.port p .dlOverdrive
    let restarts := h.mga.busy = some .restart ∧ h.mga.busyRipe = true
    h.bd.limiterDone = true →
    (h.plm[p].flag = false → (∃ b : Lane, h.plm[p].lanes[b].overdrive = 16) →
      ∃ t, exec (.dlOverdrivePresent p) s = .next t ∧ t.pending = s.pending
        ∧ t.hub.plm = upd h.plm p (fun m => { m with flag := true })
        ∧ (¬ restarts → h.presents t.hub p .dlOverdrive ∧ t.hub.fsv.detectors = h.fsv.detectors)
        ∧ (restarts → t.hub = { h with plm := t.hub.plm })
        ∧ t.hub = { h with plm := t.hub.plm, fsv := t.hub.fsv, sbl := t.hub.sbl, mga := t.hub.mga })
    ∧ (h.plm[p].flag = true → h.plm[p].clean = 16 →
      ∃ t, exec (.dlOverdriveClear p) s = .next t ∧ t.pending = s.pending
        ∧ t.hub.plm = upd h.plm p (fun m => { m with flag := false })
        ∧ (∀ k : FaultKey, t.hub.faultRecord k =
            if k = key ∧ ¬ restarts then (h.faultRecord key).cleared else h.faultRecord k)
        ∧ h.fsv.written t.hub.fsv
            (if restarts then [] else (h.faultRecord key).clearEntries key h.mga.seconds)
        ∧ t.hub.fsv.detectors = h.fsv.detectors
        ∧ t.hub = { h with plm := t.hub.plm, fsv := t.hub.fsv })

/-! ## Cells and table loading (Chapters 10 and 11) -/

/-- What MGA does with the cell handed on at the boundary, by its type: IDLE nothing; REQUEST joins the queue of
at most 4 or is an overrun, and a LOAD_END that joins closes an OPEN load; RESPONSE and undefined types are
counted (R163, R169, R179). Where the silence count of the load reaches 16,000 at the boundary at which its LOAD_END
joins, the load ends as TIMEOUT (R164; the order of the rise is the model's choice, log entry 41). That a LOAD_END of
wrong length closes the load as well is the model's choice (log entry 52). -/
def Obligations.CellsActByTheirType : Prop :=
  ∀ (c : Cell) (s : State),
    let h := s.hub.openBoundary
    let mga := { h.mga with cell := none }
    h.mga.cell = some c →
    (c.type = 0 → exec .idleCell s = .next { s with hub := { h with mga := mga } })
    ∧ (c.type = 2 ∨ 5 ≤ c.type.toNat →
      exec .responseCell s = .next { s with hub := { h with
        mga := { mga with unexpected := min (h.mga.unexpected + 1) (2 ^ 32 - 1) } } })
    ∧ (c.type = 1 → 4 ≤ h.mga.requests.length →
      exec .requestCell s = .next { s with hub := { h with
        mga := { mga.raised .overrun with overrun := min (h.mga.overrun + 1) (2 ^ 32 - 1) } } })
    ∧ (c.type = 1 → h.mga.requests.length < 4 →
      let joined := { mga with requests := h.mga.requests ++ [c] }
      (byteAt c.payload 0 ≠ 5 ∨ h.tld.phase ≠ .opened →
        exec .requestCell s = .next { s with hub := { h with mga := joined } })
      ∧ (byteAt c.payload 0 = 5 → h.tld.phase = .opened → h.tld.silence < 16000 →
        exec .requestCell s = .next { s with hub := { h with
          mga := joined, tld := { h.tld with phase := .closing } } })
      ∧ (byteAt c.payload 0 = 5 → h.tld.phase = .opened → 16000 ≤ h.tld.silence →
        exec .requestCell s = .next { s with hub := { h with
          mga := joined.raised .load
          tld := { h.tld with
            phase := .none, image := []
            last := some { table := h.tld.table, outcome := .timeout, stamp := h.mga.seconds } } } }))

/-- DATA and CHECK cells by phase: a stray, a late cell, 12 bytes of the open burst with the tag's sequence
checked, or the end of the open burst with its CRC compared (R161, R162). -/
def Obligations.DataAndCheckCellsFillTheImage : Prop :=
  ∀ (c : Cell) (s : State),
    let h := s.hub.openBoundary
    let d := h.tld
    let late := { d with firstError := d.firstError.or (some (d.burstsClosed + 1, .lateCell)) }
    let stray := { d with stray := min (d.stray + 1) (2 ^ 32 - 1) }
    h.mga.cell = some c →
    (c.type = 3 → exec .dataCell s = .next { s with hub := { h with
      mga := { h.mga with cell := none }
      tld := match d.phase with
        | .none => stray
        | .closing => late
        | .opened => { d with
            silence := 0
            firstError := if c.tag = d.expectedTag then d.firstError
              else d.firstError.or (some (d.burstsClosed + 1, .sequence))
            expectedTag := c.tag + 1
            burstCrc := c.payload.foldl crcByte d.burstCrc
            burstCells := min (d.burstCells + 1) 255
            image := d.image ++ c.payload.take (d.declared - d.image.length)
            received := min (d.received + 12) 3060 } } })
    ∧ (c.type = 4 → exec .checkCell s = .next { s with hub := { h with
      mga := { h.mga with cell := none }
      tld := match d.phase with
        | .none => stray
        | .closing => late
        | .opened => { d with
            silence := 0
            firstError := if word16At c.payload 0 = d.burstCrc.toNat then d.firstError
              else d.firstError.or (some (d.burstsClosed + 1, .crcMismatch))
            burstsClosed := min (d.burstsClosed + 1) 255
            burstCells := 0
            burstCrc := 0x5A3C } } })

/-- LOAD_BEGIN: an unknown table, a load under way, a wrong length, or the load opens with every count of the
load cleared; a refusal changes nothing else (R160). -/
def Obligations.LoadBeginOpensALoad : Prop :=
  ∀ (c : Cell) (rest : List Cell) (s : State),
    let h := s.hub
    let refused := fun why : Byte => Host.Outcome.next (σ := State) (φ := Fault) (ρ := Refusal) { s with
      hub := { h with mga := h.mga.answered rest (badResponse c.tag .refused why []) } }
    h.offersKind c rest .loadBegin →
    (5 ≤ c.arg 0 → exec .loadBegin s = refused 1)
    ∧ ∀ id : TableId, c.arg 0 = id.code.toNat →
      (h.tld.phase ≠ .none → exec .loadBegin s = refused 4)
      ∧ (h.tld.phase = .none → c.arg16 1 ≠ id.size → exec .loadBegin s = refused 8)
      ∧ (h.tld.phase = .none → c.arg16 1 = id.size →
        exec .loadBegin s = .next { s with hub := { h with
          mga := h.mga.answered rest (okResponse c.tag [])
          tld := { h.tld with
            phase := .opened, table := id, declared := id.size, image := [], received := 0
            expectedTag := 0, burstsClosed := 0, burstCells := 0, burstCrc := 0x5A3C
            firstError := none, silence := 0 } } })

/-- LOAD_END ends an open load by the first case of R163 that applies, with its outcome on record, its image
scheduled or discarded, LOAD raised and its response queued; with no load it is refused (R163, R29, R30). The own
checks of R29: an image passes when each of its records does, and else the failure named is that of the lowest
record that fails, by the first of its checks that fails. -/
def Obligations.LoadEndJudgesTheLoad : Prop :=
  (∀ (c : Cell) (rest : List Cell) (s : State),
    let h := s.hub
    let d := h.tld
    let own := ownCheck d.table d.image
    let cross := crossCheck (d.tables.put d.table d.image)
    h.offersKind c rest .loadEnd →
    (d.phase = .none →
      exec .loadEnd s = .next { s with hub := { h with
        mga := h.mga.answered rest (badResponse c.tag .refused 1 d.lastFields) } })
    ∧ (d.phase ≠ .none → ∀ (o : LoadOutcome) (why : Option Byte),
      (o, why) = (match d.firstError with
        | some (burst, kind) => (LoadOutcome.failed burst kind, some 1)
        | none =>
          if d.received < d.declared then (.length d.received, some 8)
          else if 0 < d.burstCells then (.unchecked (d.burstsClosed + 1), some 1)
          else match own, h.inService, cross with
            | some (check, idx), _, _ => (.rejected check idx, some 1)
            | none, true, some (check, idx) => (.rejected check idx, some 7)
            | none, _, _ => (.scheduled, none)) →
      let report := b1 o.code ++ o.detail d.table ++ b2 d.received ++ b1 d.burstsClosed
        ++ b2 (d.received - d.declared)
      let r := match why with
        | none => okResponse c.tag report
        | some w => badResponse c.tag .refused w report
      exec .loadEnd s = .next { s with hub := { h with
        mga := (h.mga.answered rest r).raised .load
        tld := { d with
          phase := .none, image := []
          last := some { table := d.table, outcome := o, stamp := h.mga.seconds }
          scheduled := if o = .scheduled then some (d.table, d.image) else d.scheduled
          scheduledRipe := if o = .scheduled then false else d.scheduledRipe } } }))
  ∧ (∀ (id : TableId) (m : List Byte), ownCheck id m = none ↔ ∀ n < id.records, recordPasses id m n)
  ∧ ∀ (id : TableId) (m : List Byte) (check : CheckName) (n : Nat),
    ownCheck id m = some (check, n) ↔
      n < id.records ∧ (∀ k < n, recordPasses id m k)
      ∧ ∃ (before after : List (CheckName × Prop)) (rule : Prop),
        ownRules id m n = before ++ (check, rule) :: after ∧ ¬ rule ∧ ∀ r ∈ before, r.2

/-- LOAD_ABORT and LOAD_TIMEOUT end a load without LOAD_END: image discarded, outcome on record, LOAD raised
(R164). -/
def Obligations.LoadsEndWithoutLoadEnd : Prop :=
  (∀ (c : Cell) (rest : List Cell) (s : State),
    let h := s.hub
    h.offersKind c rest .loadAbort →
    (h.tld.phase = .none →
      exec .loadAbort s = .next { s with hub := { h with
        mga := h.mga.answered rest (badResponse c.tag .refused 1 []) } })
    ∧ (h.tld.phase ≠ .none →
      exec .loadAbort s = .next { s with hub := { h with
        mga := (h.mga.answered rest (okResponse c.tag [])).raised .load
        tld := { h.tld with
          phase := .none, image := []
          last := some { table := h.tld.table, outcome := .abandoned .request
                         stamp := h.mga.seconds } } } }))
  ∧ ∀ s : State,
    let h := s.hub.openBoundary
    h.tld.phase = .opened → 16000 ≤ h.tld.silence →
    exec .loadTimeout s = .next { s with hub := { h with
      mga := h.mga.raised .load
      tld := { h.tld with
        phase := .none, image := []
        last := some { table := h.tld.table, outcome := .timeout, stamp := h.mga.seconds } } } }

/-- A scheduled image replaces the active image of its table whole at its boundary, sets the loaded indication and
raises LOAD (R31, R165), with these effects and no others; what acts at a window end, a balance interval or a second
mark keeps the old tables for this boundary (R31). SITE: a changed window code drops the windows and restarts the
count (R95, R105, R107), a changed balance or poll interval restarts its count (R35). CARRIER: the runtime states
follow (R34, R37), by a hold flag whose effect is still due too (the model's choice, log entry 46). RESPONSE: each
record is carried over, and an action that enters marks the move (R36). SECTOR and PORT in SERVICE: the membership is
rebuilt, moves end and are logged, and QUIET ports wake (R32). PORT: each port starts, ends, keeps its state but for
changed recovery counters, or is untouched (R33, R64, R108, R149). What the boundary has decided of a port before
(`nothingDue` rules it out), an exit by its eighth bad marker too (R5), is done first (DEDUCED, log entry 44); an
interval that this boundary's second mark left due stays due. DEDUCED as well: the retry count and timer kept where
COOLING goes to LATCHED (log entry 17), the cleared alignment counts of a disabled port (log entry 22), the byte 0 of
an aborted test's response (log entry 25), and that a port whose entry into QUIET is due counts as QUIET (log entry
21). The model's choices: the cause TABLE and the restoration left due (log entry 16), the advice stamp is kept (log
entry 12), and so are origin, taken, minimum and elapsed of an ended measurement (log entry 42). What ends with a port
is answered, TIMEOUT (R18, R19, R107), and its transaction abandoned (R156); a RAU_NO_REPLY record that is emptied
lifts the identify hold (R149, R155); the history stands (R149). -/
def Obligations.ActivationInstallsTheImage : Prop :=
  ∀ (id : TableId) (img : List Byte) (s : State),
    let h := s.hub.openBoundary
    let old := h.tables
    let new := h.tables.put id img
    h.tld.scheduled = some (id, img) → h.tld.scheduledRipe = true →
    ∃ t, exec .tableActivation s = .next t ∧ t.pending = s.pending
      ∧ t.hub.tld = { h.tld with
          tables := new
          carrierLoaded := h.tld.carrierLoaded || decide (id = TableId.carrier)
          sectorLoaded := h.tld.sectorLoaded || decide (id = TableId.sector)
          portLoaded := h.tld.portLoaded || decide (id = TableId.port)
          scheduled := none, scheduledRipe := false
          last := some { table := id, outcome := .activated, stamp := h.mga.seconds } }
      ∧ t.hub.mga.marks[Notice.load.idx] = true
      ∧ (id = .site →
          let anew := old.windowCode ≠ new.windowCode
          let poll := old.pollInterval ≠ new.pollInterval
          let ended := fun p : PortId => anew ∧ h.lvm.ports[p].loop.isRunning = true
          t.hub = { h with
            tld := t.hub.tld
            mga := { h.mga.raised .load with
              responses := h.mga.responses ++ (List.finRange 24).filterMap fun p =>
                match h.lvm.ports[p].loop with
                | .running tag => if anew then some (badResponse tag .timeout 0 [0]) else none
                | _ => none
              busy := if ∃ p, ended p then none else h.mga.busy
              busyRipe := if ∃ p, ended p then false else h.mga.busyRipe }
            lvm := if anew then { windowCount := 0, windowNumber := 0, ports := tab fun p =>
                { h.lvm.ports[p] with
                  void := false
                  loop := match h.lvm.ports[p].loop with
                    | .pending tag => .running tag
                    | _ => .none
                  meters := mapTab (fun x => { x with acc := 0, held := 0 }) h.lvm.ports[p].meters } }
              else h.lvm
            sbl := { h.sbl with
              intervalCount := if old.interval ≠ new.interval then 0 else h.sbl.intervalCount }
            cte := { h.cte with pollCount := if poll then 0 else h.cte.pollCount }
            bd := { h.bd with before := some old } })
      ∧ (id = .carrier → t.hub = { h with
          tld := t.hub.tld, mga := h.mga.raised .load, bd := { h.bd with before := some old }
          dlc := { h.dlc with
            carriers := tab fun k : CarrierId =>
              if new.carrierOn k = false then .absent
              else if h.lnk.donor[carrierDonor k].state ≠ .up then .lost
              else if h.dlc.holds[new.operator k] then .held else .active } })
      ∧ (id = .response →
          (∀ k : FaultKey, t.hub.faultRecord k =
            match new.responseMode k.row, (h.faultRecord k).state with
            | .ignore, _ => { h.faultRecord k with state := .idle, retries := 0, timer := 0 }
            | .latched, .cooling => { h.faultRecord k with state := .latched }
            | .report, .cooling => { h.faultRecord k with state := .latched }
            | _, _ => h.faultRecord k)
          ∧ t.hub = { h with
              tld := t.hub.tld, mga := h.mga.raised .load, bd := { h.bd with before := some old }
              fsv := { h.fsv with
                portRecords := t.hub.fsv.portRecords, donorRecords := t.hub.fsv.donorRecords }
              cte := { h.cte with
                ports := tab fun p =>
                  if (h.faultRecord (.port p .rauNoReply)).state ≠ .idle
                      ∧ (t.hub.faultRecord (.port p .rauNoReply)).state = .idle then
                    { h.cte.ports[p] with
                      hold := false, nextAttempt := 1
                      pending := h.cte.ports[p].pending || (h.linkOf p).aligned }
                  else h.cte.ports[p] }
              sbl := { h.sbl with
                flight := h.sbl.flight.map fun m =>
                  let q := m.entry.port
                  if m.ending = none
                      ∧ ((t.hub.actions q).mute = true ∧ (h.actions q).mute = false
                        ∨ (t.hub.actions q).isolate = true ∧ (h.actions q).isolate = false) then
                    { m with ending := some .action }
                  else m } })
      ∧ (id = .sector → h.inService = false →
          t.hub = { h with
            tld := t.hub.tld, mga := h.mga.raised .load, bd := { h.bd with before := some old } })
      ∧ (id = .sector → t.hub = { h with
          tld := t.hub.tld, sbl := t.hub.sbl, mga := { h.mga with marks := t.hub.mga.marks }
          bd := t.hub.bd })
      ∧ ((id = .sector ∨ id = .port) → h.inService = true →
          let ends : List (MoveEntry × MoveOutcome) :=
            (match h.sbl.flight with
              | some m => [(m.entry, .abandonedActivation)]
              | none => [])
            ++ h.sbl.queue.map fun e => (e, .cancelledActivation)
          t.hub.sbl = { h.sbl with
            ports := t.hub.sbl.ports, flight := none, queue := [], advice := []
            log := t.hub.sbl.log, logSequence := h.sbl.logSequence + BitVec.ofNat 32 ends.length }
          ∧ (h.sbl.log.length ≤ 16 →
            t.hub.sbl.log = logged h.sbl.log h.sbl.logSequence h.mga.seconds ends)
          ∧ (id = .sector → h.mga.marked t.hub.mga fun n => n = .load ∨ n = .move ∧ ends ≠ []
              ∨ n = .quiet ∧ ∃ p : PortId, h.isQuiet p = true ∧ (new.portOn p = false ∨ new.quietOn p = false))
          ∧ (ends ≠ [] → t.hub.mga.marks[Notice.move.idx] = true)
          ∧ t.hub.bd = { h.bd with
              before := some old
              rampDue := if h.sbl.flight = none then h.bd.rampDue else false
              abandonDue := if h.sbl.flight = none then h.bd.abandonDue else false }
          ∧ ∀ p : PortId,
            let b := t.hub.sbl.ports[p]
            b.assign = (if new.portOn p then .one (new.home p) else .none)
            ∧ b.holdOff = 0 ∧ b.returns = 0 ∧ b.quietCount = 0
            ∧ (h.isQuiet p = false → b.wakeCause = h.sbl.ports[p].wakeCause)
            ∧ (new.portOn p = true → new.quietOn p = true → id = .sector ∨ old.portOn p = true →
              b.quiet = h.sbl.ports[p].quiet ∧ b.quietDue = h.sbl.ports[p].quietDue
              ∧ b.wakeCause = h.sbl.ports[p].wakeCause)
            ∧ (new.portOn p = false ∨ new.quietOn p = false →
              t.hub.isQuiet p = false
              ∧ (h.isQuiet p = true → b.wakeCause = .table ∧ t.hub.mga.marks[Notice.quiet.idx] = true)))
      ∧ (id = .port →
          t.hub.lnk = { h.lnk with remote := t.hub.lnk.remote }
          ∧ t.hub.dlc = { h.dlc with combining := t.hub.dlc.combining }
          ∧ t.hub.deq = { h.deq with ports := t.hub.deq.ports }
          ∧ t.hub.ulc = { h.ulc with gates := t.hub.ulc.gates }
          ∧ t.hub.lvm = { h.lvm with ports := t.hub.lvm.ports }
          ∧ t.hub.fsv.donorRecords = h.fsv.donorRecords
          ∧ t.hub.mga.requests = h.mga.requests ∧ t.hub.frame = h.frame
          ∧ (h.answersBounded → (∀ p : PortId, old.portOn p ≠ new.portOn p → h.nothingDue p) →
            let ends := fun p : PortId => old.portOn p && !new.portOn p && (h.linkOf p).aligned
            let answers := (List.finRange 24).flatMap fun p => if ends p then h.exitAnswers p else []
            t.hub.mga = { h.mga with
              responses := h.mga.responses ++ answers
              busy := if answers = [] then h.mga.busy else none
              busyRipe := if answers = [] then h.mga.busyRipe else false
              marks := t.hub.mga.marks }
            ∧ h.mga.marked t.hub.mga (fun n => n = .load
              ∨ n = .link ∧ (∃ p : PortId, ends p = true ∧ h.isUp p = true)
              ∨ n = .move ∧ h.inService = true ∧ (h.sbl.flight ≠ none ∨ h.sbl.queue ≠ [])
              ∨ n = .quiet ∧ ∃ p : PortId, h.isQuiet p = true
                ∧ (h.inService = true ∧ (new.portOn p = false ∨ new.quietOn p = false)
                  ∨ ends p = true ∧ h.isUp p = true))
            ∧ t.hub.fsv = { h.fsv with
              portRecords := t.hub.fsv.portRecords, detectors := t.hub.fsv.detectors }
            ∧ t.hub.cte = { h.cte with
              ports := t.hub.cte.ports, transaction := h.cte.transaction.filter fun x => !ends x.port })
          ∧ (h.inService = false → (∀ p : PortId, t.hub.assignOf p = h.assignOf p)
            ∧ t.hub.sbl = { h.sbl with ports := t.hub.sbl.ports, flight := t.hub.sbl.flight }
            ∧ (h.sbl.flight = none → t.hub.sbl.flight = none)
            ∧ (∀ p : PortId, (h.isQuiet p = false → t.hub.sbl.ports[p].wakeCause = h.sbl.ports[p].wakeCause)
              ∧ (old.portOn p = new.portOn p → t.hub.sbl.ports[p] = h.sbl.ports[p]))
            ∧ t.hub.bd = { h.bd with before := some old })
          ∧ ∀ p : PortId,
            let v := t.hub.lvm.ports[p]
            let cleared :=
              t.hub.plm[p] = { PortLimiter.init with
                cleared := true
                lanes := tab fun b => { LaneLimiter.init 0 with attack := h.plm[p].lanes[b].attack } }
              ∧ t.hub.ulc.gates[p] = .replicate 4 Gate.closed
              ∧ v.meters = .replicate 4 Meter.init ∧ v.activity = 0 ∧ v.smoothed = 0 ∧ v.cleared = true
              ∧ t.hub.fsv.detectors[p] = Detectors.init ∧ t.hub.actions p = ActionSet.empty
              ∧ t.hub.sbl.ports[p].holdOff = 0 ∧ t.hub.sbl.ports[p].returns = 0
              ∧ t.hub.sbl.ports[p].quietCount = 0 ∧ t.hub.isQuiet p = false
            (old.portOn p = false → new.portOn p = true → h.linkOf p = .disabled →
              cleared ∧ v.loop = .none
              ∧ t.hub.lnk.remote[p] = { h.lnk.remote[p] with
                  mask := 0, rtRange := false
                  meas := { h.lnk.remote[p].meas with running := false }
                  core := { h.lnk.remote[p].core with
                    state := if h.lnk.remote[p].core.signal then .hunt else .down
                    good := 0, bad := 0, cand := none, last := none } }
              ∧ t.hub.deq.ports[p] = { h.deq.ports[p] with downLine := zeroLine, upLine := zeroLine }
              ∧ t.hub.dlc.combining[p] = h.dlc.combining[p]
              ∧ (∀ k : PortClass, t.hub.faultRecord (.port p k) = FaultRecord.init)
              ∧ t.hub.cte.ports[p] = { h.cte.ports[p] with
                  hold := false, nextAttempt := 1, misses := 0, identify := none, status := none })
            ∧ (old.portOn p = true → new.portOn p = false →
              cleared ∧ t.hub.linkOf p = .disabled ∧ t.hub.lnk.remote[p].rtRange = false
              ∧ t.hub.deq.ports[p] = h.deq.ports[p]
              ∧ (let lost := (h.linkOf p).aligned = true ∧ 8 ≤ h.lnk.remote[p].core.bad
                 let loss := FaultKey.port p .linkLoss
                 t.hub.lnk.remote[p].core.drops =
                    (if lost then min (h.lnk.remote[p].core.drops + 1) (2 ^ 32 - 1)
                    else h.lnk.remote[p].core.drops)
                 ∧ (h.cte.ports[p].field = none → (t.hub.faultRecord loss).occurrences =
                    if lost then ((h.faultRecord loss).presented new loss.row).occurrences
                    else (h.faultRecord loss).occurrences))
              ∧ ((h.linkOf p).aligned = true →
                t.hub.lnk.remote[p].mask = 0 ∧ t.hub.lnk.remote[p].meas.running = false
                ∧ t.hub.dlc.combining[p] = false ∧ t.hub.cte.ports[p].pending = false
                ∧ ∀ x : Transaction, t.hub.cte.transaction = some x → x.port ≠ p)
              ∧ (h.isUp p = true → v.loop = .none ∧ t.hub.mga.marks[Notice.link.idx] = true
                ∧ ∀ tag : Byte, h.lvm.ports[p].loop = .pending tag ∨ h.lvm.ports[p].loop = .running tag →
                  badResponse tag .timeout 0 [0] ∈ t.hub.mga.responses ∧ t.hub.mga.busy = none)
              ∧ (∀ k : PortClass, (t.hub.faultRecord (.port p k)).state = .idle
                ∧ (t.hub.faultRecord (.port p k)).present = false
                ∧ (t.hub.faultRecord (.port p k)).retries = 0
                ∧ (t.hub.faultRecord (.port p k)).timer = 0)
              ∧ (h.nothingDue p →
                (let r := h.lnk.remote[p]
                 let exits := (h.linkOf p).aligned
                 t.hub.lnk.remote[p] = { r with
                  mask := if exits then 0 else r.mask
                  rtRange := false
                  meas := { r.meas with running := r.meas.running && !exits }
                  core := { r.core with state := .disabled, good := 0, bad := 0, cand := none, last := none } }
                 ∧ t.hub.cte.ports[p] =
                  (let c := h.cte.ports[p]
                   let c := if exits then { c with pending := false, misses := 0 } else c
                   if (h.faultRecord (.port p .rauNoReply)).state = .idle then c
                   else { c with hold := false, nextAttempt := 1 }))
                ∧ ∀ k : PortClass, (t.hub.faultRecord (.port p k)).occurrences =
                  (h.faultRecord (.port p k)).occurrences))
            ∧ (old.portOn p = new.portOn p →
              t.hub.lnk.remote[p] = h.lnk.remote[p] ∧ t.hub.dlc.combining[p] = h.dlc.combining[p]
              ∧ t.hub.deq.ports[p] = h.deq.ports[p] ∧ t.hub.ulc.gates[p] = h.ulc.gates[p]
              ∧ v = h.lvm.ports[p] ∧ t.hub.fsv.detectors[p] = h.fsv.detectors[p]
              ∧ (∀ k : PortClass, t.hub.faultRecord (.port p k) = h.faultRecord (.port p k))
              ∧ t.hub.cte.ports[p] = h.cte.ports[p]
              ∧ t.hub.plm[p] = { h.plm[p] with
                  lanes := tab fun b =>
                    if old.portOn p = true ∧ (old.limiterCode p ≠ new.limiterCode p
                        ∨ old.ceiling p b ≠ new.ceiling p b) then
                      { h.plm[p].lanes[b] with hold := 0 }
                    else h.plm[p].lanes[b] }))

/-! ## The hub's own requests (Chapter 11) -/

/-- A request is taken from the head only when the agent is free and the response queue has room; then an unknown kind
is answered BAD_REQUEST and a wrong length REFUSED with BAD_LENGTH, with no other effect (R170, R179). That the
command of a request may come where none can be taken, and then changes nothing, is the model's choice (log entry 3).
That a LOAD_END of wrong length so leaves the phase CLOSING is the model's choice (log entry 52). -/
def Obligations.RequestsAreTakenAndJudged : Prop :=
  (∀ (c : Instr) (s : State), c.isRequest = true →
    s.hub.mga.requests = [] ∨ s.hub.mga.busy ≠ none ∨ 8 ≤ s.hub.mga.responses.length →
    exec c s = .next s)
  ∧ (∀ (c : Cell) (rest : List Cell) (s : State), s.hub.offers c rest →
    byteAt c.payload 0 = 0 ∨ 20 ≤ byteAt c.payload 0 →
    exec .unknownRequest s = .next { s with hub := { s.hub with
      mga := s.hub.mga.answered rest (badResponse c.tag .badRequest 0 []) } })
  ∧ ∀ (k : ReqKind) (c : Cell) (rest : List Cell) (s : State), s.hub.offers c rest →
    byteAt c.payload 0 = k.code → c.length.toNat ≠ k.length → k ≠ .read →
    exec (requestCommand k) s = .next { s with hub := { s.hub with
      mga := s.hub.mga.answered rest (badResponse c.tag .refused 8 []) } }

/-- HELLO returns the identification record; TABLE_READ returns up to 12 bytes of an active image or is refused;
neither changes anything else (R172, R181). The serial and the revision are Config's (log entry 8). That bits 3..1 of
byte 3 are 0 is the model's choice (log entry 53). -/
def Obligations.HelloAndTableReadAnswer : Prop :=
  (∀ (c : Cell) (rest : List Cell) (s : State), s.hub.offersKind c rest .hello →
    exec .hello s = .next { s with hub := { s.hub with
      mga := s.hub.mga.answered rest (okResponse c.tag
        ([0x3C, 0x74, 0x24,
          BitVec.ofNat 8 (16 * Config.revision.toNat) ||| (if s.hub.inService then 1 else 0)]
          ++ toBytes 4 Config.deviceSerial.toNat ++ toBytes 4 s.hub.mga.seconds)) } })
  ∧ ∀ (c : Cell) (rest : List Cell) (s : State), s.hub.offersKind c rest .tableRead →
    (5 ≤ c.arg 0 → exec .tableRead s = .next { s with hub := { s.hub with
      mga := s.hub.mga.answered rest (badResponse c.tag .refused 1 []) } })
    ∧ ∀ id : TableId, c.arg 0 = id.code.toNat →
      exec .tableRead s = .next { s with hub := { s.hub with
        mga := s.hub.mga.answered rest
          (if id.size ≤ c.arg16 1 then badResponse c.tag .refused 1 []
          else okResponse c.tag (((s.hub.tables.get id).drop (c.arg16 1)).take 12)) } }

/-- Each READ (all sixteen, `readPortStatus` to `readQuietSummary`) answers one part, of up to 12 bytes, of the record
of its object and has the side effects its rule gives and no other: the notice cleared (R174), the oldest history
entry removed (R148), the extremes emptied on the reset option (R99). A wrong length is refused with BAD_LENGTH
(R170), and an undefined object, an index, part or option out of range with BAD_ARGUMENT (R172); neither has any
effect. The sixteen records have their bytes as R181 and R182 lay them out from the fields of their rules; METER, for
one, is 68 bytes long, so part 6 of it is refused. The model's choices: that the used field counts the record bytes of
the part, the set of donors in FAULTS, the order of the loaded indications in LOAD_STATUS, that of the kinds of link
in LINK_SUMMARY and the other layouts that R181 leaves open (log entry 26), and that each of the sixteen commands
takes a READ of an undefined object (log entry 27). The detail codes of the move log (log entry 39) and the QUIET of a
due entry (log entry 21) are DEDUCED. -/
def Obligations.ReadsAnswerOnePart : Prop :=
  (∀ h : Hub,
    let t := h.tables
    let state5 := [LinkState.disabled, .down, .hunt, .proving, .up]
    let state3 := [LinkState.down, .hunt, .up]
    let causes := [MoveCause.auto, .returning, .manual]
    let record := fun r : FaultRecord =>
      [codedIn [RecordState.idle, .active, .cooling, .latched] r.state, yesNo r.present, (1, r.occurrences),
       (1, r.retries), (1, r.timer)]
    let summary :=
     [maskOf 4 fun p : PortId => PortClass.all.any fun c => decide ((h.faultRecord (.port p c)).state ≠ .idle),
      maskOf 1 fun d : DonorId => decide ((h.faultRecord (.donor d)).state ≠ .idle)]
    let move := fun e : MoveEntry =>
      [(1, e.port.val), (1, e.source.val), (1, e.target.val), codedIn causes e.cause]
    let counters := fun c : LinkCore => [(4, c.errored), (4, c.slips), (4, c.drops)]
    let details : List (List MoveOutcome) :=
      [[.done],
       [.refusedNotUp, .refusedTargetFull, .refusedSourceMin, .refusedSpread, .refusedAction],
       [.abandonedLink, .abandonedAction, .abandonedCancel, .abandonedActivation, .abandonedReset],
       [.cancelledRequest, .cancelledActivation, .cancelledReset]]
    (∀ p : PortId,
      let r := h.lnk.remote[p]
      let m := r.meas
      let d := h.dlc.records[p]
      let e := h.deq.ports[p]
      let b := h.sbl.ports[p]
      let c := h.cte.ports[p]
      let x := h.cte.transaction.filter fun x => x.port = p
      let sectors : List SectorId := match b.assign with
        | .none => []
        | .one z => [z]
        | .two source target => [source, target]
      h.readRecord .portStatus p.val = layout (
        [(4, r.core.errored), (2, r.erroredSec), (4, r.core.slips), (4, r.core.drops), (2, r.delay), (2, r.lastRT),
         yesNo r.rtRange, yesNo m.running]
        ++ (match m.origin with
          | .entry => (1, 0) :: behindPresence 1 none
          | .request tag => (1, 1) :: behindPresence 1 (some tag.toNat))
        ++ [(1, m.taken), orAllOnes 2 (m.minimum.map Prod.fst),
            orAllOnes 1 (m.minimum.map fun least => if least.2 then 1 else 0), (1, m.elapsed)]
        ++ eachLane (fun l => [yesNo d.combining, (1, d.lanes[l].summands.length),
            (1, d.lanes[l].summands.countP fun y => y.contributing), (2, d.lanes[l].output), (4, h.dlc.clips[p][l])])
        ++ [yesNo d.swap]
        ++ [orAllOnes 1 (e.countedIn.map Fin.val), (2, e.delayTaken), (2, e.comp), yesNo e.compRange, yesNo e.rtTaken,
            yesNo e.range, (4, e.steps)]
        ++ eachLane (fun l =>
            [codedIn [GateState.opened, .holding, .closed] h.ulc.gates[p][l].state, (1, h.ulc.gates[p][l].count),
             (1, t.gateLevel p l), (1, t.gateHold p)]
            ++ listOf ((List.finRange 12).filterMap fun z =>
                h.ulc.records[z][l].contributors.find? fun y => y.port = p) fun y =>
              [codedIn [Reason.none, .link, .frame, .lane, .action, .loop, .gate] y.reason, (2, y.gain)])
        ++ [orAllOnes 1 (sectors[0]?.map Fin.val), orAllOnes 1 (sectors[1]?.map Fin.val),
            orAllOnes 2 (sectors[0]?.map (h.weight p)), orAllOnes 2 (sectors[1]?.map (h.weight p)),
            (1, b.holdOff), (1, b.returns), yesNo (h.isQuiet p), (1, b.quietCount),
            orAllOnes 1 (if h.queued p then some ((h.sbl.queue.map fun q => q.port).idxOf p + 1) else none),
            yesNo (h.ramping p)]
        ++ behindPresence 1 (c.identify.map fun i => i.rauClass.toNat)
        ++ [orAllOnes 1 (c.identify.map fun i => i.mask.toNat)]
        ++ behindPresence 4 (c.identify.map fun i => i.serial.toNat)
        ++ behindPresence 2 (c.status.map fun i => i.alarms.toNat)
        ++ behindPresence 1 (c.status.map fun i => i.temperature.toNat)
        ++ [orAllOnes 1 (c.status.map fun i => i.paOn.toNat)] ++ behindPresence 4 (c.status.map fun i => i.stamp)
        ++ [yesNo c.pending, yesNo c.hold, (1, c.nextAttempt), (1, c.misses), yesNo h.cte.priority[p]]
        ++ [orAllOnes 1 (x.map fun x => x.port.val), orAllOnes 1 (x.map fun x => if x.kind = .identify then 0 else 1),
            orAllOnes 1 (x.map fun x => x.attempt)]
        ++ behindPresence 1 (x.map fun x => x.sequence.toNat) ++ [orAllOnes 2 (x.map fun x => x.remaining)]))
    ∧ (∀ z : SectorId, h.readRecord .sectorStatus z.val = layout (
        [(2, h.deq.sectors[z].target), (1, h.deq.sectors[z].counted), (2, h.deq.sectors[z].least)]
        ++ eachLane (fun l =>
            let r := h.ulc.records[z][l]
            [yesNo r.gated, (1, r.contributors.length), (1, r.contributors.countP fun y => y.reason = .none)]
            ++ listOf r.contributors fun y =>
              [codedIn [Reason.none, .link, .frame, .lane, .action, .loop, .gate] y.reason])
        ++ [(1, h.assignedCount z), (4, h.sbl.sectors[z].lastLoad), yesNo h.sbl.sectors[z].overloaded,
            (1, h.sbl.intervalCount)]))
    ∧ (h.linksLegal → ∀ c : CarrierId, h.readRecord .carrierStatus c.val = layout (
        [codedIn [CarrierState.absent, .active, .lost, .held] h.dlc.carriers[c], (1, (t.operator c).val),
         (1, (t.lane c).val), (1, (t.carrierHome c).val),
         codedIn state3 h.lnk.donor[carrierDonor c].state]
        ++ (List.finRange 6).map (fun o => yesNo h.dlc.holds[o]) ++ [(2, t.upGain c), (4, h.ulc.clips[c])]))
    ∧ (∀ p : PortId,
      let m := h.lvm.ports[p]
      h.readRecord .meter p.val = layout (
        eachLane (fun l =>
          let w := m.meters[l].last
          [(4, w.mean), (1, w.code), (1, w.net), (1, t.offset p l), (1, w.held),
           orAllOnes 6 m.meters[l].lastGood])
        ++ [(2, m.activity), (2, m.smoothed), yesNo m.meters[(0 : Lane)].last.void,
            (1, match m.loop with | .none => 0 | .pending _ => 1 | .running _ => 2),
            (1, t.windowCode), (1, h.lvm.windowCount), (4, h.lvm.windowNumber.toNat)])
      ∧ (h.readRecord .meter p.val).length = 68)
    ∧ (∀ p : PortId, h.readRecord .extremes p.val = layout (eachLane fun l =>
        let e := h.lvm.ports[p].meters[l].extremes
        let some' := fun v : Nat => if e.count = 0 then none else some v
        [orAllOnes 1 (some' e.largest), orAllOnes 1 (some' e.smallest), orAllOnes 4 (some' e.count)]))
    ∧ (∀ p : PortId,
      let m := h.plm[p]
      h.readRecord .dlPower p.val = layout (
        eachLane (fun l => [(6, m.lanes[l].power), (1, levelCode m.lanes[l].power), (1, t.ceiling p l),
          codedIn [FrameClass.excess, .between, .clean] m.lanes[l].cls, (2, h.dlc.records[p].lanes[l].factor),
          (1, m.lanes[l].hold), (1, m.lanes[l].overdrive), (4, m.lanes[l].attack)])
        ++ [codedIn [LimiterMode.next, .step, .hold] (t.limiterMode p), (2, t.releaseStep p), (1, t.holdFrames p),
            yesNo m.flag, (1, m.clean)]))
    ∧ (∀ p : PortId, h.readRecord .faults p.val = layout (
        PortClass.all.flatMap (fun c => record (h.faultRecord (.port p c)))
        ++ [(1, (if (h.actions p).mute then 1 else 0) + (if (h.actions p).isolate then 2 else 0)
              + if (h.actions p).attenuate then 4 else 0)]
        ++ summary))
    ∧ h.readRecord .faults 24 = layout (
        (List.finRange 8).flatMap (fun d => record (h.faultRecord (.donor d))) ++ summary)
    ∧ h.readRecord .faultHistory 0 = layout (
        (match h.fsv.history with
          | [] => [(7, 256 ^ 7 - 1), (1, 0)]
          | e :: rest =>
            (match e.key with
              | .port p c => [(1, p.val), (1, c.idx.val)]
              | .donor d => [(1, 24 + d.val), (1, 8)])
            ++ [codedIn [Transition.detected, .retryExpired, .escalated, .latched, .cleared] e.transition,
                (4, e.stamp), (1, rest.length)])
        ++ [(4, h.fsv.lost)])
    ∧ h.readRecord .moveQueue 0 = layout (listOf h.sbl.queue move
        ++ match h.sbl.flight with
          | some m => move m.entry ++ [(2, m.length), (2, m.step), yesNo m.ending.isSome,
              orAllOnes 1 (m.ending.map fun c => [EndingCause.link, .action, .cancel].idxOf c)]
              ++ behindPresence 4 (some m.stamp)
          | none => [(10, 256 ^ 10 - 1)] ++ behindPresence 4 none)
    ∧ h.readRecord .moveLog 0 = layout (
        listOf h.sbl.log (fun e => (4, e.sequence.toNat) :: move e.entry
          ++ (details.zipIdx.flatMap fun d => if e.outcome ∈ d.1 then
              [(1, d.2), orAllOnes 1 (if d.2 = 0 then none else some (d.1.idxOf e.outcome))] else [])
          ++ [(4, e.stamp)])
        ++ [(4, h.sbl.logSequence.toNat)])
    ∧ h.readRecord .advice 0 = layout (listOf h.sbl.advice move ++ [(4, h.sbl.adviceStamp)])
    ∧ h.readRecord .counters 0 = layout [yesNo h.inService, (4, h.mga.seconds), (4, h.mga.overrun),
        (4, h.mga.unexpected), (4, h.sbl.skips), (4, h.fsv.lost), (4, h.tld.stray)]
    ∧ h.readRecord .notices 0 = layout
        [maskOf 1 fun n : Fin 7 => h.mga.marks[n], maskOf 1 t.attends, (1, h.attention)]
    ∧ (let d := h.tld
       let loads := d.phase ≠ .none
       let here := fun v : Nat => if loads then some v else none
       let error := if loads then d.firstError else none
       h.readRecord .loadStatus 0 = layout (
        [codedIn [Phase.none, .opened, .closing] d.phase, orAllOnes 1 (here d.table.code.toNat),
         orAllOnes 2 (here d.declared), orAllOnes 2 (here d.received)]
        ++ behindPresence 1 (here d.expectedTag.toNat) ++ behindPresence 1 (here d.burstsClosed)
        ++ behindPresence 1 (here d.burstCells)
        ++ [orAllOnes 2 (error.map Prod.fst), orAllOnes 1 (error.map fun e =>
              [LoadErrorKind.sequence, .crcMismatch, .lateCell].idxOf e.2), orAllOnes 2 (here d.silence),
            yesNo d.scheduled.isSome, orAllOnes 1 (d.scheduled.map fun x => x.1.code.toNat)]
        ++ (match d.last with
          | none => [(2, 256 ^ 2 - 1)] ++ behindPresence 4 none
          | some l => (1, l.table.code.toNat) ::
            (match l.outcome with
              | .failed burst kind => [(1, 0), (2, burst),
                  codedIn [LoadErrorKind.sequence, .crcMismatch, .lateCell] kind]
              | .length received => [(1, 1), (2, received)]
              | .unchecked burst => [(1, 2), (2, burst)]
              | .rejected check idx => [(1, 3), (1, check.code.toNat), (1, idx)]
              | .scheduled => [(1, 4), (1, l.table.code.toNat)]
              | .timeout => [(1, 5)]
              | .abandoned cause => [(1, 6), codedIn [AbandonCause.request, .trunk, .restart] cause]
              | .activated => [(1, 7)])
            ++ behindPresence 4 (some l.stamp))
        ++ [yesNo d.carrierLoaded, yesNo d.sectorLoaded, yesNo d.portLoaded, (4, d.stray)]))
    ∧ (h.linksLegal → h.readRecord .linkSummary 0 = layout (
        (List.finRange 24).map (fun p => codedIn state5 (h.linkOf p))
        ++ (List.finRange 8).map (fun d => codedIn state3 h.lnk.donor[d].state)
        ++ [codedIn state3 h.lnk.trunk.state]
        ++ (List.finRange 24).map (fun p => (1, h.lnk.remote[p].mask.toNat))
        ++ (List.finRange 24).flatMap (fun p => [(4, h.lnk.remote[p].core.errored), (2, h.lnk.remote[p].erroredSec),
            (4, h.lnk.remote[p].core.slips), (4, h.lnk.remote[p].core.drops)])
        ++ (List.finRange 8).flatMap (fun d => counters h.lnk.donor[d]) ++ counters h.lnk.trunk))
    ∧ h.readRecord .quietSummary 0 = layout (
        (List.finRange 24).flatMap (fun p => [yesNo (h.isQuiet p), (1, h.sbl.ports[p].quietCount),
          codedIn [WakeCause.none, .level, .move, .fault, .request, .reset, .link, .table]
            h.sbl.ports[p].wakeCause])
        ++ [(1, t.quietLimit)]))
  ∧ (∀ (o : ReadObject) (c : Cell) (rest : List Cell) (s : State),
    s.hub.offers c rest → byteAt c.payload 0 = 2 → readObjectOf (c.arg 0) = some o ∨ 16 ≤ c.arg 0 →
    c.length ≠ 5 →
    exec (readCommand o) s = .next { s with hub := { s.hub with
      mga := s.hub.mga.answered rest (badResponse c.tag .refused 8 []) } })
  ∧ (∀ (o : ReadObject) (c : Cell) (rest : List Cell) (s : State),
    s.hub.offersKind c rest .read → 16 ≤ c.arg 0 →
    exec (readCommand o) s = .next { s with hub := { s.hub with
      mga := s.hub.mga.answered rest (badResponse c.tag .refused 1 []) } })
  ∧ ∀ (o : ReadObject) (c : Cell) (rest : List Cell) (s : State),
    let h := s.hub
    let record := h.readRecord o (c.arg 1)
    let valid := c.arg 1 < o.indices ∧ 12 * c.arg 2 < record.length
      ∧ (c.arg 3 = 0 ∨ o = .extremes ∧ c.arg 3 = 1)
    h.offersKind c rest .read → readObjectOf (c.arg 0) = some o →
    (¬ valid → exec (readCommand o) s = .next { s with hub := { h with
      mga := h.mga.answered rest (badResponse c.tag .refused 1 []) } })
    ∧ (valid → ∃ t, exec (readCommand o) s = .next t ∧ t.pending = s.pending
      ∧ t.hub.mga = { h.mga.answered rest (okResponse c.tag ((record.drop (12 * c.arg 2)).take 12)) with
          marks := t.hub.mga.marks }
      ∧ (∀ n : Notice, t.hub.mga.marks[n.idx] =
          (h.mga.marks[n.idx] && decide (¬ ((o = .faults ∧ n = .fault) ∨ (o = .counters ∧ n = .overrun)
            ∨ (o = .loadStatus ∧ n = .load) ∨ (o = .moveLog ∧ n = .move)
            ∨ (o = .linkSummary ∧ n = .link) ∨ (o = .advice ∧ n = .advice)
            ∨ (o = .quietSummary ∧ n = .quiet)))))
      ∧ t.hub.fsv = (if o = .faultHistory then { h.fsv with history := h.fsv.history.drop 1 } else h.fsv)
      ∧ (∀ (p : PortId) (b : Lane), t.hub.lvm.ports[p].meters[b] =
          if o = .extremes ∧ c.arg 3 = 1 ∧ c.arg 1 = p.val then
            { h.lvm.ports[p].meters[b] with extremes := { largest := 0, smallest := 0, count := 0 } }
          else h.lvm.ports[p].meters[b])
      ∧ (∀ p : PortId, t.hub.lvm.ports[p] =
          { h.lvm.ports[p] with meters := t.hub.lvm.ports[p].meters })
      ∧ t.hub = { h with mga := t.hub.mga, fsv := t.hub.fsv
                         lvm := { h.lvm with ports := t.hub.lvm.ports } })

/-- ENTER_SERVICE by the first case of R168 that applies; accepted, it keeps the agent busy. The cross checks of
R30: the tables pass when no check of the four fails for any item, and else the failure named is that of the first
check that fails, for the lowest index for which it does. -/
def Obligations.EnterServiceIsJudged : Prop :=
  (∀ (c : Cell) (rest : List Cell) (s : State),
    let h := s.hub
    let answered := fun r : Response => Host.Outcome.next (σ := State) (φ := Fault) (ρ := Refusal) { s with
      hub := { h with mga := h.mga.answered rest r } }
    let refused := fun (why : Byte) (report : List Byte) =>
      answered (badResponse c.tag .refused why report)
    h.offersKind c rest .enterService →
    exec .enterService s =
      (if h.inService then answered (okResponse c.tag [])
      else if h.tld.scheduled.isSome then refused 4 []
      else if h.tld.carrierLoaded = false then refused 6 [2]
      else if h.tld.sectorLoaded = false then refused 6 [1]
      else if h.tld.portLoaded = false then refused 6 [3]
      else match crossCheck h.tables with
        | some (check, idx) => refused 7 (check.code :: toBytes 1 idx)
        | none => .next { s with hub := { h with mga := { h.mga with
            requests := rest, busy := some (.enterService c.tag), busyRipe := false } } }))
  ∧ (∀ t : Tables, crossCheck t = none ↔ ∀ check ∈ crossOrder, ∀ i, ¬ crossFails t check i)
  ∧ ∀ (t : Tables) (check : CheckName) (i : Nat),
    crossCheck t = some (check, i) ↔
      crossFails t check i ∧ (∀ j < i, ¬ crossFails t check j)
      ∧ ∃ before after : List CheckName, crossOrder = before ++ check :: after
        ∧ ∀ c ∈ before, ∀ j, ¬ crossFails t c j

/-- SERVICE_ENTRY: the hub is in SERVICE with every enabled port at its home, the queue, log and advice empty,
every A_p 0, every L 4096, the window count restarted, and the response OK queued; the interval count starts with
the second marks after this boundary (R65, R95, R109, R133, R168). Every other item stands: the request queue, the
marks, the second count, the sectors' records and the skip counter among them. That no loop test runs then is the
invariant of `ListBoundsStay`. The model's choice: the advice stamp is kept (log entry 12). -/
def Obligations.ServiceEntryStartsService : Prop :=
  ∀ (tag : Byte) (s : State),
    let h := s.hub.openBoundary
    h.mga.busy = some (.enterService tag) → h.mga.busyRipe = true →
    h.answersBounded →
    exec .serviceEntry s = .next { s with hub := { h with
      mga := { h.mga with
        hubState := .service, busy := none, busyRipe := false
        responses := h.mga.responses ++ [okResponse tag []] }
      sbl := { h.sbl with
        ports := tab fun p =>
          { assign := if h.tables.portOn p then .one (h.tables.home p) else .none
            holdOff := 0, returns := 0, quiet := false, quietCount := 0, wakeCause := .none, quietDue := false }
        flight := none, queue := [], log := [], logSequence := 0, advice := []
        intervalCount := 0, intervalDue := false }
      lvm := { windowCount := 0, windowNumber := 0, ports := tab fun p => { h.lvm.ports[p] with
        smoothed := 0, void := false
        meters := mapTab (fun x => { x with acc := 0, held := 0 }) h.lvm.ports[p].meters } }
      plm := tab fun p => { h.plm[p] with
        lanes := mapTab (fun l => { l with factor := 4096, hold := 0, restoreDue := false }) h.plm[p].lanes }
      bd := { h.bd with serviceBegun := true } } }

/-- RESTART answers OK at once and keeps the agent busy; at the next boundary every block returns to its power-on
state but for the images and loaded indications, the hub frame number, the response queue and the ending of an open
load (R173, R20, R22, R37, R164, R171). The counters of R13, the alignment counts, the overrun and unexpected-cell
counts are 0 on every link and in MGA (R13, R20, R176), the receivers go on reporting what they see (R3), and PLM and
DEQ do nothing more for the frame that ended (R65, R78). That the ending is stamped with second count 0 is DEDUCED
(log entry 14), as are the frame records of power-on (log entry 9); the table and length of no load (log entry 11),
the advice stamp (log entry 12), the fields of an IDLE measurement record (log entry 32), and that a frame handed on
at this boundary stays handed on (log entry 10), are the model's choices. -/
def Obligations.RestartReturnsToPowerOn : Prop :=
  (∀ (c : Cell) (rest : List Cell) (s : State), s.hub.offersKind c rest .restart →
    exec .restart s = .next { s with hub := { s.hub with
      mga := { s.hub.mga.answered rest (okResponse c.tag []) with
        busy := some .restart, busyRipe := false } } })
  ∧ ∀ s : State,
    let h := s.hub.openBoundary
    h.mga.busy = some .restart → h.mga.busyRipe = true →
    ∃ t, exec .restartEffect s = .next t ∧ t.pending = s.pending
      ∧ t.hub.inService = false ∧ t.hub.mga.requests = [] ∧ t.hub.mga.busy = none
      ∧ t.hub.mga.frameCount = 0 ∧ t.hub.mga.seconds = 0
      ∧ t.hub.mga.overrun = 0 ∧ t.hub.mga.unexpected = 0
      ∧ t.hub.mga.responses = h.mga.responses
      ∧ t.hub.mga = { Mga.init with
          responses := h.mga.responses, sent := h.mga.sent, marks := t.hub.mga.marks }
      ∧ (∀ n : Notice, t.hub.mga.marks[n.idx] = decide (n = .load ∧ h.tld.phase ≠ .none))
      ∧ t.hub.lnk.frameNumber = h.lnk.frameNumber
      ∧ t.hub.lnk = { h.lnk with
          remote := t.hub.lnk.remote, donor := t.hub.lnk.donor, trunk := t.hub.lnk.trunk }
      ∧ (∀ l : LinkId, t.hub.core l =
          { state := (t.hub.core l).state, signal := (h.core l).signal, good := 0, bad := 0, cand := none, last := none
            errored := 0, slips := 0, drops := 0, handed := (h.core l).handed, arrival := none
            verdict := none, samples := [] })
      ∧ (∀ p : PortId, t.hub.lnk.remote[p] =
          { core := t.hub.core (.remote p), mask := 0, erroredSec := 0, delay := 0, lastRT := 0, rtRange := false
            meas := { running := false, origin := .entry, taken := 0, minimum := none, elapsed := 0 } })
      ∧ (∀ p : PortId, t.hub.linkOf p =
            (if h.tables.portOn p = false then .disabled
             else if h.lnk.remote[p].core.signal then .hunt else .down)
          ∧ t.hub.lnk.remote[p].mask = 0 ∧ t.hub.lnk.remote[p].delay = 0
          ∧ t.hub.lnk.remote[p].meas.running = false)
      ∧ (∀ d : DonorId, t.hub.lnk.donor[d].state =
            if h.lnk.donor[d].signal then .hunt else .down)
      ∧ t.hub.lnk.trunk.state = (if h.lnk.trunk.signal then .hunt else .down)
      ∧ (∀ k : CarrierId, t.hub.dlc.carriers[k] =
            if h.tables.carrierOn k then .lost else .absent)
      ∧ t.hub.dlc = { Dlc.init with carriers := t.hub.dlc.carriers }
      ∧ t.hub.plm = Hub.init.plm ∧ t.hub.deq = Hub.init.deq ∧ t.hub.ulc = Hub.init.ulc
      ∧ t.hub.lvm = Hub.init.lvm ∧ t.hub.sbl = Hub.init.sbl ∧ t.hub.fsv = Hub.init.fsv
      ∧ t.hub.cte = Hub.init.cte
      ∧ t.hub.tld = { Tld.init h.tld.tables h.tld.carrierLoaded h.tld.sectorLoaded h.tld.portLoaded with
          last := if h.tld.phase = .none then none
            else some { table := h.tld.table, outcome := .abandoned .restart, stamp := 0 } }
      ∧ t.hub.frame = h.frame
      ∧ t.hub.bd = { h.bd with limiterDone := true, deqDone := true, rampDue := false, abandonDue := false }

/-- PORT_RESET is accepted for ports 0..23 and keeps the agent busy (R173). At the next boundary it resets one port in
every block: link (R21), combining state and clip counters (R40, R50), limiter (R66), delay lines (R79), gates (R92),
meters (R110), fault records and detectors (R149), transaction and RAU record (R155, R156), and in SERVICE its queued
entry, its move and its placement, each logged (R134); in CONFIG its hold-off, return counter and quiet count alone,
for no port is QUIET and no move is in flight there (in a state no run reaches, its exit from UP wakes it and marks its
move, R126, R131). The response is queued, LINK, MOVE and QUIET are raised where they are due (R9, R131, R134), and
everything else stands. An update
of PLM taken first still presents an overdrive (R66), and a port whose eighth bad marker has come leaves its aligned
state first (R5). That whatever else the boundary has decided of the port is done first, with or without its own
command, is DEDUCED (log entry 44); `nothingDue` rules it out. DEDUCED too: a port whose entry into QUIET is due counts
as QUIET (log entry 21). The model's choices: RESET comes before LINK, so that RESET is the wake cause and the move's
(log entry 15), and an ended measurement keeps its origin, taken, minimum and elapsed (log entry 42). -/
def Obligations.PortResetResetsOnePort : Prop :=
  (∀ (c : Cell) (rest : List Cell) (s : State), s.hub.offersKind c rest .portReset →
    (24 ≤ c.arg 0 → exec .portReset s = .next { s with hub := { s.hub with
      mga := s.hub.mga.answered rest (badResponse c.tag .refused 1 []) } })
    ∧ ∀ p : PortId, c.arg 0 = p.val → exec .portReset s = .next { s with hub := { s.hub with
      mga := { s.hub.mga with
        requests := rest, busy := some (.portReset c.tag p), busyRipe := false } } })
  ∧ ∀ (tag : Byte) (p : PortId) (s : State),
    let h₀ := s.hub.openBoundary
    let h := h₀.takePortDue p
    let overdrive := FaultKey.port p .dlOverdrive
    let home := h.tables.home p
    let others := (List.finRange 24).countP fun q => q ≠ p && (h.assignOf q).has home
    let exits := h.isUp p
    let ends : List (MoveEntry × MoveOutcome) :=
      ((h.sbl.queue.find? fun e => e.port = p).toList.map fun e => (e, .cancelledReset))
      ++ (h.flightOf p).toList.map fun m => (m.entry, .abandonedReset)
    h₀.mga.busy = some (.portReset tag p) → h₀.mga.busyRipe = true →
    (h₀.nothingDue p → h = h₀)
    ∧ (h₀.bd.limiterDone = true → h₀.plm[p].flag = false →
        (∃ b : Lane, h₀.plm[p].lanes[b].overdrive = 16) →
      h₀.plm[p].clean ≠ 16 →
      (h.faultRecord overdrive).present = true
      ∧ ((h₀.faultRecord overdrive).present = false → h.tables.responseMode overdrive.row ≠ .ignore →
        h.fsv.history.getLast? = some ⟨overdrive, .detected, h.mga.seconds⟩))
    ∧ ((h₀.linkOf p).aligned = true → 8 ≤ h₀.lnk.remote[p].core.bad →
      h.linkOf p = .hunt ∧ (h.faultRecord (.port p .linkLoss)).present = true)
    ∧ ∃ t, exec .portResetEffect s = .next t ∧ t.pending = s.pending
      ∧ t.hub.mga = { h.mga with
          busy := none, busyRipe := false
          responses := t.hub.mga.responses, marks := t.hub.mga.marks }
      ∧ (let answer := okResponse tag
            [BitVec.ofNat 8 ([LinkState.disabled, .down, .hunt, .proving, .up].idxOf (t.hub.linkOf p)),
              boolByte (h₀.queued p || h₀.ramping p)]
         t.hub.mga.responses.getLast? = some answer
         ∧ (h₀.answersBounded → t.hub.mga.responses = h₀.mga.responses ++ [answer]))
      ∧ t.hub.lnk = { h.lnk with remote := upd h.lnk.remote p fun r => { r with
          mask := 0, rtRange := false, erroredSec := 0
          meas := { r.meas with running := false }
          core := { r.core with
            state := match r.core.state with
              | .disabled => .disabled
              | .down => .down
              | _ => if r.core.signal then .hunt else .down
            good := 0, bad := 0, cand := none, last := none, errored := 0, slips := 0, drops := 0 } } }
      ∧ t.hub.dlc = { h.dlc with
          combining := h.dlc.combining.set p.val false p.isLt
          clips := upd h.dlc.clips p fun _ => .replicate 4 0 }
      ∧ t.hub.plm = upd h.plm p (fun _ => { PortLimiter.init with cleared := true })
      ∧ t.hub.deq = { h.deq with
          ports := upd h.deq.ports p fun e =>
            { e with downLine := zeroLine, upLine := zeroLine, steps := 0 } }
      ∧ t.hub.ulc = { h.ulc with gates := upd h.ulc.gates p fun _ => .replicate 4 .closed }
      ∧ t.hub.lvm = { h.lvm with ports := upd h.lvm.ports p fun m => { m with
          meters := .replicate 4 .init, activity := 0, smoothed := 0, loop := .none, cleared := true
          void := m.void || decide (h.isUp p = true ∧ m.loop ≠ .none) } }
      ∧ t.hub.fsv = { h.fsv with
          portRecords := upd h.fsv.portRecords p fun _ => .replicate 8 FaultRecord.init
          detectors := upd h.fsv.detectors p fun _ => Detectors.init }
      ∧ t.hub.cte = { h.cte with
          transaction := h.cte.transaction.filter (fun x => x.port ≠ p)
          ports := upd h.cte.ports p fun _ => PortCte.init }
      ∧ (h.inService = true →
          t.hub.sbl = { h.sbl with
            queue := h.sbl.queue.filter fun e => e.port ≠ p
            flight := if h.ramping p then none else h.sbl.flight
            log := t.hub.sbl.log, logSequence := h.sbl.logSequence + BitVec.ofNat 32 ends.length
            ports := upd h.sbl.ports p fun b => { b with
              assign :=
                if h.tables.portOn p = false then .none
                else if others < h.tables.maxMembers home then .one home
                else match h.flightOf p with
                  | some m => .one m.entry.source
                  | none => b.assign
              holdOff := 0, returns := 0, quiet := false, quietCount := 0, quietDue := false
              wakeCause := if h.isQuiet p then .reset else b.wakeCause } }
          ∧ (h.sbl.log.length ≤ 16 →
            t.hub.sbl.log = logged h.sbl.log h.sbl.logSequence h.mga.seconds ends)
          ∧ t.hub.bd = { h.bd with
              rampDue := h.bd.rampDue && !h.ramping p, abandonDue := h.bd.abandonDue && !h.ramping p })
      ∧ (h.inService = false →
          t.hub.sbl = { h.sbl with
            ports := upd h.sbl.ports p fun b =>
              let b := { b with holdOff := 0, returns := 0, quietCount := 0 }
              if exits = true ∧ h.isQuiet p = true then
                { b with quiet := false, quietDue := false, wakeCause := .link } else b
            flight := h.sbl.flight.map fun m =>
              if exits = true ∧ m.entry.port = p ∧ m.ending = none then { m with ending := some .link } else m }
          ∧ t.hub.bd = h.bd)
      ∧ h.mga.marked t.hub.mga (fun n => n = .link ∧ exits = true
          ∨ n = .move ∧ h.inService = true ∧ ends ≠ []
          ∨ n = .quiet ∧ h.isQuiet p = true ∧ (h.inService = true ∨ exits = true))
      ∧ t.hub.tld = h.tld ∧ t.hub.frame = h.frame

/-- CLEAR_COUNTERS returns every counter that R176 lists to 0, answers OK and changes nothing else: the
errored-this-second counts, occurrence counts, extremes, seconds and pending notices stand (R176). -/
def Obligations.ClearCountersZeroesTheCounters : Prop :=
  ∀ (c : Cell) (rest : List Cell) (s : State),
    let h := s.hub
    h.offersKind c rest .clearCounters →
    ∃ t, exec .clearCounters s = .next t ∧ t.pending = s.pending
      ∧ t.hub.mga = { h.mga.answered rest (okResponse c.tag []) with overrun := 0, unexpected := 0 }
      ∧ (∀ l : LinkId, t.hub.core l = { h.core l with errored := 0, slips := 0, drops := 0 })
      ∧ (∀ p : PortId, t.hub.lnk.remote[p] = { h.lnk.remote[p] with core := t.hub.core (.remote p) })
      ∧ t.hub.lnk = { h.lnk with
          remote := t.hub.lnk.remote, donor := t.hub.lnk.donor, trunk := t.hub.lnk.trunk }
      ∧ (∀ (p : PortId) (b : Lane), t.hub.dlc.clips[p][b] = 0)
      ∧ t.hub.dlc = { h.dlc with clips := t.hub.dlc.clips }
      ∧ (∀ k : CarrierId, t.hub.ulc.clips[k] = 0) ∧ t.hub.ulc = { h.ulc with clips := t.hub.ulc.clips }
      ∧ (∀ (p : PortId) (b : Lane), t.hub.plm[p].lanes[b] = { h.plm[p].lanes[b] with attack := 0 })
      ∧ (∀ p : PortId, t.hub.plm[p] = { h.plm[p] with lanes := t.hub.plm[p].lanes })
      ∧ (∀ p : PortId, t.hub.deq.ports[p] = { h.deq.ports[p] with steps := 0 })
      ∧ t.hub.deq.sectors = h.deq.sectors
      ∧ t.hub.sbl = { h.sbl with skips := 0 } ∧ t.hub.fsv = { h.fsv with lost := 0 }
      ∧ t.hub.tld = { h.tld with stray := 0 } ∧ t.hub.lvm = h.lvm ∧ t.hub.cte = h.cte
      ∧ t.hub.frame = h.frame ∧ t.hub.bd = h.bd

/-- OPERATOR_HOLD and OPERATOR_RELEASE set or clear the flag of operators 0..5 at once and keep the agent busy; at
the next boundary the operator's ACTIVE carriers become HELD, or its HELD ones ACTIVE, and the response
reports how many did (R38). -/
def Obligations.OperatorsHoldAndRelease : Prop :=
  (∀ (k : ReqKind) (v : Bool) (c : Cell) (rest : List Cell) (s : State),
    let h := s.hub
    k = .operatorHold ∧ v = true ∨ k = .operatorRelease ∧ v = false → h.offersKind c rest k →
    (6 ≤ c.arg 0 → exec (requestCommand k) s = .next { s with hub := { h with
      mga := h.mga.answered rest (badResponse c.tag .refused 1 []) } })
    ∧ ∀ o : OperatorId, c.arg 0 = o.val → exec (requestCommand k) s = .next { s with hub := { h with
      dlc := { h.dlc with holds := h.dlc.holds.set o.val v o.isLt }
      mga := { h.mga with
        requests := rest, busyRipe := false
        busy := some (if v then .operatorHold c.tag o else .operatorRelease c.tag o) } } })
  ∧ ∀ (v : Bool) (tag : Byte) (o : OperatorId) (s : State),
    let h := s.hub.openBoundary
    let was := if v then CarrierState.active else .held
    let now := if v then CarrierState.held else .active
    let changes := fun k : CarrierId =>
      decide (h.tables.operator k = o) && decide (h.dlc.carriers[k] = was)
    h.mga.busy = some (if v then .operatorHold tag o else .operatorRelease tag o) →
    h.mga.busyRipe = true →
    exec (if v then .operatorHoldEffect else .operatorReleaseEffect) s = .next { s with hub := { h with
      dlc := { h.dlc with carriers := tab fun k => if changes k then now else h.dlc.carriers[k] }
      mga := { h.mga with
        busy := none, busyRipe := false
        responses := h.mga.responses ++
          [okResponse tag [BitVec.ofNat 8 ((List.finRange 32).countP changes)]] } } }

/-! ## Port requests (Chapters 1, 7, 8 and 9) -/

/-- MEASURE_DELAY starts a measurement at the next boundary or attaches to a running one; LOOP_TEST becomes
PENDING; each refusal by the first case that applies, with no other effect (R19, R104). That it attaches to a
running measurement of any origin (log entry 24) and that a port whose entry into QUIET is due counts as QUIET
(log entry 21) are DEDUCED. -/
def Obligations.MeasureDelayAndLoopTestAreJudged : Prop :=
  (∀ (c : Cell) (rest : List Cell) (s : State),
    let h := s.hub
    let refused := Host.Outcome.next (σ := State) (φ := Fault) (ρ := Refusal) { s with hub := { h with
      mga := h.mga.answered rest (badResponse c.tag .refused 1 []) } }
    let busy := fun b : Busy => { h.mga with requests := rest, busy := some b, busyRipe := false }
    h.offersKind c rest .measureDelay →
    (24 ≤ c.arg 0 → exec .measureDelay s = refused)
    ∧ ∀ p : PortId, c.arg 0 = p.val →
      ((h.linkOf p).aligned = false → exec .measureDelay s = refused)
      ∧ ((h.linkOf p).aligned = true → h.lnk.remote[p].meas.running = false →
        exec .measureDelay s = .next { s with hub := { h with mga := busy (.measureStart c.tag p) } })
      ∧ ((h.linkOf p).aligned = true → h.lnk.remote[p].meas.running = true →
        exec .measureDelay s = .next { s with hub := { h with
          mga := busy (.measuring p)
          lnk := { h.lnk with
            remote := upd h.lnk.remote p fun r =>
              { r with meas := { r.meas with origin := .request c.tag } } } } }))
  ∧ ∀ (c : Cell) (rest : List Cell) (s : State),
    let h := s.hub
    let answered := fun r : Response => Host.Outcome.next (σ := State) (φ := Fault) (ρ := Refusal) { s with
      hub := { h with mga := h.mga.answered rest r } }
    h.offersKind c rest .loopTest →
    (24 ≤ c.arg 0 → exec .loopTest s = answered (badResponse c.tag .refused 1 []))
    ∧ ∀ p : PortId, c.arg 0 = p.val →
      let hindered := h.isUp p = false ∨ h.ramping p = true ∨ h.queued p = true ∨ h.isQuiet p = true
      (h.inService = false → exec .loopTest s = answered (badResponse c.tag .notInService 0 []))
      ∧ (h.inService = true → hindered →
        exec .loopTest s = answered (badResponse c.tag .refused 4 []))
      ∧ (h.inService = true → ¬ hindered → exec .loopTest s = .next { s with hub := { h with
          lvm := { h.lvm with ports := upd h.lvm.ports p fun m => { m with loop := .pending c.tag } }
          mga := { h.mga with requests := rest, busy := some (.loopTest p), busyRipe := false } } })

/-- MOVE by the first case of R121 that applies; accepted, a MANUAL entry replaces the port's entry in place or
joins the tail, the response reports its place, and a QUIET port wakes with cause MOVE (R121, R131). That a port
whose entry into QUIET is due counts as QUIET is DEDUCED (log entry 21). -/
def Obligations.MoveIsJudged : Prop :=
  ∀ (c : Cell) (rest : List Cell) (s : State),
    let h := s.hub
    let refused := fun (status : Status) (why : Byte) =>
      exec .move s = .next { s with hub := { h with
        mga := h.mga.answered rest (badResponse c.tag status why []) } }
    h.offersKind c rest .move →
    (h.inService = false → refused .notInService 0)
    ∧ (h.inService = true → 24 ≤ c.arg 0 ∨ 12 ≤ c.arg 1 → refused .refused 1)
    ∧ ∀ (p : PortId) (z : SectorId), c.arg 0 = p.val → c.arg 1 = z.val → h.inService = true →
      (h.tables.portOn p = false ∨ h.tables.sectorOn z = false → refused .refused 1)
      ∧ (h.tables.portOn p = true → h.tables.sectorOn z = true →
        (h.ramping p = true → refused .refused 2)
        ∧ ∀ present : SectorId, h.ramping p = false → h.assignOf p = .one present →
          (present = z → refused .refused 1)
          ∧ (present ≠ z → h.inLoopTest p = true → refused .refused 4)
          ∧ (present ≠ z → h.inLoopTest p = false → 8 ≤ h.sbl.queue.length → h.queued p = false →
            refused .refused 3)
          ∧ (present ≠ z → h.inLoopTest p = false → h.sbl.queue.length < 8 ∨ h.queued p = true →
            let entry : MoveEntry := { port := p, source := present, target := z, cause := .manual }
            let queue := if h.queued p then h.sbl.queue.map (fun e => if e.port = p then entry else e)
              else h.sbl.queue ++ [entry]
            ∃ place : Nat, queue[place]? = some entry
              ∧ exec .move s = .next { s with hub := { h with
                mga :=
                  let m := h.mga.answered rest (okResponse c.tag [BitVec.ofNat 8 (place + 1)])
                  if h.isQuiet p then m.raised .quiet else m
                sbl := { h.sbl with
                  queue := queue
                  ports := upd h.sbl.ports p fun b =>
                    if h.isQuiet p then
                      { b with quiet := false, quietDue := false, quietCount := 0, wakeCause := .move }
                    else b } } }))

/-- CANCEL_MOVE removes and logs a queued entry, marks a RAMPING move ENDING with cause CANCEL, leaves the cause of
a move that is ENDING already, and is refused otherwise, as always in CONFIG; a move that it marked is
abandoned at the next boundary (R122). -/
def Obligations.CancelMoveCancelsOrMarks : Prop :=
  (∀ (c : Cell) (rest : List Cell) (s : State),
    let h := s.hub
    let refused := exec .cancelMove s = .next { s with hub := { h with
      mga := h.mga.answered rest (badResponse c.tag .refused 1 []) } }
    h.offersKind c rest .cancelMove →
    (24 ≤ c.arg 0 → refused)
    ∧ (h.inService = false → h.movesLawful → refused)
    ∧ ∀ p : PortId, c.arg 0 = p.val →
      (∀ e : MoveEntry, h.sbl.queue.find? (fun e => e.port = p) = some e →
        exec .cancelMove s = .next { s with hub := { h with
          mga := (h.mga.answered rest (okResponse c.tag [])).raised .move
          sbl := { h.sbl with
            queue := h.sbl.queue.filter fun e => e.port ≠ p
            logSequence := h.sbl.logSequence + 1
            log := lastSixteen (h.sbl.log ++ [{
              sequence := h.sbl.logSequence + 1, entry := e, outcome := .cancelledRequest
              stamp := h.mga.seconds }]) } } })
      ∧ (h.queued p = false → ∀ m : MoveRecord, h.sbl.flight = some m → m.entry.port = p →
        exec .cancelMove s = .next { s with hub := { h with
          mga := h.mga.answered rest (okResponse c.tag [])
          sbl := { h.sbl with
            flight := some { m with ending := m.ending.or (some .cancel) } } } })
      ∧ (h.queued p = false → h.ramping p = false → refused))
  ∧ ∀ (m : MoveRecord) (s : State), s.hub.bd.isOpen = false → s.hub.sbl.flight = some m →
    m.ending = some .cancel →
    ∃ t, exec .moveAbandon s = .next t ∧ t.hub.sbl.flight = none
      ∧ t.hub.assignOf m.entry.port = .one m.entry.source
      ∧ t.hub.sbl.log.getLast?.map (fun e => (e.entry, e.outcome)) = some (m.entry, .abandonedCancel)

/-- WAKE is answered NOT_IN_SERVICE in CONFIG and refused beyond port 23; else it reports the quiet state, a QUIET
port wakes with cause REQUEST and the QUIET notice, and an AWAKE port's quiet count returns to 0 with no notice
(R132). An interval raises the count by at most one and makes an entry into QUIET due only at the SITE quiet count
(the one from before an activation of the same boundary, R31, R35), which is why R132 speaks of a WAKE more often than
once per SITE quiet count of intervals. That a port whose entry is due counts as QUIET is DEDUCED (log entry 21). -/
def Obligations.WakeWakesAQuietPort : Prop :=
  (∀ (c : Cell) (rest : List Cell) (s : State),
    let h := s.hub
    let answered := fun r : Response => exec .wake s = .next { s with hub := { h with
      mga := h.mga.answered rest r } }
    h.offersKind c rest .wake →
    (h.inService = false → answered (badResponse c.tag .notInService 0 []))
    ∧ (h.inService = true → 24 ≤ c.arg 0 → answered (badResponse c.tag .refused 1 []))
    ∧ ∀ p : PortId, c.arg 0 = p.val → h.inService = true →
      exec .wake s = .next { s with hub := { h with
        mga :=
          let m := h.mga.answered rest (okResponse c.tag [if h.isQuiet p then 1 else 0])
          if h.isQuiet p then m.raised .quiet else m
        sbl := { h.sbl with
          ports := upd h.sbl.ports p fun b =>
            { b with quiet := false, quietDue := false, quietCount := 0, wakeCause := .request } } } })
  ∧ ∀ (p : PortId) (s t : State),
    let h := s.hub.openBoundary
    let limit := (h.bd.before.getD h.tables).quietLimit
    h.sbl.ports[p].quietDue = false → exec .balanceInterval s = .next t →
    t.hub.sbl.ports[p].quietCount ≤ s.hub.sbl.ports[p].quietCount + 1
    ∧ (t.hub.isQuiet p = true → s.hub.sbl.ports[p].quiet = true ∨ limit ≤ t.hub.sbl.ports[p].quietCount)

/-- CLEAR_FAULTS returns the LATCHED records of its scope to IDLE with a history entry each, leaves the others, and
reports how many it returned and how many are ACTIVE, REFUSED with PRESENT if any are; a RAU_NO_REPLY record returned
starts a new identify sequence (R145, R155); an entry that a full history drops is counted as lost (R148), and nothing
else changes. The order of the entries under scope all, that of `allKeys`, is the model's choice (log entry 18).
PRIORITY_POLL replaces the priority set (R157). -/
def Obligations.ClearFaultsAndPriorityPoll : Prop :=
  (∀ (c : Cell) (rest : List Cell) (s : State),
    let h := s.hub
    let outside := c.arg 0 = 0 ∧ 24 ≤ c.arg 1 ∨ c.arg 0 = 1 ∧ 8 ≤ c.arg 1 ∨ 3 ≤ c.arg 0
    let named := fun k : FaultKey => match c.arg 0, k with
      | 0, .port p _ => decide (c.arg 1 = p.val)
      | 1, .donor d => decide (c.arg 1 = d.val)
      | 2, _ => true
      | _, _ => false
    let latched := fun k : FaultKey => named k && decide ((h.faultRecord k).state = .latched)
    let active := fun k : FaultKey => named k && decide ((h.faultRecord k).state = .active)
    let report : List Byte :=
      [BitVec.ofNat 8 (allKeys.countP latched), BitVec.ofNat 8 (allKeys.countP active)]
    h.offersKind c rest .clearFaults →
    (outside → exec .clearFaults s = .next { s with hub := { h with
      mga := h.mga.answered rest (badResponse c.tag .refused 1 []) } })
    ∧ (¬ outside → h.fsv.history.length ≤ 16 →
      ∃ t, exec .clearFaults s = .next t ∧ t.pending = s.pending
      ∧ t.hub.mga = h.mga.answered rest (if allKeys.any active then badResponse c.tag .refused 5 report
          else okResponse c.tag report)
      ∧ (∀ k : FaultKey, t.hub.faultRecord k =
          if latched k then { h.faultRecord k with state := .idle, retries := 0, timer := 0 }
          else h.faultRecord k)
      ∧ h.fsv.written t.hub.fsv ((allKeys.filter latched).map fun k => ⟨k, .cleared, h.mga.seconds⟩)
      ∧ t.hub.fsv.detectors = h.fsv.detectors
      ∧ t.hub.cte = { h.cte with ports := tab fun p =>
          if (latched (.port p .rauNoReply)) = true then { h.cte.ports[p] with
            hold := false, nextAttempt := 1, pending := h.cte.ports[p].pending || (h.linkOf p).aligned }
          else h.cte.ports[p] }
      ∧ t.hub = { h with fsv := t.hub.fsv, cte := t.hub.cte, mga := t.hub.mga }))
  ∧ ∀ (c : Cell) (rest : List Cell) (s : State),
    let h := s.hub
    let ports := 16777216 * byteAt c.payload 1 + 65536 * byteAt c.payload 2
      + 256 * byteAt c.payload 3 + byteAt c.payload 4
    h.offersKind c rest .priorityPoll →
    (2 ^ 24 ≤ ports → exec .priorityPoll s = .next { s with hub := { h with
      mga := h.mga.answered rest (badResponse c.tag .refused 1 []) } })
    ∧ (ports < 2 ^ 24 → exec .priorityPoll s = .next { s with hub := { h with
      mga := h.mga.answered rest (okResponse c.tag [])
      cte := { h.cte with
        priority := tab fun p => decide (ports / 2 ^ p.val % 2 = 1), priorityPos := 0 } } })

/-! ## Balancing and moves (Chapter 8) -/

/-- A balance interval takes the loads, 0 for a disabled sector, and marks over-loaded sectors (R103, R114, R115). In
AUTO and ADVISE it makes candidates: for each over-loaded sector, in descending excess, the first of its ranked ports
that has a fitting alternate, into the first one that fits, and a skip only where none does (R116, R117); then, in
ascending number, every port away from home whose tests all pass (R118), all against the working loads and counts
(R115). It queues or lists them (R119), counts skips, tests the quiet conditions and lowers the hold-offs (R129,
R130). It moves nothing. After an activation of the same boundary, the mode, marks, limits, counts, alternates and
quiet enabled are still those from before it (R31); that the enabled ports and sectors and the homes are the new ones
(log entry 36), that the over-loaded mark is set in mode OFF too (log entry 13), and that a port whose entry into
QUIET is due counts as QUIET (log entry 21), are DEDUCED. That a ramping port's hold-off is lowered too is the model's
choice (log entry 49). QUIET_ENTRY makes a port QUIET whose count has reached the SITE quiet count. -/
def Obligations.BalanceIntervalProposesMoves : Prop :=
  (∀ s : State,
    let h := s.hub.openBoundary
    let T := h.bd.before.getD h.tables
    let A := fun p : PortId => h.lvm.ports[p].smoothed
    let load := fun z : SectorId => if h.tables.sectorOn z then ((List.finRange 24).map fun p : PortId =>
      if (h.assignOf p).counts = some z then A p else 0).sum else 0
    let excess := fun z : SectorId => load z - T.highMark z
    let heavy := fun z : SectorId => h.tables.sectorOn z && decide (T.highMark z < load z)
    let turn := fun (y z : SectorId) => excess z < excess y ∨ excess y = excess z ∧ y < z
    let work := fun (prior : List MoveEntry) (z : SectorId) => prior.foldl (fun w e =>
      (if e.source = z then w - A e.port else w) + if e.target = z then A e.port else 0) (load z)
    let count := fun (prior : List MoveEntry) (z : SectorId) => prior.foldl (fun n e =>
      (if e.source = z then n - 1 else n) + if e.target = z then 1 else 0) (h.assignedCount z)
    let eligible := fun p : PortId => h.isUp p = true ∧ T.pinned p = false ∧ h.isQuiet p = false
      ∧ h.sbl.ports[p].holdOff = 0 ∧ h.allIdle p = true ∧ h.inLoopTest p = false ∧ h.queued p = false
    let ranked := fun (z : SectorId) (p : PortId) => eligible p ∧ h.assignOf p = .one z
    let sooner := fun (z : SectorId) (p q : PortId) =>
      if excess z ≤ A p then A q < excess z ∨ A p < A q ∨ A p = A q ∧ p < q
      else A q < excess z ∧ (A q < A p ∨ A p = A q ∧ p < q)
    let fits := fun (prior : List MoveEntry) (p : PortId) (z : SectorId) =>
      h.tables.sectorOn z = true ∧ count prior z < T.maxMembers z ∧ work prior z + A p ≤ T.highMark z
        ∧ h.spreadPasses p z = true
    h.inService = true → h.sbl.intervalDue = true →
    ∃ t, exec .balanceInterval s = .next t ∧ t.pending = s.pending
      ∧ t.hub.sbl = { h.sbl with
          intervalDue := false
          ports := t.hub.sbl.ports, sectors := t.hub.sbl.sectors, queue := t.hub.sbl.queue
          advice := t.hub.sbl.advice, adviceStamp := t.hub.sbl.adviceStamp, skips := t.hub.sbl.skips }
      ∧ t.hub = { h with sbl := t.hub.sbl, mga := t.hub.mga }
      ∧ t.hub.mga = (if T.mode = .advise ∧ t.hub.sbl.advice ≠ h.sbl.advice then h.mga.raised .advice
          else h.mga)
      ∧ (∀ p : PortId,
          let b := t.hub.sbl.ports[p]
          b = { h.sbl.ports[p] with
            holdOff := h.sbl.ports[p].holdOff - 1
            returns := b.returns, quietCount := b.quietCount, quietDue := b.quietDue }
          ∧ (h.tables.portOn p = true → b.quietCount =
            if T.quietOn p = true ∧ h.isUp p = true ∧ A p < T.quietMark p
                ∧ t.hub.queued p = false ∧ h.ramping p = false ∧ h.allIdle p = true
                ∧ h.inLoopTest p = false then
              min (h.sbl.ports[p].quietCount + 1) 15 else 0)
          ∧ (h.tables.portOn p = true → b.quietDue =
            (!b.quiet && decide (T.quietLimit ≤ b.quietCount)))
          ∧ (h.tables.portOn p = false →
            b.quietCount = h.sbl.ports[p].quietCount ∧ b.quietDue = h.sbl.ports[p].quietDue))
      ∧ ∃ made : List MoveEntry,
        let queued := made.take (8 - h.sbl.queue.length)
        let autos := fun z : SectorId => made.filter fun e : MoveEntry => e.cause = .auto ∧ turn e.source z
        let before := fun p : PortId => made.filter fun e : MoveEntry => e.cause = .auto ∨ e.port < p
        (T.mode = .off → made = [] ∧ t.hub.sbl.skips = h.sbl.skips
          ∧ ∀ p : PortId, t.hub.sbl.ports[p].returns = h.sbl.ports[p].returns)
        ∧ (∀ z : SectorId, t.hub.sbl.sectors[z] =
            { workLoad := work made z, workCount := count made z, lastLoad := load z, overloaded := heavy z })
        ∧ t.hub.sbl.queue = (if T.mode = .auto then h.sbl.queue ++ queued else h.sbl.queue)
        ∧ t.hub.sbl.advice = (if T.mode = .advise then made.take 8 else h.sbl.advice)
        ∧ t.hub.sbl.adviceStamp = (if T.mode = .advise then h.mga.seconds else h.sbl.adviceStamp)
        ∧ (T.mode ≠ .off → h.sbl.skips < 2 ^ 32 → t.hub.sbl.skips = min (2 ^ 32 - 1)
          (h.sbl.skips + ((List.finRange 12).countP heavy - made.countP fun e => e.cause = .auto)
            + (made.length - if T.mode = .auto then queued.length else 8)))
        ∧ made.Pairwise (fun e f => e.port ≠ f.port
          ∧ (e.cause = .auto ∧ f.cause = .auto ∧ turn e.source f.source
            ∨ e.cause = .auto ∧ f.cause = .returning
            ∨ e.cause = .returning ∧ f.cause = .returning ∧ e.port < f.port))
        ∧ (∀ e ∈ made, e.cause = .auto ∧ heavy e.source = true ∨ e.cause = .returning)
        ∧ (T.mode ≠ .off → ∀ z : SectorId, heavy z = true →
          (∀ e ∈ made, e.cause = .auto → e.source = z →
            ranked z e.port ∧ fits (autos z) e.port e.target
            ∧ (∃ front back : List SectorId, T.alternates e.port = front ++ e.target :: back
              ∧ ∀ y ∈ front, ¬ fits (autos z) e.port y)
            ∧ ∀ q : PortId, ranked z q → sooner z q e.port →
              ∀ y ∈ T.alternates q, ¬ fits (autos z) q y)
          ∧ ((∀ e ∈ made, ¬ (e.cause = .auto ∧ e.source = z)) →
            ∀ q : PortId, ranked z q → ∀ y ∈ T.alternates q, ¬ fits (autos z) q y))
        ∧ (T.mode ≠ .off → ∀ p : PortId,
          let home := h.tables.home p
          let away := ∃ z : SectorId, h.assignOf p = .one z ∧ z ≠ home
          (¬ away → t.hub.sbl.ports[p].returns = h.sbl.ports[p].returns)
          ∧ (away → t.hub.sbl.ports[p].returns =
            if work (before p) home + A p ≤ T.returnMark home then min (h.sbl.ports[p].returns + 1) 15
            else 0)
          ∧ ∀ z : SectorId, (⟨p, z, home, .returning⟩ : MoveEntry) ∈ made ↔
            h.assignOf p = .one z ∧ z ≠ home ∧ eligible p ∧ (∀ e ∈ made, e.cause = .auto → e.port ≠ p)
            ∧ T.returnCount home ≤ t.hub.sbl.ports[p].returns ∧ count (before p) home < T.maxMembers home
            ∧ h.spreadPasses p home = true)
        ∧ ∀ e ∈ made, e.cause = .returning → e.target = h.tables.home e.port)
  ∧ ∀ (p : PortId) (s : State),
    let h := s.hub.openBoundary
    h.sbl.ports[p].quietDue = true →
    exec (.quietEntry p) s = .next { s with hub := { h with
      mga := h.mga.raised .quiet
      sbl := { h.sbl with
        ports := upd h.sbl.ports p fun b =>
          { b with quiet := true, quietDue := false } } } }

/-- The head of the queue starts or is refused by the first failing test of R123, and a boundary that finds the
queue empty has considered it, so that an entry that joins afterwards waits for the next; a RAMPING move takes one
step a boundary, commits at step R, and a marked one is abandoned; each end is logged with the MOVE notice (R123
to R128). Each of these comes once at a boundary: taken again, or where none was due, it changes nothing (that such a
command may come is the model's choice, log entry 3). The spread check of port p into sector z passes exactly where any
two of p and the ports counted in z have delays of the frame that ended which differ by at most 1023 (R69, R76). -/
def Obligations.MovesStartRampAndEnd : Prop :=
  (∀ (h : Hub) (p : PortId) (z : SectorId),
    let isChecked := fun q : PortId => q = p ∨ h.frame[q].link = .up
      ∧ (h.frame[q].assign = .one z ∨ ∃ source : SectorId, h.frame[q].assign = .two source z)
    (h.spreadPasses p z = true ↔
      ∀ q r : PortId, isChecked q → isChecked r → h.frame[q].delay ≤ h.frame[r].delay + 1023))
  ∧ (∀ (e : MoveEntry) (rest : List MoveEntry) (s : State),
    let h := s.hub.openBoundary
    let failed : Option MoveOutcome :=
      if h.isUp e.port = false then some .refusedNotUp
      else if ¬ h.assignedCount e.target < h.tables.maxMembers e.target then some .refusedTargetFull
      else if ¬ h.tables.minMembers e.source + 1 ≤ h.assignedCount e.source then some .refusedSourceMin
      else if h.spreadPasses e.port e.target = false then some .refusedSpread
      else if (h.actions e.port).mute = true ∨ (h.actions e.port).isolate = true then some .refusedAction
      else none
    h.sbl.flight = none → h.bd.headSeen = false → h.sbl.queue = e :: rest →
    exec .moveStart s = .next { s with hub := { h with
      bd := { h.bd with headSeen := true }
      mga := if failed.isSome then h.mga.raised .move else h.mga
      sbl := match failed with
        | some why => { h.sbl with
            queue := rest, logSequence := h.sbl.logSequence + 1
            log := lastSixteen (h.sbl.log ++ [{ sequence := h.sbl.logSequence + 1, entry := e
                                                outcome := why, stamp := h.mga.seconds }]) }
        | none => { h.sbl with
            queue := rest
            flight := some { entry := e, length := 2 ^ h.tables.rampCode e.target, step := 0
                             ending := none, stamp := h.mga.seconds }
            ports := upd h.sbl.ports e.port fun b =>
              { b with assign := .two e.source e.target } } } })
  ∧ (∀ s : State, let h := s.hub.openBoundary
    h.sbl.flight = none → h.sbl.queue = [] →
    exec .moveStart s = .next { s with hub := { h with bd := { h.bd with headSeen := true } } })
  ∧ (∀ s : State, let h := s.hub.openBoundary
    (h.bd.headSeen = true → exec .moveStart s = .next { s with hub := h })
    ∧ (h.bd.rampDue = false →
      exec .rampStep s = .next { s with hub := h } ∧ exec .moveCommit s = .next { s with hub := h })
    ∧ (h.bd.abandonDue = false → exec .moveAbandon s = .next { s with hub := h }))
  ∧ ∀ (m : MoveRecord) (s : State),
    let h := s.hub.openBoundary
    let logged := fun o : MoveOutcome => lastSixteen (h.sbl.log ++ [{
      sequence := h.sbl.logSequence + 1, entry := m.entry, outcome := o, stamp := h.mga.seconds }])
    h.sbl.flight = some m →
    (m.ending = none → h.bd.rampDue = true → m.step + 1 < m.length →
      ∃ t, exec .rampStep s = .next t
        ∧ t = { s with hub := { h with
            bd := { h.bd with rampDue := false }
            sbl := { h.sbl with flight := some { m with step := m.step + 1 } } } }
        ∧ (h.assignOf m.entry.port = .two m.entry.source m.entry.target →
            t.hub.weight m.entry.port m.entry.target = (m.step + 1) * 4096 / m.length
            ∧ (m.entry.source ≠ m.entry.target →
              t.hub.weight m.entry.port m.entry.source = 4096 - (m.step + 1) * 4096 / m.length)))
    ∧ (m.ending = none → h.bd.rampDue = true → m.length ≤ m.step + 1 →
      exec .moveCommit s = .next { s with hub := { h with
        bd := { h.bd with rampDue := false }
        mga := h.mga.raised .move
        sbl := { h.sbl with
          flight := none, logSequence := h.sbl.logSequence + 1, log := logged .done
          ports := upd h.sbl.ports m.entry.port fun b => { b with
            assign := .one m.entry.target, holdOff := h.tables.holdOff m.entry.port, returns := 0 } } } })
    ∧ ∀ cause : EndingCause, m.ending = some cause → h.bd.abandonDue = true →
      exec .moveAbandon s = .next { s with hub := { h with
        bd := { h.bd with rampDue := false, abandonDue := false }
        mga := h.mga.raised .move
        sbl := { h.sbl with
          flight := none, logSequence := h.sbl.logSequence + 1
          log := logged (match cause with
            | .link => .abandonedLink
            | .action => .abandonedAction
            | .cancel => .abandonedCancel)
          ports := upd h.sbl.ports m.entry.port fun b => { b with assign := .one m.entry.source } } } }

/-! ## The frame that begins (Chapters 3, 5, 6 and 11) -/

/-- FRAME_BOUNDARY ends the boundary and begins the next frame from the state `u` that its events leave: it takes all
that the boundary still has to do by the events' own commands, in the model's order (`boundaryOrder`, log entry 4),
with the requests that are due before and after the trunk cell's supply (R170, R171). It forms the frame records:
summand lists with G_c, trim, L and the output factor A; contributor lists with H, and the first failing condition of
every port-lane in every sector (R39, R42, R43, R47, R82, R83, R85); and the trunk sends the supplied cell (R1, R16).
The frame's 256 instants then run under them: S, V, W, Y, the output and its clips (R41, R44 to R46, R49, R51), the
power sums (R56), the delay lines, zeroed where MUTE comes into effect (R48, R72, R73), Z, the carrier outputs and
their clips (R86, R87), the frame integrators (R96, R105), and the frames sent (R1, R12, R14). Of every port it notes,
from `u`, how the inputs stand throughout the frame that begins, for the rules that speak of it as the frame that
ended: link state, lane mask, verdict, combining state, MUTE or ISOLATE in effect, D_p, the RT-range indication and
the assignment (R69, R83, R89, R96, R97, R101; that the model notes them is log entry 10). A disabled sector has no
record, and its Z is zero (R82); that its record reads as not gated is the model's choice (log entry 47). That the
summand list stands for SILENT ports too is DEDUCED (log entry 19). That the frame's 256 instants have run as soon as
FRAME_BOUNDARY has begun the frame is the model's choice (log entry 5). -/
def Obligations.FrameRecordsOfTheNewFrame : Prop :=
  (let reason := fun (g : Hub) (p : PortId) (b : Lane) (z : SectorId) =>
    if g.dlc.combining[p] = false then Reason.link
    else if g.lnk.remote[p].core.verdict ≠ some .good then .frame
    else if g.lnk.remote[p].mask.getLsbD b.val = false then .lane
    else if (g.actions p).mute = true ∨ (g.actions p).isolate = true then .action
    else if g.lvm.ports[p].loop.isRunning = true then .loop
    else if g.tables.gated z = true ∧ g.ulc.gates[p][b].state = .closed then .gate
    else .none
  ∀ s : State, ∃ t, exec (.frameBoundary .whole) s = .next t ∧ t.pending = s.pending
    ∧ t.hub.bd.isOpen = false
    ∧ (∀ p : PortId, t.hub.dlc.records[p].combining = t.hub.dlc.combining[p]
      ∧ t.hub.dlc.records[p].swap = t.hub.tables.swap p
      ∧ t.hub.dlc.records[p].mute = (t.hub.actions p).mute
      ∧ ∀ b : Lane,
        let r := t.hub.dlc.records[p].lanes[b]
        let base := if t.hub.sbl.ports[p].quiet then t.hub.tables.quietFactor p else 4096
        r.factor = t.hub.plm[p].lanes[b].factor ∧ r.trim = t.hub.tables.trim p b
        ∧ r.output = (if (t.hub.actions p).mute = true ∨ t.hub.inService = false
              ∨ t.hub.lnk.remote[p].mask.getLsbD b.val = false ∨ t.hub.dlc.combining[p] = false then 0
            else if (t.hub.actions p).attenuate then min base 1024 else base)
        ∧ r.summands = ((List.finRange 32).filter fun k : CarrierId =>
            decide (t.hub.dlc.carriers[k] ≠ .absent) && decide (t.hub.tables.lane k = b)
              && (t.hub.assignOf p).has (t.hub.tables.carrierHome k)).map fun k =>
          { carrier := k
            gain := (t.hub.tables.downGain k * t.hub.weight p (t.hub.tables.carrierHome k) + 2048) / 4096
            contributing := decide (t.hub.dlc.carriers[k] = .active) })
    ∧ (∀ (z : SectorId) (b : Lane), t.hub.tables.sectorOn z = true →
      t.hub.ulc.records[z][b].gated = t.hub.tables.gated z
      ∧ t.hub.ulc.records[z][b].contributors =
        (((List.finRange 24).filter fun p : PortId => (t.hub.assignOf p).has z).map fun p =>
          { port := p
            gain := (t.hub.tables.portGain p b * t.hub.weight p z + 2048) / 4096
            reason := reason t.hub p b z })
      ∧ t.hub.ulc.records[z][b].carriers = ((List.finRange 32).filter fun k : CarrierId =>
          t.hub.tables.carrierOn k && decide (t.hub.tables.carrierHome k = z)
            && decide (t.hub.tables.lane k = b)).map fun k =>
        { carrier := k, gain := t.hub.tables.upGain k
          active := decide (t.hub.dlc.carriers[k] = .active) })
    ∧ (∀ (z : SectorId) (b : Lane), t.hub.tables.sectorOn z = false →
      t.hub.ulc.records[z][b] = { contributors := [], carriers := [], gated := false, z := ⟨0, 0⟩ })
    ∧ (∀ (p : PortId) (b : Lane) (z : SectorId), t.hub.ulc.reasons[p][b][z] =
        if t.hub.tables.sectorOn z = true ∧ (t.hub.assignOf p).has z = true then some (reason t.hub p b z)
        else if t.hub.dlc.combining[p] then none else some .link)
    ∧ t.hub.lnk.sentTrunk = sentFrame t.hub.lnk.frameNumber 0 t.hub.mga.sent []
    ∧ ∀ p : PortId, t.hub.lnk.sentRemote[p] = none ↔ t.hub.linkOf p = .disabled)
  ∧ ∀ s : State,
    let u := s.boundaryDone
    let frame := List.range 256
    let parts : List (Sample → Int) := [Sample.i, Sample.q]
    let power := fun f : (Sample → Int) → Int => (f Sample.i * f Sample.i + f Sample.q * f Sample.q).toNat
    let clipped := fun f : (Sample → Int) → Int => parts.countP fun part => sat16 (f part) ≠ f part
    let held := fun (c : Nat) (entered : Nat → Quad) (line : List Quad) (i : Nat) =>
      if c ≤ i then entered (i - c) else line.getD (c - i - 1) Quad.zero
    ∃ t, exec (.frameBoundary .whole) s = .next t
      ∧ (∀ p : PortId, t.hub.frame[p] =
          { link := u.linkOf p, mask := u.lnk.remote[p].mask, verdict := u.lnk.remote[p].core.verdict
            combining := u.dlc.combining[p], silenced := (u.actions p).mute || (u.actions p).isolate
            delay := u.lnk.remote[p].delay, rtRange := u.lnk.remote[p].rtRange, assign := u.assignOf p })
      ∧ ((∀ p : PortId, u.deq.ports[p].downLine.length = 1024 ∧ u.deq.ports[p].upLine.length = 1024
          ∧ u.deq.ports[p].comp ≤ 1023) →
         let x := fun (i : Nat) (c : CarrierId) =>
           (u.lnk.donor[carrierDonor c].samples.getD i Quad.zero)[carrierSlot c]
         let S := fun (p : PortId) (b : Lane) (i : Nat) (part : Sample → Int) =>
           sat21 (((t.hub.dlc.records[p].lanes[b].summands.filter fun e => e.contributing).map fun e =>
             roundShift (part (x i e.carrier) * e.gain) 12).sum)
         let V := fun (p : PortId) (b : Lane) (i : Nat) (part : Sample → Int) =>
           sat21 (roundShift (S p b i part * t.hub.dlc.records[p].lanes[b].trim) 12)
         let W := fun (p : PortId) (b : Lane) (i : Nat) (part : Sample → Int) =>
           if u.dlc.combining[p] then
             sat21 (roundShift (V p b i part * t.hub.dlc.records[p].lanes[b].factor) 12)
           else 0
         let Y := fun (p : PortId) (b : Lane) (i : Nat) (part : Sample → Int) =>
           roundShift (W p b i part * t.hub.dlc.records[p].lanes[b].output) 12
         let sent := fun (p : PortId) (i : Nat) => (tab fun b : Lane =>
           (⟨sat16 (Y p b i (if u.tables.swap p then Sample.q else Sample.i)),
             sat16 (Y p b i (if u.tables.swap p then Sample.i else Sample.q))⟩ : Sample) : Quad)
         let down := fun p : PortId =>
           if (u.actions p).mute = true ∧ u.dlc.records[p].mute = false then List.replicate 1024 Quad.zero
           else u.deq.ports[p].downLine
         let received := fun (p : PortId) (i : Nat) =>
           let core := u.lnk.remote[p].core
           if core.state.aligned = true ∧ core.verdict = some .good then
             (tab fun b : Lane =>
               let v := (core.samples.getD i Quad.zero)[b]
               if u.tables.swap p then (⟨v.q, v.i⟩ : Sample) else v : Quad)
           else Quad.zero
         let U := fun p : PortId => held u.deq.ports[p].comp (received p) u.deq.ports[p].upLine
         let Z := fun (z : SectorId) (b : Lane) (i : Nat) (part : Sample → Int) =>
           sat21 (((t.hub.ulc.records[z][b].contributors.filter fun e => e.reason = .none).map fun e =>
             roundShift (part (U e.port i)[b] * e.gain) 12).sum)
         let carrier := fun (c : CarrierId) (i : Nat) (part : Sample → Int) =>
           if u.tables.sectorOn (u.tables.carrierHome c) = true ∧ u.tables.carrierOn c = true
               ∧ u.dlc.carriers[c] = .active then
             roundShift (Z (u.tables.carrierHome c) (u.tables.lane c) i part * u.tables.upGain c) 12
           else 0
         let control := fun p : PortId => match u.cte.transaction with
           | some x => if x.port = p then [if x.kind = .identify then 1 else 2, x.sequence, 0, 0, 0, 0, 0, 0]
             else List.replicate 8 0
           | none => List.replicate 8 0
         t.hub.dlc = { u.dlc with
           records := t.hub.dlc.records
           clips := tab fun p => tab fun b => min (u.dlc.clips[p][b]
             + (frame.map fun i => clipped (Y p b i)).sum) (2 ^ 32 - 1) }
         ∧ t.hub.plm = (tab fun p => { u.plm[p] with lanes := tab fun b => { u.plm[p].lanes[b] with
             powerSum := u.plm[p].lanes[b].powerSum + (frame.map fun i => power (W p b i)).sum } })
         ∧ t.hub.deq = { u.deq with ports := tab fun p => { u.deq.ports[p] with
             downLine := ((frame.map (sent p)).reverse ++ down p).take 1024
             upLine := ((frame.map (received p)).reverse ++ u.deq.ports[p].upLine).take 1024 } }
         ∧ (∀ (z : SectorId) (b : Lane), t.hub.ulc.records[z][b].z = ⟨Z z b 255 Sample.i, Z z b 255 Sample.q⟩)
         ∧ t.hub.ulc = { u.ulc with
             records := t.hub.ulc.records, reasons := t.hub.ulc.reasons
             clips := tab fun c => min (u.ulc.clips[c]
               + (frame.map fun i => clipped (carrier c i)).sum) (2 ^ 32 - 1) }
         ∧ t.hub.lvm = { u.lvm with ports := tab fun p => { u.lvm.ports[p] with
             meters := tab fun b =>
               { u.lvm.ports[p].meters[b] with
                 integrator := u.lvm.ports[p].meters[b].integrator + (frame.map fun i =>
                   if u.lvm.ports[p].loop.isRunning then power fun part => sat16 (W p b i part)
                   else power fun part => part (received p i)[b]).sum } } }
         ∧ t.hub.lnk = { u.lnk with
             sentRemote := tab fun p =>
               if u.linkOf p = .disabled then none
               else if u.isUp p then some (sentFrame u.lnk.frameNumber u.lnk.remote[p].mask (control p)
                 (samplesBytes (frame.map (held u.deq.ports[p].comp (sent p) (down p)))))
               else some (sentFrame u.lnk.frameNumber 0 (control p)
                 (samplesBytes (List.replicate 256 Quad.zero)))
             sentDonor := tab fun d => sentFrame u.lnk.frameNumber 0 (List.replicate 8 0)
               (samplesBytes (frame.map fun i => tab fun j : Fin 4 =>
                 let c : CarrierId := ⟨4 * d.val + j.val, by omega⟩
                 ⟨sat16 (carrier c i Sample.i), sat16 (carrier c i Sample.q)⟩))
             sentTrunk := t.hub.lnk.sentTrunk }
         ∧ t.hub = { u with
             dlc := t.hub.dlc, plm := t.hub.plm, deq := t.hub.deq, ulc := t.hub.ulc, lvm := t.hub.lvm
             lnk := t.hub.lnk, frame := t.hub.frame, bd := { u.bd with isOpen := false } })

/-- DEQ's recomputation, once at a boundary, from the inputs of the frame that ended: T_s is the greatest delay taken
among the ports counted in the sector, the least delay the smallest, the count their number, and with none counted all
are 0; with delays of at most 2048 so is T_s, and no counted port's delay exceeds it, so a lone port sets the target
itself (R70). Each port's record: the sector in which it counts (R69), c_p and the two indications by the law of R71,
the DELAY_RANGE state (R75), and the step counter, which rises by one, saturating, where the port counts and its c_p
differs from the one it had, and not where the port ceases to count (R74). What a change of the DELAY_RANGE state hands
on is another statement's; nothing else changes. A second recomputation at the boundary changes nothing (that it may
come is the model's choice, log entry 3). -/
def Obligations.TargetsAreTheGreatestDelays : Prop :=
  ∀ s : State,
    let h := s.hub.openBoundary
    let countedIn : PortId → Option SectorId := fun p =>
      if h.frame[p].link = .up then
        match h.frame[p].assign with
          | .none => none
          | .one z => some z
          | .two _ target => some target
      else none
    (h.bd.deqDone = true → exec (.frameBoundary .deqRecompute) s = .next { s with hub := h })
    ∧ (h.bd.deqDone = false →
    ∃ t, exec (.frameBoundary .deqRecompute) s = .next t ∧ t.pending = s.pending
      ∧ (∀ z : SectorId,
        let e := t.hub.deq.sectors[z]
        let counted := fun p : PortId => countedIn p = some z
        e.counted = (List.finRange 24).countP (fun p => countedIn p = some z)
        ∧ (∀ p : PortId, counted p →
            h.frame[p].delay ≤ e.target ∧ e.least ≤ h.frame[p].delay ∧ 0 < e.counted)
        ∧ (∀ p : PortId, counted p → (∃ q : PortId, counted q ∧ h.frame[q].delay = e.target)
            ∧ ∃ q : PortId, counted q ∧ h.frame[q].delay = e.least)
        ∧ ((∀ p : PortId, ¬ counted p) → e = { target := 0, counted := 0, least := 0 })
        ∧ (∀ p : PortId, counted p → (∀ q : PortId, counted q → q = p) →
            e = { target := h.frame[p].delay, counted := 1, least := h.frame[p].delay })
        ∧ ((∀ p : PortId, h.frame[p].delay ≤ 2048) → e.target ≤ 2048))
      ∧ (∀ p : PortId,
        let f := h.frame[p]
        let was := h.deq.ports[p]
        let needed := match countedIn p with
          | some z => t.hub.deq.sectors[z].target - f.delay
          | none => 0
        let steps := countedIn p ≠ none ∧ min 1023 needed ≠ was.comp
        t.hub.deq.ports[p] = { was with
          countedIn := countedIn p, delayTaken := f.delay, comp := min 1023 needed
          compRange := decide (1023 < needed), rtTaken := f.rtRange
          range := f.rtRange || decide (1023 < needed)
          steps := if steps then min (was.steps + 1) (2 ^ 32 - 1) else was.steps })
      ∧ t.hub.fsv.detectors = h.fsv.detectors
      ∧ (∀ p : PortId, t.hub.assignOf p = h.assignOf p)
      ∧ t.hub = { h with
          deq := t.hub.deq, fsv := t.hub.fsv, sbl := t.hub.sbl, mga := t.hub.mga
          bd := { h.bd with deqDone := true } })

/-- The supply of the trunk cell, once at a boundary: the oldest response while the trunk is UP, else an IDLE cell,
each with the attention value: the priority of the first notice class pending and enabled, or 0 (R16, R171,
R175, R179). A second supply at the boundary changes nothing (that it may come is the model's choice, log entry 3). -/
def Obligations.TrunkCellCarriesAttention : Prop :=
  (∀ s : State, s.hub.openBoundary.bd.supplyDone = true →
    exec (.frameBoundary .trunkSupply) s = .next { s with hub := s.hub.openBoundary })
  ∧ ∀ (attention : Nat) (s : State),
    let h := s.hub.openBoundary
    let calls := fun n : Fin 7 => h.mga.marks[n] = true ∧ h.tables.attends n = true
    let bd := { h.bd with supplyDone := true }
    let idle := exec (.frameBoundary .trunkSupply) s = .next { s with hub := { h with
      bd := bd
      mga := { h.mga with
        sent := [0, 0, BitVec.ofNat 8 attention, 0] ++ List.replicate 12 0 } } }
    h.bd.supplyDone = false →
    (attention = 0 ∧ (∀ n : Fin 7, ¬ calls n)
      ∨ ∃ n : Fin 7, attention = n.val + 1 ∧ calls n ∧ ∀ m : Fin 7, m < n → ¬ calls m) →
    (h.lnk.trunk.state ≠ .up ∨ h.mga.responses = [] → idle)
    ∧ ∀ (r : Response) (rest : List Response), h.lnk.trunk.state = .up → h.mga.responses = r :: rest →
      exec (.frameBoundary .trunkSupply) s = .next { s with hub := { h with
        bd := bd
        mga := { h.mga with
          responses := rest
          sent := [2, r.tag, BitVec.ofNat 8 attention,
              BitVec.ofNat 8 ((match r.status with
                | .ok => 0 | .refused => 16 | .notInService => 32 | .badRequest => 48
                | .timeout => 64) + r.used)]
            ++ r.payload.take 12 ++ List.replicate (12 - r.payload.length) 0 } } }
end

