-- ==== Sys2Proof/Laws/Word.lean ====
section
/-! SUPPORT. Laws of the fixed-length tables: what an item of `tab`, `upd` and `mapTab` is, and that `each`
keeps what each of its steps keeps. -/

namespace Sys2Proof

@[simp] theorem tab_get {α : Type} {n : Nat} (f : Fin n → α) (i : Fin n) : (tab f)[i] = f i := by
  simp [tab]

@[simp] theorem tab_getElem {α : Type} {n : Nat} (f : Fin n → α) (i : Nat) (hi : i < n) :
    (tab f)[i] = f ⟨i, hi⟩ := by
  simp [tab]

theorem upd_getElem {α : Type} {n : Nat} (v : Vector α n) (i : Fin n) (f : α → α) (j : Nat)
    (hj : j < n) : (upd v i f)[j] = if i.val = j then f v[j] else v[j] := by
  by_cases h : i.val = j
  · subst h; simp [upd]
  · simp [upd, h]

theorem upd_get {α : Type} {n : Nat} (v : Vector α n) (i j : Fin n) (f : α → α) :
    (upd v i f)[j] = if i = j then f v[j] else v[j] := by
  simpa [Fin.ext_iff] using upd_getElem v i f j.val j.isLt

@[simp] theorem upd_getElem_same {α : Type} {n : Nat} (v : Vector α n) (i : Fin n) (f : α → α) :
    (upd v i f)[i.val] = f v[i.val] := by
  simp [upd_getElem]

theorem upd_get_same {α : Type} {n : Nat} (v : Vector α n) (i : Fin n) (f : α → α) :
    (upd v i f)[i] = f v[i] := upd_getElem_same v i f

theorem upd_get_other {α : Type} {n : Nat} (v : Vector α n) {i j : Fin n} (f : α → α) (h : i ≠ j) :
    (upd v i f)[j] = v[j] := by
  rw [upd_get, if_neg h]

@[simp] theorem mapTab_get {α β : Type} {n : Nat} (f : α → β) (v : Vector α n) (i : Fin n) :
    (mapTab f v)[i] = f v[i] := by
  simp [mapTab]

@[simp] theorem mapTab_getElem {α β : Type} {n : Nat} (f : α → β) (v : Vector α n) (i : Nat)
    (hi : i < n) : (mapTab f v)[i] = f v[i] := by
  simp [mapTab]

@[simp] theorem upd_id {α : Type} {n : Nat} (v : Vector α n) (i : Fin n) : (upd v i fun x => x) = v := by
  simp [upd]

theorem upd_congr {α : Type} {n : Nat} {v : Vector α n} {i : Fin n} {f g : α → α} (h : f v[i] = g v[i]) :
    upd v i f = upd v i g := by
  unfold upd
  rw [h]

theorem upd_upd {α : Type} {n : Nat} (v : Vector α n) (i : Fin n) (f g : α → α) :
    upd (upd v i f) i g = upd v i fun x => g (f x) := by
  simp [upd]

theorem upd_same {α : Type} {n : Nat} {v : Vector α n} {i : Fin n} {f : α → α} (h : f v[i] = v[i]) :
    upd v i f = v := by
  rw [upd_congr (g := fun x => x) h, upd_id]

theorem tab_eta {α : Type} {n : Nat} (v : Vector α n) : (tab fun i : Fin n => v[i]) = v := by
  ext i hi
  simp

theorem foldl_keeps {α σ : Type} {P : σ → Prop} {f : σ → α → σ} (hf : ∀ s a, P s → P (f s a)) :
    ∀ (xs : List α) (s : σ), P s → P (xs.foldl f s)
  | [], _, hs => hs
  | a :: xs, s, hs => foldl_keeps hf xs (f s a) (hf s a hs)

theorem each_keeps {σ : Type} {n : Nat} {P : σ → Prop} {f : Fin n → σ → σ}
    (hf : ∀ i s, P s → P (f i s)) {s : σ} (hs : P s) : P (each f s) :=
  foldl_keeps (fun t i ht => hf i t ht) _ _ hs

theorem foldl_same {α σ β : Type} {g : σ → β} {f : σ → α → σ} (hf : ∀ s a, g (f s a) = g s) :
    ∀ (xs : List α) (s : σ), g (xs.foldl f s) = g s
  | [], _ => rfl
  | a :: xs, s => (foldl_same hf xs (f s a)).trans (hf s a)

theorem each_same {σ β : Type} {n : Nat} {g : σ → β} {f : Fin n → σ → σ}
    (hf : ∀ i s, g (f i s) = g s) (s : σ) : g (each f s) = g s :=
  foldl_same (fun t i => hf i t) _ _

end Sys2Proof
end

