-- ==== Sys2Proof/Laws/Arithmetic.lean ====
section
/-! SUPPORT. Laws of the arithmetic: rounding, greatest and smallest of some delays, and the last sixteen items of a
list. -/

namespace Sys2Proof.Machine

/-- A gain scaled by a weight in units of 1/4096, rounded. -/
theorem roundShift_twelve (n : Nat) : (roundShift (n : Int) 12).toNat = (n + 2048) / 4096 := by
  unfold roundShift
  rw [if_neg (by decide)]
  omega

theorem foldl_max_mem (xs : List Nat) (a : Nat) : xs.foldl max a = a ∨ xs.foldl max a ∈ xs := by
  induction xs generalizing a with
  | nil => simp
  | cons y ys ih =>
    rw [List.foldl_cons]
    rcases ih (max a y) with h | h
    · rw [h]
      rcases max_choice a y with h' | h' <;> simp [h']
    · exact .inr (List.mem_cons_of_mem _ h)

theorem le_foldl_max (xs : List Nat) (a x : Nat) (h : x ∈ xs ∨ x ≤ a) : x ≤ xs.foldl max a := by
  induction xs generalizing a with
  | nil => simpa using h
  | cons y ys ih =>
    refine ih _ ?_
    simp only [List.mem_cons, le_max_iff] at h ⊢
    rcases h with (rfl | h) | h <;> simp_all

theorem foldl_min_mem (xs : List Nat) (a : Nat) : xs.foldl min a = a ∨ xs.foldl min a ∈ xs := by
  induction xs generalizing a with
  | nil => simp
  | cons y ys ih =>
    rw [List.foldl_cons]
    rcases ih (min a y) with h | h
    · rw [h]
      rcases min_choice a y with h' | h' <;> simp [h']
    · exact .inr (List.mem_cons_of_mem _ h)

theorem foldl_min_le (xs : List Nat) (a x : Nat) (h : x ∈ xs ∨ a ≤ x) : xs.foldl min a ≤ x := by
  induction xs generalizing a with
  | nil => simpa using h
  | cons y ys ih =>
    refine ih _ ?_
    simp only [List.mem_cons, min_le_iff] at h ⊢
    rcases h with (rfl | h) | h <;> simp_all

/-- The greatest of some delays is one of them and no smaller than any. -/
theorem greatest_spec (xs : List Nat) :
    (xs ≠ [] → greatest xs ∈ xs) ∧ ∀ x ∈ xs, x ≤ greatest xs := by
  have hge : ∀ x ∈ xs, x ≤ greatest xs := fun x hx => le_foldl_max _ _ _ (.inl hx)
  refine ⟨fun hne => ?_, hge⟩
  rcases foldl_max_mem xs 0 with h | h
  · obtain ⟨x, hx⟩ := List.exists_mem_of_ne_nil _ hne
    have h0 : greatest xs = x := by
      have := hge x hx
      have : greatest xs = 0 := h
      omega
    exact h0 ▸ hx
  · exact h

/-- The smallest of some delays is one of them and no greater than any. -/
theorem smallest_spec (xs : List Nat) :
    (xs ≠ [] → smallest xs ∈ xs) ∧ ∀ x ∈ xs, smallest xs ≤ x := by
  cases xs with
  | nil => simp
  | cons y ys =>
    refine ⟨fun _ => ?_, fun x hx => foldl_min_le _ _ _ ?_⟩
    · rcases foldl_min_mem ys y with h | h <;> simp [smallest, h]
    · rcases List.mem_cons.1 hx with rfl | h
      · exact .inr (le_refl _)
      · exact .inl h

/-- A sum taken by a fold. -/
theorem foldl_add_eq_sum {α : Type} (xs : List α) (f : α → Nat) (a : Nat) :
    xs.foldl (fun acc x => acc + f x) a = a + (xs.map f).sum := by
  induction xs generalizing a with
  | nil => simp
  | cons x xs ih => simp [ih, Nat.add_assoc]

theorem lastSixteen_length {α : Type} (xs : List α) : (lastSixteen xs).length ≤ 16 := by
  simp [lastSixteen]
  omega

/-- One more item of a list that holds at most sixteen: the oldest is dropped when it is full. -/
theorem drop_full_append {α : Type} (xs : List α) (x : α) (h : xs.length ≤ 16) :
    (if 16 ≤ xs.length then xs.drop 1 else xs) ++ [x] = lastSixteen (xs ++ [x]) := by
  unfold lastSixteen
  split
  · have hl : xs.length = 16 := by omega
    rw [List.drop_append_of_le_length (by simp [hl])]
    simp [hl]
  · simp only [List.length_append, List.length_singleton]
    rw [show xs.length + 1 - 16 = 0 by omega]
    rfl

theorem lastSixteen_append {α : Type} (xs ys : List α) :
    lastSixteen (lastSixteen xs ++ ys) = lastSixteen (xs ++ ys) := by
  unfold lastSixteen
  rw [← List.drop_append_of_le_length (by omega), List.drop_drop]
  congr 1
  simp
  omega

/-! ## Delay lines -/

@[simp] theorem zeroLine_length : zeroLine.length = 1024 := List.length_replicate

/-- A full delay line stays full over a frame (R72, R73). -/
theorem lineNext_length {fresh line : List Quad} (h : line.length = 1024) :
    (lineNext fresh line).length = 1024 := by
  rw [lineNext, List.length_take, List.length_append, h]
  omega

end Sys2Proof.Machine
end

