-- ==== Sys2Proof/Laws/State.lean ====
section
/-! SUPPORT. Laws of the updates of State: for every update, one lemma per block of the hub, each true by
`rfl`, so that no proof unfolds a record update. -/

namespace Sys2Proof.Machine

@[simp] theorem Hub.onRemote_dlc (h : Hub) (p : PortId) (f : RemoteLink → RemoteLink) : (h.onRemote p f).dlc = h.dlc := rfl
@[simp] theorem Hub.onRemote_plm (h : Hub) (p : PortId) (f : RemoteLink → RemoteLink) : (h.onRemote p f).plm = h.plm := rfl
@[simp] theorem Hub.onRemote_deq (h : Hub) (p : PortId) (f : RemoteLink → RemoteLink) : (h.onRemote p f).deq = h.deq := rfl
@[simp] theorem Hub.onRemote_ulc (h : Hub) (p : PortId) (f : RemoteLink → RemoteLink) : (h.onRemote p f).ulc = h.ulc := rfl
@[simp] theorem Hub.onRemote_lvm (h : Hub) (p : PortId) (f : RemoteLink → RemoteLink) : (h.onRemote p f).lvm = h.lvm := rfl
@[simp] theorem Hub.onRemote_sbl (h : Hub) (p : PortId) (f : RemoteLink → RemoteLink) : (h.onRemote p f).sbl = h.sbl := rfl
@[simp] theorem Hub.onRemote_fsv (h : Hub) (p : PortId) (f : RemoteLink → RemoteLink) : (h.onRemote p f).fsv = h.fsv := rfl
@[simp] theorem Hub.onRemote_cte (h : Hub) (p : PortId) (f : RemoteLink → RemoteLink) : (h.onRemote p f).cte = h.cte := rfl
@[simp] theorem Hub.onRemote_mga (h : Hub) (p : PortId) (f : RemoteLink → RemoteLink) : (h.onRemote p f).mga = h.mga := rfl
@[simp] theorem Hub.onRemote_tld (h : Hub) (p : PortId) (f : RemoteLink → RemoteLink) : (h.onRemote p f).tld = h.tld := rfl
@[simp] theorem Hub.onRemote_frame (h : Hub) (p : PortId) (f : RemoteLink → RemoteLink) : (h.onRemote p f).frame = h.frame := rfl
@[simp] theorem Hub.onRemote_bd (h : Hub) (p : PortId) (f : RemoteLink → RemoteLink) : (h.onRemote p f).bd = h.bd := rfl

@[simp] theorem Hub.setCombining_lnk (h : Hub) (p : PortId) (b : Bool) : (h.setCombining p b).lnk = h.lnk := rfl
@[simp] theorem Hub.setCombining_plm (h : Hub) (p : PortId) (b : Bool) : (h.setCombining p b).plm = h.plm := rfl
@[simp] theorem Hub.setCombining_deq (h : Hub) (p : PortId) (b : Bool) : (h.setCombining p b).deq = h.deq := rfl
@[simp] theorem Hub.setCombining_ulc (h : Hub) (p : PortId) (b : Bool) : (h.setCombining p b).ulc = h.ulc := rfl
@[simp] theorem Hub.setCombining_lvm (h : Hub) (p : PortId) (b : Bool) : (h.setCombining p b).lvm = h.lvm := rfl
@[simp] theorem Hub.setCombining_sbl (h : Hub) (p : PortId) (b : Bool) : (h.setCombining p b).sbl = h.sbl := rfl
@[simp] theorem Hub.setCombining_fsv (h : Hub) (p : PortId) (b : Bool) : (h.setCombining p b).fsv = h.fsv := rfl
@[simp] theorem Hub.setCombining_cte (h : Hub) (p : PortId) (b : Bool) : (h.setCombining p b).cte = h.cte := rfl
@[simp] theorem Hub.setCombining_mga (h : Hub) (p : PortId) (b : Bool) : (h.setCombining p b).mga = h.mga := rfl
@[simp] theorem Hub.setCombining_tld (h : Hub) (p : PortId) (b : Bool) : (h.setCombining p b).tld = h.tld := rfl
@[simp] theorem Hub.setCombining_frame (h : Hub) (p : PortId) (b : Bool) : (h.setCombining p b).frame = h.frame := rfl
@[simp] theorem Hub.setCombining_bd (h : Hub) (p : PortId) (b : Bool) : (h.setCombining p b).bd = h.bd := rfl

@[simp] theorem Hub.onPlm_lnk (h : Hub) (p : PortId) (f : PortLimiter → PortLimiter) : (h.onPlm p f).lnk = h.lnk := rfl
@[simp] theorem Hub.onPlm_dlc (h : Hub) (p : PortId) (f : PortLimiter → PortLimiter) : (h.onPlm p f).dlc = h.dlc := rfl
@[simp] theorem Hub.onPlm_deq (h : Hub) (p : PortId) (f : PortLimiter → PortLimiter) : (h.onPlm p f).deq = h.deq := rfl
@[simp] theorem Hub.onPlm_ulc (h : Hub) (p : PortId) (f : PortLimiter → PortLimiter) : (h.onPlm p f).ulc = h.ulc := rfl
@[simp] theorem Hub.onPlm_lvm (h : Hub) (p : PortId) (f : PortLimiter → PortLimiter) : (h.onPlm p f).lvm = h.lvm := rfl
@[simp] theorem Hub.onPlm_sbl (h : Hub) (p : PortId) (f : PortLimiter → PortLimiter) : (h.onPlm p f).sbl = h.sbl := rfl
@[simp] theorem Hub.onPlm_fsv (h : Hub) (p : PortId) (f : PortLimiter → PortLimiter) : (h.onPlm p f).fsv = h.fsv := rfl
@[simp] theorem Hub.onPlm_cte (h : Hub) (p : PortId) (f : PortLimiter → PortLimiter) : (h.onPlm p f).cte = h.cte := rfl
@[simp] theorem Hub.onPlm_mga (h : Hub) (p : PortId) (f : PortLimiter → PortLimiter) : (h.onPlm p f).mga = h.mga := rfl
@[simp] theorem Hub.onPlm_tld (h : Hub) (p : PortId) (f : PortLimiter → PortLimiter) : (h.onPlm p f).tld = h.tld := rfl
@[simp] theorem Hub.onPlm_frame (h : Hub) (p : PortId) (f : PortLimiter → PortLimiter) : (h.onPlm p f).frame = h.frame := rfl
@[simp] theorem Hub.onPlm_bd (h : Hub) (p : PortId) (f : PortLimiter → PortLimiter) : (h.onPlm p f).bd = h.bd := rfl

@[simp] theorem Hub.onEq_lnk (h : Hub) (p : PortId) (f : PortEq → PortEq) : (h.onEq p f).lnk = h.lnk := rfl
@[simp] theorem Hub.onEq_dlc (h : Hub) (p : PortId) (f : PortEq → PortEq) : (h.onEq p f).dlc = h.dlc := rfl
@[simp] theorem Hub.onEq_plm (h : Hub) (p : PortId) (f : PortEq → PortEq) : (h.onEq p f).plm = h.plm := rfl
@[simp] theorem Hub.onEq_ulc (h : Hub) (p : PortId) (f : PortEq → PortEq) : (h.onEq p f).ulc = h.ulc := rfl
@[simp] theorem Hub.onEq_lvm (h : Hub) (p : PortId) (f : PortEq → PortEq) : (h.onEq p f).lvm = h.lvm := rfl
@[simp] theorem Hub.onEq_sbl (h : Hub) (p : PortId) (f : PortEq → PortEq) : (h.onEq p f).sbl = h.sbl := rfl
@[simp] theorem Hub.onEq_fsv (h : Hub) (p : PortId) (f : PortEq → PortEq) : (h.onEq p f).fsv = h.fsv := rfl
@[simp] theorem Hub.onEq_cte (h : Hub) (p : PortId) (f : PortEq → PortEq) : (h.onEq p f).cte = h.cte := rfl
@[simp] theorem Hub.onEq_mga (h : Hub) (p : PortId) (f : PortEq → PortEq) : (h.onEq p f).mga = h.mga := rfl
@[simp] theorem Hub.onEq_tld (h : Hub) (p : PortId) (f : PortEq → PortEq) : (h.onEq p f).tld = h.tld := rfl
@[simp] theorem Hub.onEq_frame (h : Hub) (p : PortId) (f : PortEq → PortEq) : (h.onEq p f).frame = h.frame := rfl
@[simp] theorem Hub.onEq_bd (h : Hub) (p : PortId) (f : PortEq → PortEq) : (h.onEq p f).bd = h.bd := rfl

@[simp] theorem Hub.onMeter_lnk (h : Hub) (p : PortId) (f : PortMeter → PortMeter) : (h.onMeter p f).lnk = h.lnk := rfl
@[simp] theorem Hub.onMeter_dlc (h : Hub) (p : PortId) (f : PortMeter → PortMeter) : (h.onMeter p f).dlc = h.dlc := rfl
@[simp] theorem Hub.onMeter_plm (h : Hub) (p : PortId) (f : PortMeter → PortMeter) : (h.onMeter p f).plm = h.plm := rfl
@[simp] theorem Hub.onMeter_deq (h : Hub) (p : PortId) (f : PortMeter → PortMeter) : (h.onMeter p f).deq = h.deq := rfl
@[simp] theorem Hub.onMeter_ulc (h : Hub) (p : PortId) (f : PortMeter → PortMeter) : (h.onMeter p f).ulc = h.ulc := rfl
@[simp] theorem Hub.onMeter_sbl (h : Hub) (p : PortId) (f : PortMeter → PortMeter) : (h.onMeter p f).sbl = h.sbl := rfl
@[simp] theorem Hub.onMeter_fsv (h : Hub) (p : PortId) (f : PortMeter → PortMeter) : (h.onMeter p f).fsv = h.fsv := rfl
@[simp] theorem Hub.onMeter_cte (h : Hub) (p : PortId) (f : PortMeter → PortMeter) : (h.onMeter p f).cte = h.cte := rfl
@[simp] theorem Hub.onMeter_mga (h : Hub) (p : PortId) (f : PortMeter → PortMeter) : (h.onMeter p f).mga = h.mga := rfl
@[simp] theorem Hub.onMeter_tld (h : Hub) (p : PortId) (f : PortMeter → PortMeter) : (h.onMeter p f).tld = h.tld := rfl
@[simp] theorem Hub.onMeter_frame (h : Hub) (p : PortId) (f : PortMeter → PortMeter) : (h.onMeter p f).frame = h.frame := rfl
@[simp] theorem Hub.onMeter_bd (h : Hub) (p : PortId) (f : PortMeter → PortMeter) : (h.onMeter p f).bd = h.bd := rfl

@[simp] theorem Hub.onBal_lnk (h : Hub) (p : PortId) (f : PortBalance → PortBalance) : (h.onBal p f).lnk = h.lnk := rfl
@[simp] theorem Hub.onBal_dlc (h : Hub) (p : PortId) (f : PortBalance → PortBalance) : (h.onBal p f).dlc = h.dlc := rfl
@[simp] theorem Hub.onBal_plm (h : Hub) (p : PortId) (f : PortBalance → PortBalance) : (h.onBal p f).plm = h.plm := rfl
@[simp] theorem Hub.onBal_deq (h : Hub) (p : PortId) (f : PortBalance → PortBalance) : (h.onBal p f).deq = h.deq := rfl
@[simp] theorem Hub.onBal_ulc (h : Hub) (p : PortId) (f : PortBalance → PortBalance) : (h.onBal p f).ulc = h.ulc := rfl
@[simp] theorem Hub.onBal_lvm (h : Hub) (p : PortId) (f : PortBalance → PortBalance) : (h.onBal p f).lvm = h.lvm := rfl
@[simp] theorem Hub.onBal_fsv (h : Hub) (p : PortId) (f : PortBalance → PortBalance) : (h.onBal p f).fsv = h.fsv := rfl
@[simp] theorem Hub.onBal_cte (h : Hub) (p : PortId) (f : PortBalance → PortBalance) : (h.onBal p f).cte = h.cte := rfl
@[simp] theorem Hub.onBal_mga (h : Hub) (p : PortId) (f : PortBalance → PortBalance) : (h.onBal p f).mga = h.mga := rfl
@[simp] theorem Hub.onBal_tld (h : Hub) (p : PortId) (f : PortBalance → PortBalance) : (h.onBal p f).tld = h.tld := rfl
@[simp] theorem Hub.onBal_frame (h : Hub) (p : PortId) (f : PortBalance → PortBalance) : (h.onBal p f).frame = h.frame := rfl
@[simp] theorem Hub.onBal_bd (h : Hub) (p : PortId) (f : PortBalance → PortBalance) : (h.onBal p f).bd = h.bd := rfl

@[simp] theorem Hub.onDet_lnk (h : Hub) (p : PortId) (f : Detectors → Detectors) : (h.onDet p f).lnk = h.lnk := rfl
@[simp] theorem Hub.onDet_dlc (h : Hub) (p : PortId) (f : Detectors → Detectors) : (h.onDet p f).dlc = h.dlc := rfl
@[simp] theorem Hub.onDet_plm (h : Hub) (p : PortId) (f : Detectors → Detectors) : (h.onDet p f).plm = h.plm := rfl
@[simp] theorem Hub.onDet_deq (h : Hub) (p : PortId) (f : Detectors → Detectors) : (h.onDet p f).deq = h.deq := rfl
@[simp] theorem Hub.onDet_ulc (h : Hub) (p : PortId) (f : Detectors → Detectors) : (h.onDet p f).ulc = h.ulc := rfl
@[simp] theorem Hub.onDet_lvm (h : Hub) (p : PortId) (f : Detectors → Detectors) : (h.onDet p f).lvm = h.lvm := rfl
@[simp] theorem Hub.onDet_sbl (h : Hub) (p : PortId) (f : Detectors → Detectors) : (h.onDet p f).sbl = h.sbl := rfl
@[simp] theorem Hub.onDet_cte (h : Hub) (p : PortId) (f : Detectors → Detectors) : (h.onDet p f).cte = h.cte := rfl
@[simp] theorem Hub.onDet_mga (h : Hub) (p : PortId) (f : Detectors → Detectors) : (h.onDet p f).mga = h.mga := rfl
@[simp] theorem Hub.onDet_tld (h : Hub) (p : PortId) (f : Detectors → Detectors) : (h.onDet p f).tld = h.tld := rfl
@[simp] theorem Hub.onDet_frame (h : Hub) (p : PortId) (f : Detectors → Detectors) : (h.onDet p f).frame = h.frame := rfl
@[simp] theorem Hub.onDet_bd (h : Hub) (p : PortId) (f : Detectors → Detectors) : (h.onDet p f).bd = h.bd := rfl

@[simp] theorem Hub.onCte_lnk (h : Hub) (p : PortId) (f : PortCte → PortCte) : (h.onCte p f).lnk = h.lnk := rfl
@[simp] theorem Hub.onCte_dlc (h : Hub) (p : PortId) (f : PortCte → PortCte) : (h.onCte p f).dlc = h.dlc := rfl
@[simp] theorem Hub.onCte_plm (h : Hub) (p : PortId) (f : PortCte → PortCte) : (h.onCte p f).plm = h.plm := rfl
@[simp] theorem Hub.onCte_deq (h : Hub) (p : PortId) (f : PortCte → PortCte) : (h.onCte p f).deq = h.deq := rfl
@[simp] theorem Hub.onCte_ulc (h : Hub) (p : PortId) (f : PortCte → PortCte) : (h.onCte p f).ulc = h.ulc := rfl
@[simp] theorem Hub.onCte_lvm (h : Hub) (p : PortId) (f : PortCte → PortCte) : (h.onCte p f).lvm = h.lvm := rfl
@[simp] theorem Hub.onCte_sbl (h : Hub) (p : PortId) (f : PortCte → PortCte) : (h.onCte p f).sbl = h.sbl := rfl
@[simp] theorem Hub.onCte_fsv (h : Hub) (p : PortId) (f : PortCte → PortCte) : (h.onCte p f).fsv = h.fsv := rfl
@[simp] theorem Hub.onCte_mga (h : Hub) (p : PortId) (f : PortCte → PortCte) : (h.onCte p f).mga = h.mga := rfl
@[simp] theorem Hub.onCte_tld (h : Hub) (p : PortId) (f : PortCte → PortCte) : (h.onCte p f).tld = h.tld := rfl
@[simp] theorem Hub.onCte_frame (h : Hub) (p : PortId) (f : PortCte → PortCte) : (h.onCte p f).frame = h.frame := rfl
@[simp] theorem Hub.onCte_bd (h : Hub) (p : PortId) (f : PortCte → PortCte) : (h.onCte p f).bd = h.bd := rfl

@[simp] theorem Hub.onGates_lnk (h : Hub) (p : PortId) (f : Vector Gate 4 → Vector Gate 4) : (h.onGates p f).lnk = h.lnk := rfl
@[simp] theorem Hub.onGates_dlc (h : Hub) (p : PortId) (f : Vector Gate 4 → Vector Gate 4) : (h.onGates p f).dlc = h.dlc := rfl
@[simp] theorem Hub.onGates_plm (h : Hub) (p : PortId) (f : Vector Gate 4 → Vector Gate 4) : (h.onGates p f).plm = h.plm := rfl
@[simp] theorem Hub.onGates_deq (h : Hub) (p : PortId) (f : Vector Gate 4 → Vector Gate 4) : (h.onGates p f).deq = h.deq := rfl
@[simp] theorem Hub.onGates_lvm (h : Hub) (p : PortId) (f : Vector Gate 4 → Vector Gate 4) : (h.onGates p f).lvm = h.lvm := rfl
@[simp] theorem Hub.onGates_sbl (h : Hub) (p : PortId) (f : Vector Gate 4 → Vector Gate 4) : (h.onGates p f).sbl = h.sbl := rfl
@[simp] theorem Hub.onGates_fsv (h : Hub) (p : PortId) (f : Vector Gate 4 → Vector Gate 4) : (h.onGates p f).fsv = h.fsv := rfl
@[simp] theorem Hub.onGates_cte (h : Hub) (p : PortId) (f : Vector Gate 4 → Vector Gate 4) : (h.onGates p f).cte = h.cte := rfl
@[simp] theorem Hub.onGates_mga (h : Hub) (p : PortId) (f : Vector Gate 4 → Vector Gate 4) : (h.onGates p f).mga = h.mga := rfl
@[simp] theorem Hub.onGates_tld (h : Hub) (p : PortId) (f : Vector Gate 4 → Vector Gate 4) : (h.onGates p f).tld = h.tld := rfl
@[simp] theorem Hub.onGates_frame (h : Hub) (p : PortId) (f : Vector Gate 4 → Vector Gate 4) : (h.onGates p f).frame = h.frame := rfl
@[simp] theorem Hub.onGates_bd (h : Hub) (p : PortId) (f : Vector Gate 4 → Vector Gate 4) : (h.onGates p f).bd = h.bd := rfl

@[simp] theorem Hub.raise_lnk (h : Hub) (n : Notice) : (h.raise n).lnk = h.lnk := rfl
@[simp] theorem Hub.raise_dlc (h : Hub) (n : Notice) : (h.raise n).dlc = h.dlc := rfl
@[simp] theorem Hub.raise_plm (h : Hub) (n : Notice) : (h.raise n).plm = h.plm := rfl
@[simp] theorem Hub.raise_deq (h : Hub) (n : Notice) : (h.raise n).deq = h.deq := rfl
@[simp] theorem Hub.raise_ulc (h : Hub) (n : Notice) : (h.raise n).ulc = h.ulc := rfl
@[simp] theorem Hub.raise_lvm (h : Hub) (n : Notice) : (h.raise n).lvm = h.lvm := rfl
@[simp] theorem Hub.raise_sbl (h : Hub) (n : Notice) : (h.raise n).sbl = h.sbl := rfl
@[simp] theorem Hub.raise_fsv (h : Hub) (n : Notice) : (h.raise n).fsv = h.fsv := rfl
@[simp] theorem Hub.raise_cte (h : Hub) (n : Notice) : (h.raise n).cte = h.cte := rfl
@[simp] theorem Hub.raise_tld (h : Hub) (n : Notice) : (h.raise n).tld = h.tld := rfl
@[simp] theorem Hub.raise_frame (h : Hub) (n : Notice) : (h.raise n).frame = h.frame := rfl
@[simp] theorem Hub.raise_bd (h : Hub) (n : Notice) : (h.raise n).bd = h.bd := rfl

@[simp] theorem Hub.unmark_lnk (h : Hub) (n : Notice) : (h.unmark n).lnk = h.lnk := rfl
@[simp] theorem Hub.unmark_dlc (h : Hub) (n : Notice) : (h.unmark n).dlc = h.dlc := rfl
@[simp] theorem Hub.unmark_plm (h : Hub) (n : Notice) : (h.unmark n).plm = h.plm := rfl
@[simp] theorem Hub.unmark_deq (h : Hub) (n : Notice) : (h.unmark n).deq = h.deq := rfl
@[simp] theorem Hub.unmark_ulc (h : Hub) (n : Notice) : (h.unmark n).ulc = h.ulc := rfl
@[simp] theorem Hub.unmark_lvm (h : Hub) (n : Notice) : (h.unmark n).lvm = h.lvm := rfl
@[simp] theorem Hub.unmark_sbl (h : Hub) (n : Notice) : (h.unmark n).sbl = h.sbl := rfl
@[simp] theorem Hub.unmark_fsv (h : Hub) (n : Notice) : (h.unmark n).fsv = h.fsv := rfl
@[simp] theorem Hub.unmark_cte (h : Hub) (n : Notice) : (h.unmark n).cte = h.cte := rfl
@[simp] theorem Hub.unmark_tld (h : Hub) (n : Notice) : (h.unmark n).tld = h.tld := rfl
@[simp] theorem Hub.unmark_frame (h : Hub) (n : Notice) : (h.unmark n).frame = h.frame := rfl
@[simp] theorem Hub.unmark_bd (h : Hub) (n : Notice) : (h.unmark n).bd = h.bd := rfl

@[simp] theorem Hub.respond_lnk (h : Hub) (tag : Byte) (st : Status) (r : Byte) (x : List Byte) : (h.respond tag st r x).lnk = h.lnk := rfl
@[simp] theorem Hub.respond_dlc (h : Hub) (tag : Byte) (st : Status) (r : Byte) (x : List Byte) : (h.respond tag st r x).dlc = h.dlc := rfl
@[simp] theorem Hub.respond_plm (h : Hub) (tag : Byte) (st : Status) (r : Byte) (x : List Byte) : (h.respond tag st r x).plm = h.plm := rfl
@[simp] theorem Hub.respond_deq (h : Hub) (tag : Byte) (st : Status) (r : Byte) (x : List Byte) : (h.respond tag st r x).deq = h.deq := rfl
@[simp] theorem Hub.respond_ulc (h : Hub) (tag : Byte) (st : Status) (r : Byte) (x : List Byte) : (h.respond tag st r x).ulc = h.ulc := rfl
@[simp] theorem Hub.respond_lvm (h : Hub) (tag : Byte) (st : Status) (r : Byte) (x : List Byte) : (h.respond tag st r x).lvm = h.lvm := rfl
@[simp] theorem Hub.respond_sbl (h : Hub) (tag : Byte) (st : Status) (r : Byte) (x : List Byte) : (h.respond tag st r x).sbl = h.sbl := rfl
@[simp] theorem Hub.respond_fsv (h : Hub) (tag : Byte) (st : Status) (r : Byte) (x : List Byte) : (h.respond tag st r x).fsv = h.fsv := rfl
@[simp] theorem Hub.respond_cte (h : Hub) (tag : Byte) (st : Status) (r : Byte) (x : List Byte) : (h.respond tag st r x).cte = h.cte := rfl
@[simp] theorem Hub.respond_tld (h : Hub) (tag : Byte) (st : Status) (r : Byte) (x : List Byte) : (h.respond tag st r x).tld = h.tld := rfl
@[simp] theorem Hub.respond_frame (h : Hub) (tag : Byte) (st : Status) (r : Byte) (x : List Byte) : (h.respond tag st r x).frame = h.frame := rfl
@[simp] theorem Hub.respond_bd (h : Hub) (tag : Byte) (st : Status) (r : Byte) (x : List Byte) : (h.respond tag st r x).bd = h.bd := rfl

@[simp] theorem Hub.setBusy_lnk (h : Hub) (b : Busy) : (h.setBusy b).lnk = h.lnk := rfl
@[simp] theorem Hub.setBusy_dlc (h : Hub) (b : Busy) : (h.setBusy b).dlc = h.dlc := rfl
@[simp] theorem Hub.setBusy_plm (h : Hub) (b : Busy) : (h.setBusy b).plm = h.plm := rfl
@[simp] theorem Hub.setBusy_deq (h : Hub) (b : Busy) : (h.setBusy b).deq = h.deq := rfl
@[simp] theorem Hub.setBusy_ulc (h : Hub) (b : Busy) : (h.setBusy b).ulc = h.ulc := rfl
@[simp] theorem Hub.setBusy_lvm (h : Hub) (b : Busy) : (h.setBusy b).lvm = h.lvm := rfl
@[simp] theorem Hub.setBusy_sbl (h : Hub) (b : Busy) : (h.setBusy b).sbl = h.sbl := rfl
@[simp] theorem Hub.setBusy_fsv (h : Hub) (b : Busy) : (h.setBusy b).fsv = h.fsv := rfl
@[simp] theorem Hub.setBusy_cte (h : Hub) (b : Busy) : (h.setBusy b).cte = h.cte := rfl
@[simp] theorem Hub.setBusy_tld (h : Hub) (b : Busy) : (h.setBusy b).tld = h.tld := rfl
@[simp] theorem Hub.setBusy_frame (h : Hub) (b : Busy) : (h.setBusy b).frame = h.frame := rfl
@[simp] theorem Hub.setBusy_bd (h : Hub) (b : Busy) : (h.setBusy b).bd = h.bd := rfl

@[simp] theorem Hub.free_lnk (h : Hub) : (h.free).lnk = h.lnk := rfl
@[simp] theorem Hub.free_dlc (h : Hub) : (h.free).dlc = h.dlc := rfl
@[simp] theorem Hub.free_plm (h : Hub) : (h.free).plm = h.plm := rfl
@[simp] theorem Hub.free_deq (h : Hub) : (h.free).deq = h.deq := rfl
@[simp] theorem Hub.free_ulc (h : Hub) : (h.free).ulc = h.ulc := rfl
@[simp] theorem Hub.free_lvm (h : Hub) : (h.free).lvm = h.lvm := rfl
@[simp] theorem Hub.free_sbl (h : Hub) : (h.free).sbl = h.sbl := rfl
@[simp] theorem Hub.free_fsv (h : Hub) : (h.free).fsv = h.fsv := rfl
@[simp] theorem Hub.free_cte (h : Hub) : (h.free).cte = h.cte := rfl
@[simp] theorem Hub.free_tld (h : Hub) : (h.free).tld = h.tld := rfl
@[simp] theorem Hub.free_frame (h : Hub) : (h.free).frame = h.frame := rfl
@[simp] theorem Hub.free_bd (h : Hub) : (h.free).bd = h.bd := rfl

/-! ## What each update writes -/

@[simp] theorem Hub.onRemote_remote (h : Hub) (p : PortId) (f : RemoteLink → RemoteLink) :
    (h.onRemote p f).lnk.remote = upd h.lnk.remote p f := rfl
@[simp] theorem Hub.onRemote_donor (h : Hub) (p : PortId) (f : RemoteLink → RemoteLink) :
    (h.onRemote p f).lnk.donor = h.lnk.donor := rfl
@[simp] theorem Hub.onRemote_trunk (h : Hub) (p : PortId) (f : RemoteLink → RemoteLink) :
    (h.onRemote p f).lnk.trunk = h.lnk.trunk := rfl
@[simp] theorem Hub.onRemote_frameNumber (h : Hub) (p : PortId) (f : RemoteLink → RemoteLink) :
    (h.onRemote p f).lnk.frameNumber = h.lnk.frameNumber := rfl
@[simp] theorem Hub.setCombining_combining (h : Hub) (p : PortId) (b : Bool) :
    (h.setCombining p b).dlc.combining = h.dlc.combining.set p.val b p.isLt := rfl
@[simp] theorem Hub.setCombining_carriers (h : Hub) (p : PortId) (b : Bool) :
    (h.setCombining p b).dlc.carriers = h.dlc.carriers := rfl
@[simp] theorem Hub.onPlm_plm (h : Hub) (p : PortId) (f : PortLimiter → PortLimiter) :
    (h.onPlm p f).plm = upd h.plm p f := rfl
@[simp] theorem Hub.onEq_ports (h : Hub) (p : PortId) (f : PortEq → PortEq) :
    (h.onEq p f).deq.ports = upd h.deq.ports p f := rfl
@[simp] theorem Hub.onEq_sectors (h : Hub) (p : PortId) (f : PortEq → PortEq) :
    (h.onEq p f).deq.sectors = h.deq.sectors := rfl
@[simp] theorem Hub.onMeter_ports (h : Hub) (p : PortId) (f : PortMeter → PortMeter) :
    (h.onMeter p f).lvm.ports = upd h.lvm.ports p f := rfl
@[simp] theorem Hub.onMeter_windowCount (h : Hub) (p : PortId) (f : PortMeter → PortMeter) :
    (h.onMeter p f).lvm.windowCount = h.lvm.windowCount := rfl
@[simp] theorem Hub.onBal_ports (h : Hub) (p : PortId) (f : PortBalance → PortBalance) :
    (h.onBal p f).sbl.ports = upd h.sbl.ports p f := rfl
@[simp] theorem Hub.onBal_flight (h : Hub) (p : PortId) (f : PortBalance → PortBalance) :
    (h.onBal p f).sbl.flight = h.sbl.flight := rfl
@[simp] theorem Hub.onBal_queue (h : Hub) (p : PortId) (f : PortBalance → PortBalance) :
    (h.onBal p f).sbl.queue = h.sbl.queue := rfl
@[simp] theorem Hub.onBal_log (h : Hub) (p : PortId) (f : PortBalance → PortBalance) :
    (h.onBal p f).sbl.log = h.sbl.log := rfl
@[simp] theorem Hub.onDet_detectors (h : Hub) (p : PortId) (f : Detectors → Detectors) :
    (h.onDet p f).fsv.detectors = upd h.fsv.detectors p f := rfl
@[simp] theorem Hub.onDet_portRecords (h : Hub) (p : PortId) (f : Detectors → Detectors) :
    (h.onDet p f).fsv.portRecords = h.fsv.portRecords := rfl
@[simp] theorem Hub.onDet_donorRecords (h : Hub) (p : PortId) (f : Detectors → Detectors) :
    (h.onDet p f).fsv.donorRecords = h.fsv.donorRecords := rfl
@[simp] theorem Hub.onDet_history (h : Hub) (p : PortId) (f : Detectors → Detectors) :
    (h.onDet p f).fsv.history = h.fsv.history := rfl
@[simp] theorem Hub.onCte_ports (h : Hub) (p : PortId) (f : PortCte → PortCte) :
    (h.onCte p f).cte.ports = upd h.cte.ports p f := rfl
@[simp] theorem Hub.onCte_transaction (h : Hub) (p : PortId) (f : PortCte → PortCte) :
    (h.onCte p f).cte.transaction = h.cte.transaction := rfl
@[simp] theorem Hub.onGates_gates (h : Hub) (p : PortId) (f : Vector Gate 4 → Vector Gate 4) :
    (h.onGates p f).ulc.gates = upd h.ulc.gates p f := rfl
@[simp] theorem Hub.onGates_records (h : Hub) (p : PortId) (f : Vector Gate 4 → Vector Gate 4) :
    (h.onGates p f).ulc.records = h.ulc.records := rfl

@[simp] theorem Hub.raise_hubState (h : Hub) (n : Notice) : (h.raise n).mga.hubState = h.mga.hubState := rfl
@[simp] theorem Hub.raise_frameCount (h : Hub) (n : Notice) : (h.raise n).mga.frameCount = h.mga.frameCount := rfl
@[simp] theorem Hub.raise_seconds (h : Hub) (n : Notice) : (h.raise n).mga.seconds = h.mga.seconds := rfl
@[simp] theorem Hub.raise_requests (h : Hub) (n : Notice) : (h.raise n).mga.requests = h.mga.requests := rfl
@[simp] theorem Hub.raise_responses (h : Hub) (n : Notice) : (h.raise n).mga.responses = h.mga.responses := rfl
@[simp] theorem Hub.raise_busy (h : Hub) (n : Notice) : (h.raise n).mga.busy = h.mga.busy := rfl
@[simp] theorem Hub.raise_busyRipe (h : Hub) (n : Notice) : (h.raise n).mga.busyRipe = h.mga.busyRipe := rfl
@[simp] theorem Hub.raise_overrun (h : Hub) (n : Notice) : (h.raise n).mga.overrun = h.mga.overrun := rfl
@[simp] theorem Hub.raise_unexpected (h : Hub) (n : Notice) : (h.raise n).mga.unexpected = h.mga.unexpected := rfl
@[simp] theorem Hub.raise_cell (h : Hub) (n : Notice) : (h.raise n).mga.cell = h.mga.cell := rfl
@[simp] theorem Hub.raise_sent (h : Hub) (n : Notice) : (h.raise n).mga.sent = h.mga.sent := rfl
@[simp] theorem Hub.unmark_hubState (h : Hub) (n : Notice) : (h.unmark n).mga.hubState = h.mga.hubState := rfl
@[simp] theorem Hub.unmark_frameCount (h : Hub) (n : Notice) : (h.unmark n).mga.frameCount = h.mga.frameCount := rfl
@[simp] theorem Hub.unmark_seconds (h : Hub) (n : Notice) : (h.unmark n).mga.seconds = h.mga.seconds := rfl
@[simp] theorem Hub.unmark_requests (h : Hub) (n : Notice) : (h.unmark n).mga.requests = h.mga.requests := rfl
@[simp] theorem Hub.unmark_responses (h : Hub) (n : Notice) : (h.unmark n).mga.responses = h.mga.responses := rfl
@[simp] theorem Hub.unmark_busy (h : Hub) (n : Notice) : (h.unmark n).mga.busy = h.mga.busy := rfl
@[simp] theorem Hub.unmark_busyRipe (h : Hub) (n : Notice) : (h.unmark n).mga.busyRipe = h.mga.busyRipe := rfl
@[simp] theorem Hub.unmark_overrun (h : Hub) (n : Notice) : (h.unmark n).mga.overrun = h.mga.overrun := rfl
@[simp] theorem Hub.unmark_unexpected (h : Hub) (n : Notice) : (h.unmark n).mga.unexpected = h.mga.unexpected := rfl
@[simp] theorem Hub.unmark_cell (h : Hub) (n : Notice) : (h.unmark n).mga.cell = h.mga.cell := rfl
@[simp] theorem Hub.unmark_sent (h : Hub) (n : Notice) : (h.unmark n).mga.sent = h.mga.sent := rfl
@[simp] theorem Hub.respond_hubState (h : Hub) (tag : Byte) (st : Status) (r : Byte) (x : List Byte) : (h.respond tag st r x).mga.hubState = h.mga.hubState := rfl
@[simp] theorem Hub.respond_frameCount (h : Hub) (tag : Byte) (st : Status) (r : Byte) (x : List Byte) : (h.respond tag st r x).mga.frameCount = h.mga.frameCount := rfl
@[simp] theorem Hub.respond_seconds (h : Hub) (tag : Byte) (st : Status) (r : Byte) (x : List Byte) : (h.respond tag st r x).mga.seconds = h.mga.seconds := rfl
@[simp] theorem Hub.respond_requests (h : Hub) (tag : Byte) (st : Status) (r : Byte) (x : List Byte) : (h.respond tag st r x).mga.requests = h.mga.requests := rfl
@[simp] theorem Hub.respond_busy (h : Hub) (tag : Byte) (st : Status) (r : Byte) (x : List Byte) : (h.respond tag st r x).mga.busy = h.mga.busy := rfl
@[simp] theorem Hub.respond_busyRipe (h : Hub) (tag : Byte) (st : Status) (r : Byte) (x : List Byte) : (h.respond tag st r x).mga.busyRipe = h.mga.busyRipe := rfl
@[simp] theorem Hub.respond_marks (h : Hub) (tag : Byte) (st : Status) (r : Byte) (x : List Byte) : (h.respond tag st r x).mga.marks = h.mga.marks := rfl
@[simp] theorem Hub.respond_overrun (h : Hub) (tag : Byte) (st : Status) (r : Byte) (x : List Byte) : (h.respond tag st r x).mga.overrun = h.mga.overrun := rfl
@[simp] theorem Hub.respond_unexpected (h : Hub) (tag : Byte) (st : Status) (r : Byte) (x : List Byte) : (h.respond tag st r x).mga.unexpected = h.mga.unexpected := rfl
@[simp] theorem Hub.respond_cell (h : Hub) (tag : Byte) (st : Status) (r : Byte) (x : List Byte) : (h.respond tag st r x).mga.cell = h.mga.cell := rfl
@[simp] theorem Hub.respond_sent (h : Hub) (tag : Byte) (st : Status) (r : Byte) (x : List Byte) : (h.respond tag st r x).mga.sent = h.mga.sent := rfl
@[simp] theorem Hub.setBusy_hubState (h : Hub) (b : Busy) : (h.setBusy b).mga.hubState = h.mga.hubState := rfl
@[simp] theorem Hub.setBusy_frameCount (h : Hub) (b : Busy) : (h.setBusy b).mga.frameCount = h.mga.frameCount := rfl
@[simp] theorem Hub.setBusy_seconds (h : Hub) (b : Busy) : (h.setBusy b).mga.seconds = h.mga.seconds := rfl
@[simp] theorem Hub.setBusy_requests (h : Hub) (b : Busy) : (h.setBusy b).mga.requests = h.mga.requests := rfl
@[simp] theorem Hub.setBusy_responses (h : Hub) (b : Busy) : (h.setBusy b).mga.responses = h.mga.responses := rfl
@[simp] theorem Hub.setBusy_marks (h : Hub) (b : Busy) : (h.setBusy b).mga.marks = h.mga.marks := rfl
@[simp] theorem Hub.setBusy_overrun (h : Hub) (b : Busy) : (h.setBusy b).mga.overrun = h.mga.overrun := rfl
@[simp] theorem Hub.setBusy_unexpected (h : Hub) (b : Busy) : (h.setBusy b).mga.unexpected = h.mga.unexpected := rfl
@[simp] theorem Hub.setBusy_cell (h : Hub) (b : Busy) : (h.setBusy b).mga.cell = h.mga.cell := rfl
@[simp] theorem Hub.setBusy_sent (h : Hub) (b : Busy) : (h.setBusy b).mga.sent = h.mga.sent := rfl
@[simp] theorem Hub.free_hubState (h : Hub) : (h.free).mga.hubState = h.mga.hubState := rfl
@[simp] theorem Hub.free_frameCount (h : Hub) : (h.free).mga.frameCount = h.mga.frameCount := rfl
@[simp] theorem Hub.free_seconds (h : Hub) : (h.free).mga.seconds = h.mga.seconds := rfl
@[simp] theorem Hub.free_requests (h : Hub) : (h.free).mga.requests = h.mga.requests := rfl
@[simp] theorem Hub.free_responses (h : Hub) : (h.free).mga.responses = h.mga.responses := rfl
@[simp] theorem Hub.free_marks (h : Hub) : (h.free).mga.marks = h.mga.marks := rfl
@[simp] theorem Hub.free_overrun (h : Hub) : (h.free).mga.overrun = h.mga.overrun := rfl
@[simp] theorem Hub.free_unexpected (h : Hub) : (h.free).mga.unexpected = h.mga.unexpected := rfl
@[simp] theorem Hub.free_cell (h : Hub) : (h.free).mga.cell = h.mga.cell := rfl
@[simp] theorem Hub.free_sent (h : Hub) : (h.free).mga.sent = h.mga.sent := rfl

@[simp] theorem Hub.setBusy_busy (h : Hub) (b : Busy) : (h.setBusy b).mga.busy = some b := rfl
@[simp] theorem Hub.free_busy (h : Hub) : h.free.mga.busy = none := rfl

/-! ## The core of a link -/

theorem Hub.onCore_core_same (h : Hub) (l : LinkId) (f : LinkCore → LinkCore) :
    (h.onCore l f).core l = f (h.core l) := by
  cases l <;> simp [Hub.onCore, Hub.core, Hub.onRemote]

theorem Hub.onCore_core_other (h : Hub) {l m : LinkId} (f : LinkCore → LinkCore) (hne : l ≠ m) :
    (h.onCore l f).core m = h.core m := by
  cases l <;> cases m <;> simp_all [Hub.onCore, Hub.core, Hub.onRemote, upd_getElem, Fin.ext_iff]

@[simp] theorem Hub.onCore_dlc (h : Hub) (l : LinkId) (f : LinkCore → LinkCore) : (h.onCore l f).dlc = h.dlc := by cases l <;> rfl
@[simp] theorem Hub.onCore_plm (h : Hub) (l : LinkId) (f : LinkCore → LinkCore) : (h.onCore l f).plm = h.plm := by cases l <;> rfl
@[simp] theorem Hub.onCore_deq (h : Hub) (l : LinkId) (f : LinkCore → LinkCore) : (h.onCore l f).deq = h.deq := by cases l <;> rfl
@[simp] theorem Hub.onCore_ulc (h : Hub) (l : LinkId) (f : LinkCore → LinkCore) : (h.onCore l f).ulc = h.ulc := by cases l <;> rfl
@[simp] theorem Hub.onCore_lvm (h : Hub) (l : LinkId) (f : LinkCore → LinkCore) : (h.onCore l f).lvm = h.lvm := by cases l <;> rfl
@[simp] theorem Hub.onCore_sbl (h : Hub) (l : LinkId) (f : LinkCore → LinkCore) : (h.onCore l f).sbl = h.sbl := by cases l <;> rfl
@[simp] theorem Hub.onCore_fsv (h : Hub) (l : LinkId) (f : LinkCore → LinkCore) : (h.onCore l f).fsv = h.fsv := by cases l <;> rfl
@[simp] theorem Hub.onCore_cte (h : Hub) (l : LinkId) (f : LinkCore → LinkCore) : (h.onCore l f).cte = h.cte := by cases l <;> rfl
@[simp] theorem Hub.onCore_mga (h : Hub) (l : LinkId) (f : LinkCore → LinkCore) : (h.onCore l f).mga = h.mga := by cases l <;> rfl
@[simp] theorem Hub.onCore_tld (h : Hub) (l : LinkId) (f : LinkCore → LinkCore) : (h.onCore l f).tld = h.tld := by cases l <;> rfl
@[simp] theorem Hub.onCore_frame (h : Hub) (l : LinkId) (f : LinkCore → LinkCore) : (h.onCore l f).frame = h.frame := by cases l <;> rfl
@[simp] theorem Hub.onCore_bd (h : Hub) (l : LinkId) (f : LinkCore → LinkCore) : (h.onCore l f).bd = h.bd := by cases l <;> rfl

end Sys2Proof.Machine
end

