-- ==== Sys2Proof/Laws/Fault.lean ====
section
/-! SUPPORT. Laws of the fault supervisor: what a change of a fault record may touch (`Supervised`), and which record
holds what after each operation. -/

namespace Sys2Proof.Machine

/-! ## What supervision touches -/

/-- `h'` is `h` after supervision acted: fault records and history, the identify state of ports, quiet states and the
ending mark of the move in flight, and pending marks may differ; every assignment and every other item stands. -/
structure Supervised (h h' : Hub) : Prop where
  hub : h' = { h with
    fsv := { h'.fsv with detectors := h.fsv.detectors }
    cte := { h.cte with ports := h'.cte.ports }
    sbl := { h.sbl with flight := h'.sbl.flight, ports := h'.sbl.ports }
    mga := { h.mga with marks := h'.mga.marks } }
  assign : ∀ q : PortId, h'.assignOf q = h.assignOf q
  flight : h'.sbl.flight.map (fun m => { m with ending := none })
    = h.sbl.flight.map (fun m => { m with ending := none })

theorem Supervised.same (h : Hub) : Supervised h h := ⟨rfl, fun _ => rfl, rfl⟩

theorem Supervised.trans {a b c : Hub} (x : Supervised a b) (y : Supervised b c) : Supervised a c := by
  refine ⟨?_, fun q => (y.assign q).trans (x.assign q), y.flight.trans x.flight⟩
  have hx := x.hub
  have hy := y.hub
  rw [hy]
  rw [hx]

theorem Supervised.ite (p : Prop) [Decidable p] {a b c : Hub} (x : Supervised a b) (y : Supervised a c) :
    Supervised a (if p then b else c) := by
  split
  · exact x
  · exact y

section Fields
variable {h h' : Hub} (k : Supervised h h')
include k

theorem Supervised.lnk : h'.lnk = h.lnk := by rw [k.hub]
theorem Supervised.dlc : h'.dlc = h.dlc := by rw [k.hub]
theorem Supervised.plm : h'.plm = h.plm := by rw [k.hub]
theorem Supervised.deq : h'.deq = h.deq := by rw [k.hub]
theorem Supervised.ulc : h'.ulc = h.ulc := by rw [k.hub]
theorem Supervised.lvm : h'.lvm = h.lvm := by rw [k.hub]
theorem Supervised.tld : h'.tld = h.tld := by rw [k.hub]
theorem Supervised.frame : h'.frame = h.frame := by rw [k.hub]
theorem Supervised.bd : h'.bd = h.bd := by rw [k.hub]
theorem Supervised.detectors : h'.fsv.detectors = h.fsv.detectors := by rw [k.hub]
theorem Supervised.mga : h'.mga = { h.mga with marks := h'.mga.marks } := by rw [k.hub]
theorem Supervised.sbl : h'.sbl = { h.sbl with flight := h'.sbl.flight, ports := h'.sbl.ports } := by rw [k.hub]
theorem Supervised.cte : h'.cte = { h.cte with ports := h'.cte.ports } := by rw [k.hub]

end Fields

theorem supervised_putRecord (h : Hub) (k : FaultKey) (r : FaultRecord) : Supervised h (h.putRecord k r) := by
  cases k <;> exact ⟨rfl, fun _ => rfl, rfl⟩

theorem supervised_markMove (h : Hub) (p : PortId) (c : EndingCause) : Supervised h (h.markMove p c) := by
  unfold Hub.markMove
  cases hf : h.sbl.flight with
  | none => exact .same h
  | some m =>
    by_cases hm : m.entry.port = p ∧ m.ending = none
    · simp only [hm, and_self, if_true]
      exact ⟨rfl, fun _ => rfl, by simp [hf]⟩
    · simp only [hm, if_false]
      exact .same h

theorem supervised_raise (h : Hub) (n : Notice) : Supervised h (h.raise n) := ⟨rfl, fun _ => rfl, rfl⟩

theorem supervised_newIdentify (h : Hub) (p : PortId) : Supervised h (h.newIdentify p) :=
  ⟨rfl, fun _ => rfl, rfl⟩

theorem supervised_onCte (h : Hub) (p : PortId) (f : PortCte → PortCte) : Supervised h (h.onCte p f) :=
  ⟨rfl, fun _ => rfl, rfl⟩

theorem supervised_writeHistory (h : Hub) (k : FaultKey) (t : Transition) :
    Supervised h (h.writeHistory k t) := ⟨rfl, fun _ => rfl, rfl⟩

theorem supervised_onBal (h : Hub) (p : PortId) {f : PortBalance → PortBalance}
    (hf : ∀ b, (f b).assign = b.assign) : Supervised h (h.onBal p f) := by
  refine ⟨rfl, fun q => ?_, rfl⟩
  simp only [Hub.assignOf, Hub.onBal, Fin.getElem_fin, upd_getElem]
  split <;> simp [hf]

/-- Waking a port in closed form: a QUIET port, its entry due at this boundary included, wakes with its cause. -/
theorem wakePort_eq (h : Hub) (p : PortId) (w : WakeCause) : h.wakePort p w =
    if h.isQuiet p then { h with
      mga := h.mga.raised .quiet
      sbl := { h.sbl with ports := upd h.sbl.ports p fun b =>
        { b with quiet := false, quietDue := false, quietCount := 0, wakeCause := w } } }
    else h := by
  unfold Hub.wakePort Hub.isQuiet
  rcases hq : h.sbl.ports[p].quiet <;> rcases hd : h.sbl.ports[p].quietDue <;>
    simp_all [Hub.enterQuiet, Hub.onBal, Hub.raise, Mga.raised]
  all_goals
    ext i hi
    by_cases hh : p.val = i
    · subst hh
      simp_all [upd]
    · simp [upd, hh]

theorem supervised_wakePort (h : Hub) (p : PortId) (w : WakeCause) : Supervised h (h.wakePort p w) := by
  rw [wakePort_eq]
  split
  · refine ⟨rfl, fun q => ?_, rfl⟩
    simp only [Hub.assignOf, Fin.getElem_fin, upd_getElem]
    split <;> rfl
  · exact .same h

theorem supervised_changeRecord (h : Hub) (k : FaultKey) (r : FaultRecord) :
    Supervised h (h.changeRecord k r) := by
  cases k with
  | donor d => exact supervised_putRecord h (.donor d) r
  | port p c =>
    refine (supervised_putRecord h (.port p c) r).trans (.trans (.ite _ (supervised_markMove _ _ _) (.same _))
      (.trans (.ite _ (supervised_wakePort _ _ _) (.same _)) (.ite _ (supervised_newIdentify _ _) (.same _))))

theorem supervised_detect (h : Hub) (k : FaultKey) : Supervised h (h.detect k) := by
  unfold Hub.detect
  simp only
  refine .ite _ (supervised_changeRecord _ _ _) ?_
  refine .ite _ ?_ ?_
  · exact .trans (supervised_changeRecord _ _ _) (.trans (supervised_writeHistory _ _ _) (supervised_raise _ _))
  · exact .trans (supervised_changeRecord _ _ _) (supervised_writeHistory _ _ _)

theorem supervised_present (h : Hub) (k : FaultKey) : Supervised h (h.present k) :=
  .ite _ (.same h) (supervised_detect h k)

theorem supervised_clearCondition (h : Hub) (k : FaultKey) : Supervised h (h.clearCondition k) := by
  unfold Hub.clearCondition
  simp only
  refine .ite _ (.same h) (.ite _ ?_ (supervised_putRecord _ _ _))
  exact .trans (supervised_changeRecord _ _ _) (supervised_writeHistory _ _ _)

theorem supervised_coolingExpiry (h : Hub) (k : FaultKey) : Supervised h (h.coolingExpiry k) := by
  unfold Hub.coolingExpiry
  simp only
  refine .ite _ (.same h) ?_
  have hi : ∀ g : Hub, Supervised g (match k with | .port p .rauNoReply => g.newIdentify p | _ => g) := by
    intro g
    split
    · exact supervised_newIdentify _ _
    · exact .same g
  refine .trans ?_ (hi _)
  refine .ite _ (.ite _ ?_ ?_) (.ite _ ?_ ?_)
  · exact .trans (supervised_writeHistory _ _ _) (.trans (supervised_changeRecord _ _ _)
      (.trans (supervised_writeHistory _ _ _) (supervised_raise _ _)))
  · exact .trans (supervised_writeHistory _ _ _) (supervised_changeRecord _ _ _)
  · exact .trans (supervised_changeRecord _ _ _) (.trans (supervised_writeHistory _ _ _) (supervised_raise _ _))
  · exact .trans (supervised_changeRecord _ _ _) (supervised_writeHistory _ _ _)

theorem supervised_each {n : Nat} {f : Fin n → Hub → Hub} (hf : ∀ i h, Supervised h (f i h)) (h : Hub) :
    Supervised h (each f h) :=
  each_keeps (P := Supervised h) (fun i g hg => hg.trans (hf i g)) (.same h)

/-! ## Which record holds what -/

theorem PortClass.idx_inj {a b : PortClass} : a.idx = b.idx ↔ a = b := by
  cases a <;> cases b <;> simp [PortClass.idx]

theorem faultRecord_putRecord (h : Hub) (k k' : FaultKey) (r : FaultRecord) :
    (h.putRecord k r).faultRecord k' = if k' = k then r else h.faultRecord k' := by
  cases k with
  | donor d =>
    cases k' with
    | donor e => simp [Hub.putRecord, Hub.faultRecord, Vector.getElem_set, Fin.ext_iff, eq_comm]
    | port => simp [Hub.putRecord, Hub.faultRecord]
  | port p c =>
    cases k' with
    | donor => simp [Hub.putRecord, Hub.faultRecord]
    | port q e =>
      simp only [Hub.putRecord, Hub.faultRecord, Fin.getElem_fin, upd_getElem, FaultKey.port.injEq]
      by_cases hpq : p = q
      · subst hpq
        simp [Vector.getElem_set, ← Fin.ext_iff, PortClass.idx_inj, eq_comm]
      · have : ¬ (p.val = q.val) := fun e => hpq (Fin.ext e)
        simp [this, Ne.symm hpq]

theorem faultRecord_of_fsv {h h' : Hub} (hp : h'.fsv.portRecords = h.fsv.portRecords)
    (hd : h'.fsv.donorRecords = h.fsv.donorRecords) (k : FaultKey) : h'.faultRecord k = h.faultRecord k := by
  cases k <;> simp [Hub.faultRecord, hp, hd]

theorem fsv_markMove (h : Hub) (p : PortId) (c : EndingCause) : (h.markMove p c).fsv = h.fsv := by
  unfold Hub.markMove
  cases h.sbl.flight with
  | none => rfl
  | some m => simp only; split <;> rfl

theorem fsv_wakePort (h : Hub) (p : PortId) (w : WakeCause) : (h.wakePort p w).fsv = h.fsv := by
  rw [wakePort_eq]
  split <;> rfl

/-- A change of a record stores it, and no other record nor the history changes. -/
theorem fsv_changeRecord (h : Hub) (k : FaultKey) (r : FaultRecord) :
    (h.changeRecord k r).fsv = (h.putRecord k r).fsv := by
  cases k with
  | donor d => rfl
  | port p c =>
    unfold Hub.changeRecord Hub.actionsEntered
    simp only
    have hi : ∀ g : Hub, (g.newIdentify p).fsv = g.fsv := fun _ => rfl
    have he : ∀ (q : Prop) [Decidable q] (a b : Hub), a.fsv = b.fsv → (if q then a else b).fsv = b.fsv := by
      intro q _ a b hab
      split
      · exact hab
      · rfl
    rw [he _ _ _ (hi _), he _ _ _ (fsv_wakePort _ _ _), he _ _ _ (fsv_markMove _ _ _)]

theorem faultRecord_changeRecord (h : Hub) (k k' : FaultKey) (r : FaultRecord) :
    (h.changeRecord k r).faultRecord k' = if k' = k then r else h.faultRecord k' := by
  rw [← faultRecord_putRecord, faultRecord_of_fsv] <;> rw [fsv_changeRecord]

theorem fsv_putRecord_history (h : Hub) (k : FaultKey) (r : FaultRecord) :
    (h.putRecord k r).fsv.history = h.fsv.history := by cases k <;> rfl

/-- A history that holds at most sixteen entries holds at most sixteen, the last ones, after one more. -/
theorem history_writeHistory (h : Hub) (k : FaultKey) (t : Transition) (hl : h.fsv.history.length ≤ 16) :
    (h.writeHistory k t).fsv.history = lastSixteen (h.fsv.history ++ [⟨k, t, h.mga.seconds⟩]) :=
  drop_full_append _ _ hl

end Sys2Proof.Machine
end

