-- ==== Sys2Proof/Laws/Due.lean ====
section
/-! SUPPORT. Laws of what a boundary has decided and not taken yet: `takeDue`, `presentDue`, `overdriveDue` and
`takePortDue` do nothing where nothing is due, and touch no more than what they hand on; and of the counts toward
the balance interval and the poll interval. -/

namespace Sys2Proof.Machine

/-! ## Where nothing is due -/

theorem linkAligned_of_not {h : Hub} {l : LinkId}
    (hn : ¬ ((h.core l).state = .hunt ∧ 4 ≤ (h.core l).good ∧ (h.core l).arrival ≠ none)) :
    h.linkAligned l = h := by
  unfold Hub.linkAligned
  cases ha : (h.core l).arrival with
  | none => simp only [ha]
  | some a =>
    simp only [ha]
    exact if_neg fun hs => hn ⟨hs.1, hs.2, by simp [ha]⟩

theorem alignmentLost_of_not {h : Hub} {l : LinkId}
    (hn : ¬ ((h.core l).state.aligned = true ∧ 8 ≤ (h.core l).bad)) : h.alignmentLost l = h := by
  unfold Hub.alignmentLost
  simp only
  rw [if_neg hn]

theorem measurementDone_of_not {h : Hub} {p : PortId}
    (hn : ¬ (h.lnk.remote[p].meas.running = true ∧ h.lnk.remote[p].meas.taken = 4)) :
    h.measurementDone p = h := by
  unfold Hub.measurementDone
  simp only
  rw [if_neg hn]

/-- Without a control field of the transaction's port there is no reply. -/
theorem replies_of_no_field {h : Hub} {p : PortId} (hi : h.cte.inFlight p = true)
    (hf : h.cte.ports[p].field = none) : h.identifyReply.statusReply = h := by
  unfold Cte.inFlight at hi
  cases ht : h.cte.transaction with
  | none => simp [ht] at hi
  | some t =>
    simp only [ht, Option.any_some, decide_eq_true_eq] at hi
    have hr : h.replyOf t = none := by
      subst hi
      unfold Hub.replyOf
      rw [hf]
      split <;> rfl
    have h1 : h.identifyReply = h := by
      unfold Hub.identifyReply
      cases hk : t.kind <;> simp only [ht, hr, hk]
    rw [h1]
    unfold Hub.statusReply
    cases hk : t.kind <;> simp only [ht, hr, hk]

/-- With its port aligned already, no measurement to complete and no reply, nothing of the frame is due. -/
theorem takeDue_of_not {h : Hub} {p : PortId} 
    (ha : ¬ (h.linkOf p = .hunt ∧ 4 ≤ h.lnk.remote[p].core.good ∧ h.lnk.remote[p].core.arrival ≠ none))
    (hm : ¬ (h.lnk.remote[p].meas.running = true ∧ h.lnk.remote[p].meas.taken = 4))
    (hr : h.cte.inFlight p = false ∨ h.cte.ports[p].field = none) : h.takeDue p = h := by
  unfold Hub.takeDue
  simp only
  rw [linkAligned_of_not (l := .remote p) ha, measurementDone_of_not hm]
  split
  · split
    next hi =>
      rcases hr with hr | hr
      · rw [hi] at hr
        cases hr
      · exact replies_of_no_field hi hr
    · rfl
  · rfl

theorem presentDue_of_not {h : Hub} {p : PortId} (hc : h.fsv.detectors[p].crcDue = false)
    (ho : h.fsv.detectors[p].overloadDue = false) (hs : h.fsv.detectors[p].silentDue = false) :
    h.presentDue p = h := by
  have h1 : h.cratePresent p = h := by unfold Hub.cratePresent; rw [hc]; rfl
  have h2 : h.overloadPresent p = h := by unfold Hub.overloadPresent; rw [ho]; rfl
  have h3 : h.silentPresent p = h := by unfold Hub.silentPresent; rw [hs]; rfl
  unfold Hub.presentDue
  rw [h1, h2, h3]

/-- Where the boundary has decided nothing of a port, there is nothing to take before its reset or activation. -/
theorem takePortDue_of_nothingDue {h : Hub} {p : PortId} (hn : h.nothingDue p) : h.takePortDue p = h := by
  obtain ⟨ha, hb, hm, hf, hc, ho, hs, hl⟩ := hn
  unfold Hub.takePortDue
  rw [takeDue_of_not ha hm (.inr hf), alignmentLost_of_not (l := .remote p) hb, presentDue_of_not hc ho hs]
  simp [Hub.overdriveDue, hl]

/-! ## What may be touched -/

/-- A detector's presentation takes its due mark back and is a presentation of its condition. -/
theorem cratePresent_eq (h : Hub) (p : PortId) : h.cratePresent p =
    if h.fsv.detectors[p].crcDue then (h.onDet p fun d => { d with crcDue := false }).present (.port p .crcRate)
    else h := rfl

theorem overloadPresent_eq (h : Hub) (p : PortId) : h.overloadPresent p =
    if h.fsv.detectors[p].overloadDue then
      (h.onDet p fun d => { d with overloadDue := false }).present (.port p .ulOverload)
    else h := rfl

theorem silentPresent_eq (h : Hub) (p : PortId) : h.silentPresent p =
    if h.fsv.detectors[p].silentDue then (h.onDet p fun d => { d with silentDue := false }).present (.port p .ulSilent)
    else h := rfl

/-- What the presentations of port `p` touch: what supervision touches (`Supervised`), and the port's detectors. -/
structure Detected (p : PortId) (h h' : Hub) : Prop where
  hub : h' = { h with
    fsv := h'.fsv
    cte := { h.cte with ports := h'.cte.ports }
    sbl := { h.sbl with flight := h'.sbl.flight, ports := h'.sbl.ports }
    mga := { h.mga with marks := h'.mga.marks } }
  assign : ∀ q : PortId, h'.assignOf q = h.assignOf q
  flight : h'.sbl.flight.map (fun m => { m with ending := none })
    = h.sbl.flight.map (fun m => { m with ending := none })
  others : ∀ q : PortId, q ≠ p → h'.fsv.detectors[q] = h.fsv.detectors[q]

theorem Detected.same (p : PortId) (h : Hub) : Detected p h h := ⟨rfl, fun _ => rfl, rfl, fun _ _ => rfl⟩

theorem Detected.trans {p : PortId} {a b c : Hub} (x : Detected p a b) (y : Detected p b c) :
    Detected p a c := by
  refine ⟨?_, fun q => (y.assign q).trans (x.assign q), y.flight.trans x.flight,
    fun q hq => (y.others q hq).trans (x.others q hq)⟩
  have hx := x.hub
  have hy := y.hub
  rw [hy]
  rw [hx]

/-- A presentation that follows a change of the port's detectors. -/
theorem detected_onDet (p : PortId) (h : Hub) (f : Detectors → Detectors) (k : FaultKey) :
    Detected p h ((h.onDet p f).present k) := by
  have hs := supervised_present (h.onDet p f) k
  refine ⟨?_, fun q => hs.assign q, hs.flight, fun q hq => ?_⟩
  · have hh := hs.hub
    generalize (h.onDet p f).present k = g at hh ⊢
    rw [hh]
    rfl
  · rw [hs.detectors]
    exact upd_get_other _ _ (Ne.symm hq)

theorem detected_cratePresent (h : Hub) (p : PortId) : Detected p h (h.cratePresent p) := by
  rw [cratePresent_eq]
  split
  · exact detected_onDet _ _ _ _
  · exact .same _ _

theorem detected_overloadPresent (h : Hub) (p : PortId) : Detected p h (h.overloadPresent p) := by
  rw [overloadPresent_eq]
  split
  · exact detected_onDet _ _ _ _
  · exact .same _ _

theorem detected_silentPresent (h : Hub) (p : PortId) : Detected p h (h.silentPresent p) := by
  rw [silentPresent_eq]
  split
  · exact detected_onDet _ _ _ _
  · exact .same _ _

theorem detected_presentDue (h : Hub) (p : PortId) : Detected p h (h.presentDue p) :=
  .trans (.trans (detected_cratePresent h p) (detected_overloadPresent _ p)) (detected_silentPresent _ p)

/-! ## The counts toward the intervals -/

/-- What a second mark does to the poll count, once for all (R152). -/
theorem markPoll_cases (h : Hub) :
    h.cte.pollCount + 1 < h.eventTables.pollInterval
      ∧ h.markPoll = { h with cte := { h.cte with pollCount := h.cte.pollCount + 1 } }
    ∨ h.eventTables.pollInterval ≤ h.cte.pollCount + 1
      ∧ h.markPoll = { h with cte := { h.cte with pollCount := 0, pollDue := true } } := by
  unfold Hub.markPoll
  by_cases hn : h.eventTables.pollInterval ≤ h.cte.pollCount + 1
  · exact .inr ⟨hn, if_pos hn⟩
  · exact .inl ⟨by omega, if_neg hn⟩

/-- What POLL_INTERVAL does, once for all (R152). -/
theorem pollInterval_eq (h : Hub) : h.pollInterval =
    if h.cte.pollDue then { h with cte := { h.cte with
      pollDue := false
      pass := some (h.cte.pass.getD 0)
      passWaiting := h.cte.passWaiting || h.cte.pass.isSome } }
    else h := by
  unfold Hub.pollInterval
  split
  · cases h.cte.pass <;> rfl
  · rfl

/-- Without an activation at this boundary, its events take the active tables' parameters (R31). -/
@[simp] theorem eventTables_of_none {h : Hub} (hb : h.bd.before = none) : h.eventTables = h.tables := by
  simp [Hub.eventTables, hb]

/-- What a second mark does to the interval count, once for all (R114, R133). -/
theorem markInterval_cases (h : Hub) :
    (h.inService = false ∨ h.bd.serviceBegun = true) ∧ h.markInterval = h
    ∨ (h.inService = true ∧ h.bd.serviceBegun = false) ∧ h.sbl.intervalCount + 1 < h.eventTables.interval
      ∧ h.markInterval = { h with sbl := { h.sbl with intervalCount := h.sbl.intervalCount + 1 } }
    ∨ (h.inService = true ∧ h.bd.serviceBegun = false) ∧ h.eventTables.interval ≤ h.sbl.intervalCount + 1
      ∧ h.markInterval = { h with sbl := { h.sbl with intervalCount := 0, intervalDue := true } } := by
  unfold Hub.markInterval
  by_cases hs : h.inService = true ∧ h.bd.serviceBegun = false
  · by_cases hn : h.eventTables.interval ≤ h.sbl.intervalCount + 1
    · exact .inr (.inr ⟨hs, hn, by simp [hs, hn]⟩)
    · exact .inr (.inl ⟨hs, by omega, by simp [hs, hn]⟩)
  · refine .inl ⟨?_, if_neg hs⟩
    rcases hi : h.inService <;> rcases hb : h.bd.serviceBegun <;> simp_all

end Sys2Proof.Machine
end

