-- ==== Sys2Proof/Laws/Link.lean ====
section
/-! SUPPORT. Laws of a delivery (R5): what `Hub.deliver` does with a frame of a remote port, of a donor and of the
trunk, each said once and whole. -/

namespace Sys2Proof.Machine

/-- Only what a change makes of the link's own core matters. -/
theorem onCore_congr {h : Hub} {l : LinkId} {f g : LinkCore → LinkCore} (e : f (h.core l) = g (h.core l)) :
    h.onCore l f = h.onCore l g := by
  cases l with
  | remote p =>
    unfold Hub.onCore Hub.onRemote
    simp only
    rw [upd_congr (g := fun r => { r with core := g r.core })]
    exact congrArg (fun c => { h.lnk.remote[p] with core := c }) e
  | donor d =>
    unfold Hub.onCore
    simp only
    rw [upd_congr e]
  | trunk =>
    unfold Hub.onCore
    simp only
    rw [show f h.lnk.trunk = g h.lnk.trunk from e]

/-! ## What a verdict does to the link's core -/

theorem slip_eq (c : LinkCore) (l : LinkId) (a : Arrival) : c.slip = c.delivered l .slipped a := by
  simp [LinkCore.slip, LinkCore.badMarker, LinkCore.delivered, bump, sat32]

theorem err_eq (c : LinkCore) (l : LinkId) (a : Arrival) : c.err = c.delivered l .errored a := by
  simp [LinkCore.err, LinkCore.delivered, sat32]

theorem accept_eq (c : LinkCore) {l : LinkId} (hl : l ≠ .trunk) (a : Arrival) :
    c.accept (payloadSamples (payloadPart l a.bytes)) = c.delivered l .good a := by
  simp [LinkCore.accept, LinkCore.delivered, hl]

theorem accept_trunk_eq (c : LinkCore) (a : Arrival) : c.accept [] = c.delivered .trunk .good a := by
  simp [LinkCore.accept, LinkCore.delivered]

/-! ## Deliveries -/

/-- `deliver` acts by the verdict of R5, once for all. -/
theorem deliver_eq (h : Hub) (l : LinkId) (a : Arrival) : h.deliver l a =
    match verdictOf l (h.core l).cand a, l with
    | .slipped, _ => h.onCore l LinkCore.slip
    | .errored, .remote p => (h.onCore l LinkCore.err).erroredSecond p
    | .errored, _ => h.onCore l LinkCore.err
    | .good, .remote p => (h.onCore l fun c => c.accept (payloadSamples (payloadPart l a.bytes))).goodRemote p a
    | .good, .donor _ => h.onCore l fun c => c.accept (payloadSamples (payloadPart l a.bytes))
    | .good, .trunk => { h.onCore l fun c => c.accept [] with
        mga := { h.mga with cell := some (cellOf (controlPart l a.bytes)) } } := by
  unfold Hub.deliver verdictOf
  by_cases hp : (h.core l).cand = some a.pos <;> rcases hm : markerGood a.bytes <;>
    rcases hc : crcMatches l a.bytes <;> cases l <;> simp [hp, Hub.onCore]

/-- The delivery of a donor's frame (R5, R13, R14). -/
theorem deliver_donor (h : Hub) (d : DonorId) (a : Arrival) : h.deliver (.donor d) a =
    h.onCore (.donor d) fun c => c.delivered (.donor d) (verdictOf (.donor d) c.cand a) a := by
  rw [deliver_eq]
  rcases hv : verdictOf (.donor d) (h.core (.donor d)).cand a <;> refine onCore_congr ?_ <;> rw [hv]
  · exact accept_eq _ (by simp) a
  · exact err_eq _ _ a
  · exact slip_eq _ _ a

/-- The delivery of a trunk frame: the cell of a GOOD one is handed to MGA (R5, R13, R15). -/
theorem deliver_trunk (h : Hub) (a : Arrival) : h.deliver .trunk a =
    { h.onCore .trunk fun c => c.delivered .trunk (verdictOf .trunk c.cand a) a with
      mga := { h.mga with
        cell := if verdictOf .trunk h.lnk.trunk.cand a = .good then some (cellOf (controlPart .trunk a.bytes))
          else h.mga.cell } } := by
  rw [deliver_eq]
  rcases hv : verdictOf .trunk h.lnk.trunk.cand a <;> simp [Hub.core, Hub.onCore, hv]
  · exact accept_trunk_eq _ a
  · exact err_eq _ _ a
  · exact slip_eq _ _ a

/-- The delivery of a remote port's frame: an ERRORED one counts toward CRC_RATE, and a GOOD one gives a running
measurement its round trip, the engine its control field, and marks an identify where an UP port's lane mask differs
(R5, R11 to R13, R18, R139). -/
theorem deliver_remote (h : Hub) (p : PortId) (a : Arrival) : h.deliver (.remote p) a =
    let r := h.lnk.remote[p]
    let v := verdictOf (.remote p) r.core.cand a
    let seconds := if v = .errored then min (r.erroredSec + 1) 16000 else r.erroredSec
    let measures := v = .good ∧ r.meas.running = true ∧ 0 < r.meas.elapsed ∧ r.meas.taken < 4
      ∧ echoPresent a.bytes = true
    let differs := v = .good ∧ h.isUp p = true ∧ headerMask a.bytes ≠ r.mask
      ∧ (h.cte.transaction.any fun t => t.port = p ∧ t.kind = .identify) = false
    { h with
      lnk := { h.lnk with remote := upd h.lnk.remote p fun r => { r with
        core := r.core.delivered (.remote p) v a
        erroredSec := seconds
        meas := if measures then r.meas.take (roundTrip (foundAt h.lnk.frameNumber a) a.bytes) else r.meas } }
      cte := { h.cte with ports := upd h.cte.ports p fun c => { c with
        pending := c.pending || decide differs
        field := if v = .good then some (controlPart (.remote p) a.bytes) else c.field } }
      fsv := { h.fsv with detectors := upd h.fsv.detectors p fun d => { d with
        crcDue := d.crcDue || decide (v = .errored
          ∧ h.tables.param (FaultKey.row (.port p .crcRate)) ≤ seconds) } } } := by
  rw [deliver_eq]
  rcases hv : verdictOf (.remote p) (h.core (.remote p)).cand a
  · have hv' : verdictOf (.remote p) h.lnk.remote[p].core.cand a = .good := hv
    simp only [hv', true_and, false_and, if_true, if_false, reduceCtorEq, decide_false, Bool.or_false]
    rw [upd_same (v := h.fsv.detectors) rfl]
    unfold Hub.goodRemote
    simp only [Hub.onCore, Hub.onRemote, Hub.onCte, upd_upd, Hub.isUp, Hub.linkOf, upd_get_same]
    rw [upd_congr (v := h.lnk.remote) (g := fun r => { r with
        core := r.core.delivered (.remote p) .good a
        meas := if h.lnk.remote[p].meas.running = true ∧ 0 < h.lnk.remote[p].meas.elapsed
            ∧ h.lnk.remote[p].meas.taken < 4 ∧ echoPresent a.bytes = true
          then r.meas.take (roundTrip (foundAt h.lnk.frameNumber a) a.bytes) else r.meas })]
    · rw [upd_congr (v := h.cte.ports) (g := fun c => { c with
          pending := c.pending || decide (h.isUp p = true ∧ headerMask a.bytes ≠ h.lnk.remote[p].mask
            ∧ (h.cte.transaction.any fun t => t.port = p ∧ t.kind = .identify) = false)
          field := some (controlPart (.remote p) a.bytes) })]
      · rfl
      · rw [apply_ite RemoteLink.core, apply_ite RemoteLink.mask, ite_self, ite_self]
        rcases hq : h.cte.ports[p].pending <;>
          simp [Hub.isUp, Hub.linkOf, LinkCore.accept, Bool.and_assoc]
        rfl
    · simp only [accept_eq _ (show LinkId.remote p ≠ .trunk by simp) a]
      split <;> rfl
  · have hv' : verdictOf (.remote p) h.lnk.remote[p].core.cand a = .errored := hv
    simp only [hv', true_and, false_and, if_true, if_false, reduceCtorEq, decide_false, Bool.or_false]
    rw [upd_same (v := h.cte.ports) rfl]
    unfold Hub.erroredSecond
    simp only [Hub.onCore, Hub.onRemote, Hub.onDet, upd_upd, upd_get_same]
    rw [upd_congr (v := h.lnk.remote) (g := fun r => { r with
        core := r.core.delivered (.remote p) .errored a
        erroredSec := min (h.lnk.remote[p].erroredSec + 1) 16000 })]
    · rfl
    · simp only [err_eq _ (.remote p) a, bump]
  · have hv' : verdictOf (.remote p) h.lnk.remote[p].core.cand a = .slipped := hv
    simp only [hv', false_and, if_false, reduceCtorEq, decide_false, Bool.or_false]
    rw [upd_same (v := h.fsv.detectors) rfl, upd_same (v := h.cte.ports) rfl]
    show h.onCore _ _ = h.onCore (.remote p) fun c => c.delivered (.remote p) .slipped a
    exact onCore_congr (slip_eq _ _ a)

end Sys2Proof.Machine
end

