-- ==== Sys2Proof/Laws/Request.lean ====
section
/-! SUPPORT. Laws of requests: what a request that is offered does, what one that cannot be taken does, and the
answers. -/

namespace Sys2Proof.Machine

theorem fin?_val {n : Nat} (i : Fin n) : fin? n i.val = some i := by simp [fin?]

theorem fin?_eq_none {n v : Nat} (h : n ≤ v) : fin? n v = none := by
  simp [fin?]
  omega

/-- A request that is offered is taken from the queue and judged by its own rule. -/
theorem takeRequest_offered {h : Hub} {c : Cell} {rest : List Cell} {k : ReqKind}
    (act : Cell → Hub → Hub) (ho : h.offersKind c rest k) :
    Hub.takeRequest k act h = act c { h with mga := { h.mga with requests := rest } } := by
  obtain ⟨⟨h1, h2, h3⟩, h4, h5⟩ := ho
  simp [Hub.takeRequest, Hub.takeHead, h1, Hub.canTake, h2, h3, h4, h5, Hub.dequeue]

/-- A READ that is offered with a defined object code is judged by the READ rule. -/
theorem takeRead_offered {h : Hub} {c : Cell} {rest : List Cell} {o : ReadObject}
    (ho : h.offersKind c rest .read) (hc : readObjectOf (c.arg 0) = some o) :
    h.takeRead o = { h with mga := { h.mga with requests := rest } }.actRead o c := by
  obtain ⟨⟨h1, h2, h3⟩, h4, h5⟩ := ho
  simp [Hub.takeRead, Hub.takeHead, h1, Hub.canTake, h2, h3, h4, h5, Hub.dequeue, Cell.reads, hc]

/-- Nothing is taken while the agent is busy, the response queue is full or no request waits. -/
theorem takeHead_hindered {h : Hub} (is : Cell → Bool) (act : Cell → Hub → Hub)
    (hn : h.mga.requests = [] ∨ h.mga.busy ≠ none ∨ 8 ≤ h.mga.responses.length) :
    h.takeHead is act = h := by
  unfold Hub.takeHead
  rcases hn with hn | hn | hn
  · simp [hn]
  · cases h.mga.requests <;> simp [Hub.canTake, hn]
  · cases h.mga.requests <;> simp [Hub.canTake, hn]

/-- Answering OK. -/
theorem answerOk_eq (h : Hub) (tag : Byte) (report : List Byte) :
    h.answerOk tag report =
      { h with mga := { h.mga with responses := h.mga.responses ++ [okResponse tag report] } } := rfl

/-- Answering REFUSED. -/
theorem refuse_eq (h : Hub) (tag : Byte) (w : Why) (report : List Byte) :
    h.refuse tag w report = { h with mga := { h.mga with
      responses := h.mga.responses ++ [badResponse tag .refused w.code report] } } := rfl

/-- Answering with another status than OK. -/
theorem respond_eq {st : Status} (hs : st ≠ .ok) (h : Hub) (tag reason : Byte) (report : List Byte) :
    h.respond tag st reason report = { h with mga := { h.mga with
      responses := h.mga.responses ++ [badResponse tag st reason report] } } := by
  simp [Hub.respond, hs, badResponse]

end Sys2Proof.Machine
end

