-- ==== Sys2Proof/Laws/Search.lean ====
section
/-! SUPPORT. Laws of the received bit stream (R4): bits and bytes, the first marker of a search, the frame that a
stretch completes, and what one frame period makes of a link in HUNT. -/

namespace Sys2Proof.Machine

/-! ## Bits and bytes (R177) -/

@[simp] theorem bitsOf_nil : bitsOf [] = [] := rfl

theorem bitsOf_cons (b : Byte) (bs : List Byte) : bitsOf (b :: bs) =
    [b.getLsbD 7, b.getLsbD 6, b.getLsbD 5, b.getLsbD 4, b.getLsbD 3, b.getLsbD 2, b.getLsbD 1, b.getLsbD 0]
      ++ bitsOf bs := rfl

@[simp] theorem length_bitsOf (bs : List Byte) : (bitsOf bs).length = 8 * bs.length := by
  induction bs with
  | nil => rfl
  | cons b bs ih => rw [bitsOf_cons, List.length_append, ih, List.length_cons]; simp; omega

/-- Bit `i` of bytes in order of transmission: bit 7 of a byte is sent first (R177). -/
theorem getElem?_bitsOf (bs : List Byte) (i : Nat) (hi : i < 8 * bs.length) :
    (bitsOf bs)[i]? = some (bitAt bs (i / 8) (7 - i % 8)) := by
  induction bs generalizing i with
  | nil => simp at hi
  | cons b bs ih =>
    rw [bitsOf_cons]
    rcases Nat.lt_or_ge i 8 with h8 | h8
    · rw [List.getElem?_append_left (by simpa using h8)]
      obtain rfl | rfl | rfl | rfl | rfl | rfl | rfl | rfl :
          i = 0 ∨ i = 1 ∨ i = 2 ∨ i = 3 ∨ i = 4 ∨ i = 5 ∨ i = 6 ∨ i = 7 := by omega
      all_goals rfl
    · rw [List.getElem?_append_right (by simpa using h8)]
      simp only [List.length_cons, List.length_nil] at hi ⊢
      rw [ih (i - 8) (by omega)]
      have h1 : i / 8 = (i - 8) / 8 + 1 := by omega
      have h2 : (i - 8) % 8 = i % 8 := by omega
      rw [h1, h2]
      rfl

theorem bitsOf_byte (b7 b6 b5 b4 b3 b2 b1 b0 : Bool) :
    bitsOf [BitVec.ofNat 8 ([b7, b6, b5, b4, b3, b2, b1, b0].foldl (fun n b => 2 * n + b.toNat) 0)]
      = [b7, b6, b5, b4, b3, b2, b1, b0] := by
  revert b7 b6 b5 b4 b3 b2 b1 b0
  decide

/-- The bytes that whole eights of bits form have those bits. -/
theorem bitsOf_packBits : ∀ (n : Nat) (bits : List Bool), bits.length = 8 * n → bitsOf (packBits bits) = bits
  | 0, bits, h => by
    obtain rfl : bits = [] := List.length_eq_zero_iff.mp (by omega)
    rfl
  | n + 1, b7 :: b6 :: b5 :: b4 :: b3 :: b2 :: b1 :: b0 :: rest, h => by
    have ih := bitsOf_packBits n rest (by simp only [List.length_cons] at h; omega)
    have hb := bitsOf_byte b7 b6 b5 b4 b3 b2 b1 b0
    rw [bitsOf_cons, bitsOf_nil, List.append_nil] at hb
    rw [packBits, bitsOf_cons, hb, ih]
    rfl
  | n + 1, [], h | n + 1, [_], h | n + 1, [_, _], h | n + 1, [_, _, _], h | n + 1, [_, _, _, _], h
  | n + 1, [_, _, _, _, _], h | n + 1, [_, _, _, _, _, _], h | n + 1, [_, _, _, _, _, _, _], h => by
    simp only [List.length_cons, List.length_nil] at h
    omega

/-! ## The first marker -/

theorem markerAt_lt {bits : List Bool} {i : Nat} (h : markerAt bits i = true) : i < bits.length := by
  by_contra hn
  simp [markerAt, List.drop_eq_nil_of_le (Nat.le_of_not_lt hn)] at h
  exact absurd h (by decide)

theorem markerAt_drop (bits : List Bool) (i j : Nat) : markerAt (bits.drop i) j = markerAt bits (i + j) := by
  simp [markerAt, List.drop_drop]

/-- A search finds the first marker from its start on (R4). -/
theorem firstMarker_eq (bits : List Bool) (i : Nat) : firstMarker bits i =
    ((List.range bits.length).find? fun j => markerAt bits j).map (i + ·) := by
  induction bits generalizing i with
  | nil => rfl
  | cons b bits ih =>
    rw [firstMarker, ih, List.length_cons, List.range_succ_eq_map, List.find?_cons]
    cases hm : markerAt (b :: bits) 0 with
    | true => simp
    | false =>
      rw [if_neg (by simp), List.find?_map, Option.map_map]
      have : (fun j => markerAt (b :: bits) j) ∘ Nat.succ = fun j => markerAt bits j := by
        funext j
        have := markerAt_drop (b :: bits) 1 j
        simp only [List.drop_one, List.tail_cons] at this
        simp only [Function.comp, this, Nat.add_comm 1 j]
      rw [this]
      cases (List.range bits.length).find? fun j => markerAt bits j with
      | none => rfl
      | some j => simp only [Option.map_some, Function.comp, Nat.succ_eq_add_one]; congr 1; omega

theorem firstMarker_eq_some {bits : List Bool} {i j : Nat} : firstMarker bits i = some j ↔
    i ≤ j ∧ markerAt bits (j - i) = true ∧ ∀ k, k < j - i → markerAt bits k = false := by
  rw [firstMarker_eq, Option.map_eq_some_iff]
  simp only [List.find?_range_eq_some, List.mem_range, Bool.not_eq_true']
  constructor
  · rintro ⟨k, ⟨hm, -, hn⟩, rfl⟩
    rw [Nat.add_sub_cancel_left]
    exact ⟨Nat.le_add_right i k, hm, hn⟩
  · rintro ⟨hi, hm, hn⟩
    exact ⟨j - i, ⟨hm, markerAt_lt hm, hn⟩, by omega⟩

/-- The search from bit `i` on of received bits finds the first marker there (R4). -/
theorem firstMarker_drop (bits : List Bool) (i : Nat) : firstMarker (bits.drop i) i =
    (List.range bits.length).find? fun j => decide (i ≤ j) && markerAt bits j := by
  ext j
  simp only [firstMarker_eq_some, List.find?_range_eq_some, List.mem_range, Bool.and_eq_true,
    decide_eq_true_eq, Bool.not_eq_true', Bool.and_eq_false_iff, decide_eq_false_iff_not, markerAt_drop]
  constructor
  · rintro ⟨hi, hm, hn⟩
    rw [Nat.add_sub_cancel' hi] at hm
    refine ⟨⟨hi, hm⟩, markerAt_lt hm, fun k hk => ?_⟩
    rcases Nat.lt_or_ge k i with h | h
    · exact .inl (by omega)
    · have := hn (k - i) (by omega)
      rw [Nat.add_sub_cancel' h] at this
      exact .inr this
  · rintro ⟨⟨hi, hm⟩, -, hn⟩
    refine ⟨hi, by rwa [Nat.add_sub_cancel' hi], fun k hk => ?_⟩
    rcases hn (i + k) (by omega) with h | h
    · omega
    · exact h

/-! ## The frame that a stretch completes (R4) -/

/-- A frame that began in the stretch before has the last bits of that and the first ones of the next. -/
theorem bitsOf_splice {l : LinkId} {b a : Arrival} {pos : Nat} (hb : b.bytes.length = frameLength l)
    (ha : a.bytes.length = frameLength l) :
    bitsOf (splice l b a pos).bytes =
      (bitsOf b.bytes).drop ((pos + 8 * frameLength l - a.pos) % (8 * frameLength l))
        ++ (bitsOf a.bytes).take ((pos + 8 * frameLength l - a.pos) % (8 * frameLength l)) := by
  have hk : (pos + 8 * frameLength l - a.pos) % (8 * frameLength l) < 8 * frameLength l :=
    Nat.mod_lt _ (by unfold frameLength; omega)
  refine bitsOf_packBits (frameLength l) _ ?_
  simp only [List.length_append, List.length_drop, List.length_take, length_bitsOf, ha, hb]
  omega

/-- A stretch at the aligned position is a frame as it stands, and so is the first one of a bit stream. -/
theorem cut_self {c : LinkCore} {l : LinkId} {a : Arrival}
    (h : c.cand = none ∨ c.cand = some a.pos ∨ c.last = none ∨ ∃ b, c.last = some b ∧ b.pos ≠ a.pos) :
    c.cut l a = a := by
  unfold LinkCore.cut
  split
  next pos b hc hl =>
    rw [if_neg]
    rintro ⟨hb, hp⟩
    rcases h with h | h | h | ⟨b', h, hb'⟩ <;> simp_all
  · rfl

theorem cut_splice {c : LinkCore} {l : LinkId} {a b : Arrival} {pos : Nat} (hc : c.cand = some pos)
    (hl : c.last = some b) (hb : b.pos = a.pos) (hp : pos ≠ a.pos) : c.cut l a = splice l b a pos := by
  unfold LinkCore.cut
  rw [hc, hl]
  exact if_pos ⟨hb, hp⟩

/-! ## Where no stretch was received -/

theorem searchNothing_of_lt {c : LinkCore} (h : c.good < 4) :
    c.searchNothing = { c with cand := none, good := 0, last := none } := by
  unfold LinkCore.searchNothing
  rw [if_neg (by omega)]

end Sys2Proof.Machine
end

