-- ==== Sys2Proof/Laws/Step.lean ====
section
/-! SUPPORT. Laws of exec and step: every command completes, and leaves the waiting commands alone. -/

namespace Sys2Proof.Machine

@[simp] theorem onHub_eq (s : State) (f : Hub → Hub) : s.onHub f = .next { s with hub := f s.hub } := rfl

@[simp] theorem atBoundary_eq (s : State) (f : Hub → Hub) :
    s.atBoundary f = .next { s with hub := f s.hub.openBoundary } := rfl

/-- Every command answers a next state with the same commands waiting. -/
theorem exec_completes (c : Instr) (s : State) : ∃ h : Hub, exec c s = .next { s with hub := h } := by
  cases c <;> exact ⟨_, rfl⟩

/-- A boundary event acts on the hub with its boundary under way. -/
theorem exec_boundaryEvent {c : Instr} (hc : c.isBoundaryEvent) :
    ∃ f : Hub → Hub, ∀ s : State, exec c s = .next { s with hub := f s.hub.openBoundary } := by
  obtain ⟨hp, hr⟩ := hc
  cases c <;> first
    | exact absurd rfl hp
    | exact absurd hr (by decide)
    | exact ⟨_, fun _ => rfl⟩

theorem openBoundary_of_isOpen {h : Hub} (ho : h.bd.isOpen = true) : h.openBoundary = h := by
  simp [Hub.openBoundary, ho]

theorem openBoundary_of_closed {h : Hub} (ho : h.bd.isOpen = false) :
    h.openBoundary = h.beginBoundary := by
  simp [Hub.openBoundary, ho]

@[simp] theorem beginBoundary_isOpen (h : Hub) : h.beginBoundary.bd.isOpen = true := rfl

@[simp] theorem openBoundary_isOpen (h : Hub) : h.openBoundary.bd.isOpen = true := by
  unfold Hub.openBoundary
  split
  · assumption
  · rfl

/-- Beginning a boundary that is under way does nothing. -/
@[simp] theorem openBoundary_openBoundary (h : Hub) : h.openBoundary.openBoundary = h.openBoundary :=
  openBoundary_of_isOpen (openBoundary_isOpen h)

/-- What the beginning of a boundary leaves alone, whether or not it is under way. -/
theorem openBoundary_keeps (h : Hub) :
    h.openBoundary.dlc = h.dlc ∧ h.openBoundary.deq = h.deq ∧ h.openBoundary.ulc = h.ulc
      ∧ h.openBoundary.sbl = h.sbl ∧ h.openBoundary.frame = h.frame
      ∧ h.openBoundary.tld.tables = h.tld.tables ∧ h.openBoundary.mga.requests = h.mga.requests
      ∧ h.openBoundary.mga.responses = h.mga.responses
      ∧ h.openBoundary.mga.hubState = h.mga.hubState ∧ h.openBoundary.fsv.history = h.fsv.history
      ∧ h.openBoundary.mga.busy = h.mga.busy := by
  unfold Hub.openBoundary
  split <;> exact ⟨rfl, rfl, rfl, rfl, rfl, rfl, rfl, rfl, rfl, rfl, rfl⟩

theorem step_nil {s : State} (h : s.pending = []) : step s = .next s := by simp [step, h]

theorem step_cons {s : State} {c : Instr} {rest : List Instr} (h : s.pending = c :: rest) :
    step s = exec c { s with pending := rest } := by simp [step, h]

/-- What a step answers, once for all: the same state, or the front command's next state. -/
theorem step_cases {s t : State} (h : step s = .next t) :
    t = s ∨ ∃ c rest, s.pending = c :: rest ∧ exec c { s with pending := rest } = .next t := by
  cases hp : s.pending with
  | nil =>
    rw [step_nil hp] at h
    cases h
    exact .inl rfl
  | cons c rest => exact .inr ⟨c, rest, rfl, by rw [← step_cons hp, h]⟩

end Sys2Proof.Machine
end

