-- ==== Sys2Proof/Tests/Slice0.lean ====
section
/-! SUPPORT. The model's own tests: the manual's worked examples, the well-formedness smoke tests, a few commands
on small states, and for each statement with hypotheses a witness that meets them. -/

namespace Sys2Proof.Tests

-- The kernel checks of this file run one after another, so that they do not pile up threads.
set_option Elab.async false

open Sys2Proof.Machine

/-! ## Arithmetic (Conventions 4.4) -/

theorem test_round_shift : roundShift 5 1 = 3 ∧ roundShift (-5) 1 = -2 ∧ roundShift (-7) 1 = -3
    ∧ roundShift 1000 3 = 125 ∧ roundShift (-92) 3 = -11 ∧ roundShift (-96) 3 = -12 := by decide

theorem test_level_code : levelCode 3 = 0 ∧ levelCode 4 = 8 ∧ levelCode 7 = 11 ∧ levelCode 8 = 12
    ∧ levelCode 250000 = 71 ∧ levelCode (2 ^ 31 - 1) = 123 ∧ levelCode (2 ^ 31) = 124 := by decide +kernel

/-- The link CRC of no byte is the seed (R6). -/
theorem test_crc_seed : crc16 [] = 0x5A3C := by decide +kernel

/-- The CRC of the frame of the trunk in hub frame 0, as it is computed for any frame. -/
theorem test_first_trunk_frame :
    Lnk.init.sentTrunk = sentFrame 0 0 (idleCellBytes 0) [] := by decide +kernel

/-! ## Well-formedness -/

def goodArrival : Arrival := { pos := 0, framesAgo := 1, instant := 255, bytes := List.replicate 26 0 }

theorem test_wf : (Instr.receiveFrame .trunk [goodArrival]).wf = true := by decide
theorem test_wf_length : (Instr.receiveFrame .trunk [{ goodArrival with bytes := [] }]).wf = false := by
  decide
theorem test_wf_pos : (Instr.receiveFrame .trunk [{ goodArrival with pos := 208 }]).wf = false := by
  decide
theorem test_wf_frames_ago :
    (Instr.receiveFrame .trunk [{ goodArrival with framesAgo := 2 }]).wf = false := by decide
theorem test_wf_instant :
    (Instr.receiveFrame .trunk [{ goodArrival with instant := 256 }]).wf = false := by decide
theorem test_wf_count :
    (Instr.receiveFrame .trunk [goodArrival, goodArrival, goodArrival]).wf = false := by decide

/-! ## Worked examples of the chapters -/

/-- 01, three round trips. -/
theorem test_round_trips :
    roundTrip 11400 [0xE4, 0x1B, 0x7D, 0x28, 0, 0x80, 42, 96] = (552, false)
    ∧ roundTrip 200 [0xE4, 0x1B, 0x7D, 0x28, 0, 0x80, 255, 40] = (416, false)
    ∧ roundTrip 4200 [0xE4, 0x1B, 0x7D, 0x28, 0, 0x80, 0, 0] = (4095, true) := by
  decide +kernel

/-- R1: instant 136 of hub frame 44 is hub instant count 11,400, the first example's; the count wraps. -/
theorem test_found_at :
    foundAt 45 { pos := 0, framesAgo := 0, instant := 136, bytes := [] } = 11400
    ∧ foundAt 46 { pos := 0, framesAgo := 1, instant := 136, bytes := [] } = 11400
    ∧ foundAt 0 { pos := 0, framesAgo := 0, instant := 255, bytes := [] } = 65535 := by decide +kernel

/-- 03, one sample in mid-ramp: C1 and C6 on lane B1 of RP7. -/
def midRamp : LaneRecord :=
  { summands := [⟨1, 2048, true⟩, ⟨6, 3000, true⟩], trim := 4096, factor := 3584, output := 4096 }

def midRampInput (c : CarrierId) : Sample := if c = 1 then ⟨12000, -8000⟩ else ⟨20000, 5001⟩

theorem test_mid_ramp : midRamp.w midRampInput = ⟨18067, -295⟩
    ∧ midRamp.out false (midRamp.w midRampInput) = ⟨18067, -295⟩ := by decide +kernel

/-- 03, the output factor, with IQ swap. -/
theorem test_output_factor :
    { midRamp with output := baseFactor true 1536 false }.out true ⟨18067, -295⟩ = ⟨-111, 6775⟩
    ∧ { midRamp with output := baseFactor true 1536 true }.out false ⟨18067, -295⟩ = ⟨4517, -74⟩
    ∧ { midRamp with output := baseFactor true 512 true }.out false ⟨18067, -295⟩ = ⟨2258, -37⟩ := by
  decide +kernel

/-- 03, clipping and the limiter floor. -/
theorem test_clipping :
    let v := trimmed ⟨300000, -50000⟩ 8191
    let w := limited v 512
    v = ⟨599927, -99988⟩ ∧ midRamp.clips (limited v 4096) = 2 ∧ w = ⟨74991, -12498⟩
      ∧ midRamp.clips w = 1 ∧ midRamp.out false w = ⟨32767, -12498⟩
      ∧ { midRamp with output := 1024 }.out false w = ⟨18748, -3124⟩ := by decide +kernel

/-- 04, the power of a steady composite, with code 112 under five ceilings. -/
theorem test_frame_class : levelCode 326503514 = 112
    ∧ frameClass 326503514 111 = .excess ∧ frameClass 326503514 112 = .between
    ∧ frameClass 326503514 113 = .between ∧ frameClass 326503514 114 = .clean := by decide +kernel

/-- 04, the descent from 4096 to the floor. -/
theorem test_attack_descent :
    (List.range 16).map (fun n => attackFactor^[n + 1] 4096)
      = [3584, 3136, 2744, 2401, 2100, 1837, 1607, 1406, 1230, 1076, 941, 823, 720, 630, 551, 512] := by
  decide +kernel

/-- 05, the targets of one sector: RP2 with delay 276 under a target of 344, and RP18 of SC6 clamped. -/
theorem test_compensation :
    let input := fun d : Nat => { FrameInput.init with link := .up, delay := d, assign := .one 3 }
    let targets := fun t : Nat => Vector.replicate 12 { target := t, counted := 3, least := 276 }
    ((PortEq.init).recompute (targets 344) (input 276)).comp = 68
    ∧ ((PortEq.init).recompute (targets 1500) (input 210)).comp = 1023
    ∧ ((PortEq.init).recompute (targets 1500) (input 210)).range = true := by decide +kernel

/-- 06, one instant of a sector-lane: C18's output of Z = (2,099, -1,744), and its surge. -/
theorem test_uplink_output :
    Sample.scale ⟨3001, 700⟩ 1500 = ⟨1099, 256⟩ ∧ Sample.scale ⟨3001, 700⟩ 4500 = ⟨3297, 769⟩
    ∧ carrierOutput ⟨2099, -1744⟩ 8191 = ⟨4197, -3488⟩
    ∧ (carrierOutput ⟨20000, -17000⟩ 8191).changed sat16 = 2 := by decide +kernel

/-- 06, one gate through nine windows: gate level 30, gate hold 2. -/
theorem test_gate_windows :
    [35, 28, 27, 31, 20, 22, 19, 18, 30].foldl
      (fun (x : List Gate) net => x ++ [(x.getLastD .closed).update net 30 2]) []
    = [⟨.opened, 2⟩, ⟨.holding, 2⟩, ⟨.holding, 1⟩, ⟨.opened, 2⟩, ⟨.holding, 2⟩, ⟨.holding, 1⟩,
       ⟨.closed, 0⟩, ⟨.closed, 0⟩, ⟨.opened, 2⟩] := by decide +kernel

/-- 07, one window with errored frames: mean 236,250 and code 71. -/
theorem test_window : windowMean 241920000 2 = 236250 ∧ levelCode 236250 = 71 := by decide +kernel

/-- 07, smoothing steps: 400 to 412 and to 388, and the window of ISOLATE from 339 to 254. -/
theorem test_smoothing : smooth 400 496 3 = 412 ∧ smooth 400 304 3 = 388
    ∧ smooth 339 0 2 = 254 ∧ smooth 191 496 2 = 267 := by decide +kernel

/-! ## Small states -/

/-- A state with hub `h` and no command waiting. -/
def st (h : Hub) : State := { hub := h, pending := [] }

/-- The hub at power-on with a boundary under way. -/
def opened : Hub := { Hub.init with bd := { Boundary.init with isOpen := true } }

/-- `h` with remote port `p`'s link core changed. -/
def withLink (h : Hub) (p : PortId) (f : LinkCore → LinkCore) : Hub := h.onCore (.remote p) f

/-- `h` in SERVICE. -/
def serving (h : Hub) : Hub := { h with mga := { h.mga with hubState := .service } }

/-- A REQUEST cell with tag 7. -/
def cell (k : ReqKind) (args : List Byte) : Cell :=
  { type := 1, tag := 7, length := BitVec.ofNat 8 k.length
    payload := BitVec.ofNat 8 k.code :: args ++ List.replicate (11 - args.length) 0 }

/-- `h` with one request waiting. -/
def asking (h : Hub) (c : Cell) : Hub := { h with mga := { h.mga with requests := [c] } }

/-- `h` with a busy request that is due. -/
def busyWith (h : Hub) (b : Busy) : Hub :=
  { h with mga := { h.mga with busy := some b, busyRipe := true } }

/-- `h` with a cell handed on. -/
def holding (h : Hub) (type : Byte) : Hub :=
  { h with mga := { h.mga with cell := some { type := type, tag := 0, length := 0,
                                              payload := List.replicate 12 0 } } }

/-- `h` with an OPEN load of SITE. -/
def loading (h : Hub) : Hub := { h with tld := { h.tld with phase := .opened, declared := 16 } }

/-- The hub that an outcome leaves. -/
def left (o : Host.Outcome State Fault Refusal) : Hub :=
  match o with
  | .next t => t.hub
  | _ => Hub.init

/-! ## Commands on small states -/

/-- R3, R20: light on the trunk moves it from DOWN to HUNT. -/
theorem test_signal_present :
    (left (exec (.signalPresent .trunk) State.reset)).lnk.trunk.state = .hunt := by decide +kernel

/-- R3, R14: loss of light in HUNT moves a donor to DOWN. -/
theorem test_signal_absent :
    (left (exec (.signalAbsent (.donor 7)) (left (exec (.signalPresent (.donor 7)) State.reset) |> st))).lnk.donor[(7 : DonorId)].state
      = .down := by decide +kernel

/-- R1: the hub frame number after one boundary. -/
theorem test_frame_number :
    (left (exec (.frameBoundary .frameEnd) State.reset)).lnk.frameNumber = 1 := by decide +kernel

/-- R167: the 16,000th boundary is a second mark. -/
theorem test_second_mark :
    (left (exec .secondMark (st { opened with mga := { Mga.init with frameCount := 16000 } }))).mga.seconds = 1 := by
  decide +kernel

/-- R169: a fifth REQUEST cell is an overrun. -/
theorem test_overrun :
    let c := cell .hello []
    let h := holding { opened with mga := { Mga.init with requests := [c, c, c, c] } } 1
    (left (exec .requestCell (st h))).mga.overrun = 1 := by decide +kernel

/-- R160: LOAD_BEGIN of SITE with length 16 opens a load. -/
theorem test_load_begin :
    (left (exec .loadBegin (st (asking Hub.init (cell .loadBegin [0, 0, 16]))))).tld.phase = .opened := by
  decide +kernel

/-- R161: a DATA cell with no load is a stray. -/
theorem test_stray : (left (exec .dataCell (st (holding opened 3)))).tld.stray = 1 := by decide +kernel

/-- R168: ENTER_SERVICE with no table loaded is refused with NOT_LOADED and the CARRIER table. -/
theorem test_enter_service :
    (left (exec .enterService (st (asking Hub.init (cell .enterService []))))).mga.responses
      = [{ tag := 7, status := .refused, used := 2, payload := [6, 2] }] := by decide +kernel

/-- R132: WAKE in CONFIG is answered NOT_IN_SERVICE. -/
theorem test_wake :
    (left (exec .wake (st (asking Hub.init (cell .wake [0]))))).mga.responses
      = [{ tag := 7, status := .notInService, used := 1, payload := [0] }] := by decide +kernel

/-- R38: the hold flag of OP5 is set at once. -/
theorem test_hold :
    (left (exec .operatorHold (st (asking Hub.init (cell .operatorHold [5]))))).dlc.holds[(5 : OperatorId)] = true := by
  decide +kernel

/-- R170: a request of kind 20 is answered BAD_REQUEST. -/
theorem test_unknown_request :
    (left (exec .unknownRequest (st (asking Hub.init { cell .hello [] with payload := [20] })))).mga.responses
      = [{ tag := 7, status := .badRequest, used := 1, payload := [0] }] := by decide +kernel

/-- R148, R172: FAULT_HISTORY with no entry answers a part, and a second part is refused. -/
theorem test_read_history :
    (left (exec .readFaultHistory (st (asking Hub.init (cell .read [7, 0, 0, 0]))))).mga.responses
      = [{ tag := 7, status := .ok, used := 12
           payload := [0xFF, 0xFF, 0xFF, 0xFF, 0xFF, 0xFF, 0xFF, 0, 0, 0, 0, 0] }]
    ∧ (left (exec .readFaultHistory (st (asking Hub.init (cell .read [7, 0, 1, 0]))))).mga.responses
      = [{ tag := 7, status := .refused, used := 1, payload := [1] }] := by decide +kernel

/-! ## Witnesses: states and operands that meet the hypotheses of the statements -/

theorem witness_StepTakesTheFrontCommand : (st opened).pending = [] := rfl

theorem witness_FrameEndBeginsABoundary : State.reset.hub.bd.isOpen = false := rfl

theorem witness_MetersClassTheEndedFrame :
    (st { Hub.init with frame := .replicate 24 { FrameInput.init with link := .up, mask := 1 } }).hub.bd.isOpen = false := rfl

theorem witness_BoundaryEventsShareOneBoundary :
    Instr.isBoundaryEvent .secondMark ∧ State.reset.hub.bd.isOpen = false :=
  ⟨⟨by decide, rfl⟩, rfl⟩

theorem witness_FrameNumberCountsBoundaries :
    (∃ t, exec .secondMark State.reset = .next t) ∧ Instr.isBoundaryEvent .secondMark
    ∧ (∃ t, exec .hello State.reset = .next t) ∧ Instr.isRequest .hello = true
    ∧ ∃ t, exec .powerOn State.reset = .next t :=
  ⟨⟨_, rfl⟩, ⟨by decide, rfl⟩, ⟨_, rfl⟩, rfl, ⟨_, rfl⟩⟩

/-- A port's limiter at the floor on lane B0. -/
def atFloor : PortLimiter :=
  { PortLimiter.init with lanes := upd PortLimiter.init.lanes 0 fun l => { l with factor := 512 } }

theorem witness_FactorsStayInRange :
    let s : State := { hub := { opened with plm := .replicate 24 atFloor }
                       pending := [.frameBoundary .limiterUpdate] }
    s.hub.factorsInRange ∧ ∃ t, step s = .next t :=
  ⟨by unfold Hub.factorsInRange; decide +kernel, _, rfl⟩

theorem witness_CompensationLawStays :
    let eq := { PortEq.init with countedIn := some 3, delayTaken := 276, comp := 68 }
    let deq : Deq := { sectors := .replicate 12 { target := 344, counted := 3, least := 276 }
                       ports := .replicate 24 eq }
    let s : State := { hub := { opened with deq := deq }, pending := [.frameBoundary .deqRecompute] }
    s.hub.equalized ∧ (∃ t, step s = .next t)
    ∧ let s : State := { hub := opened, pending := [.frameBoundary .deqRecompute] }
      s.hub.linesFull ∧ ∃ t, step s = .next t := by
  refine ⟨fun p => ?_, ⟨_, rfl⟩, fun p => ?_, _, rfl⟩
  rotate_left
  · have hp : opened.deq.ports[p] = PortEq.init := by simp [opened, Hub.init, Deq.init]
    simp only [hp]
    decide +kernel
  have hp : (Vector.replicate 24 { PortEq.init with countedIn := some 3, delayTaken := 276, comp := 68 })[p]
      = { PortEq.init with countedIn := some 3, delayTaken := 276, comp := 68 } := by simp
  simp only [hp, PortEq.lawful]
  decide +kernel

/-- Port RP0 is ramping from SC0 to SC1 at step 1 of 16, and RP1's move to SC2 is queued. -/
def ramping : Hub :=
  let m : MoveRecord := { entry := ⟨0, 0, 1, .manual⟩, length := 16, step := 1, ending := none, stamp := 0 }
  let h := serving opened
  { h with
    bd := { h.bd with rampDue := true }
    sbl := { h.sbl with
      flight := some m
      queue := [⟨1, 0, 2, .auto⟩]
      ports := (h.sbl.ports.set 0 { PortBalance.init with assign := .two 0 1 }).set 1
        { PortBalance.init with assign := .one 0 } } }

theorem ramping_assign (p : PortId) (h : p ≠ 0) (s t : SectorId) : ramping.assignOf p ≠ .two s t := by
  revert p h s t; decide +kernel

theorem witness_MoveLawsStay :
    let s : State := { hub := ramping, pending := [.rampStep] }
    s.hub.movesLawful ∧ ∃ t, step s = .next t := by
  refine ⟨⟨by decide, by decide, ?_, ?_, ?_, by decide⟩, _, rfl⟩
  · intro m hm e he
    cases hm
    revert e he; decide +kernel
  · intro m hm; cases hm; decide +kernel
  · intro p s t hp
    by_cases h : p = 0
    · subst h; decide +kernel
    · exact absurd hp (ramping_assign p h s t)

/-- Tables that pass the cross checks: SC0 and SC11 with one to two members, RP22 at home in SC0, RP21 and RP23 in
SC11. -/
def lawfulTables : Tables :=
  let port := fun home : Byte => [1, home, 0xFF, 0xFF, 0xFF] ++ List.replicate 43 0
  let sector : List Byte := [1, 1, 2, 4, 1, 0, 0, 0, 0, 0, 0, 0]
  { Tables.init with
    sector := sector ++ List.replicate 120 0 ++ sector
    port := List.replicate 1008 0 ++ port 11 ++ port 0 ++ port 11 }

/-- Under these tables RP23 is ramping from its home to SC0. -/
def lawful : Hub :=
  let m : MoveRecord := { entry := ⟨23, 11, 0, .manual⟩, length := 16, step := 15, ending := none, stamp := 0 }
  let at_ := fun a : Assign => { PortBalance.init with assign := a }
  let h := serving opened
  { h with
    bd := { h.bd with rampDue := true }
    tld := { h.tld with tables := lawfulTables }
    sbl := { h.sbl with
      flight := some m
      ports := ((h.sbl.ports.set 23 (at_ (.two 11 0))).set 22 (at_ (.one 0))).set 21 (at_ (.one 11)) } }

theorem lawful_assign (p : PortId) (h : p ≠ 23) (s t : SectorId) : lawful.assignOf p ≠ .two s t := by
  revert p h s t; decide +kernel

theorem witness_PlacesStayLawful :
    let s : State := { hub := lawful, pending := [.moveCommit] }
    s.hub.movesLawful ∧ s.hub.placesLawful ∧ ∃ t, step s = .next t := by
  refine ⟨⟨by decide, by decide, ?_, ?_, ?_, by decide⟩, ⟨by decide, fun _ => ⟨?_, ?_, ?_, ?_, ?_, ?_⟩, ?_⟩,
    _, rfl⟩
  · intro m _ e he; cases he
  · intro m hm; cases hm; decide +kernel
  · intro p s t hp
    by_cases h : p = 23
    · subst h; decide +kernel
    · exact absurd hp (lawful_assign p h s t)
  · decide +kernel
  · decide +kernel
  · decide +kernel
  · intro e he; cases he
  · decide +kernel
  · intro id img h; cases h
  · intro tag h; cases h

theorem witness_ListBoundsStay :
    let s : State := { hub := ramping, pending := [.cancelMove] }
    s.hub.listsBounded ∧ s.hub.answersBounded ∧ ∃ t, step s = .next t :=
  ⟨by unfold Hub.listsBounded; decide, ⟨by decide, by decide +kernel, by
    intro p tag hr
    have : ∀ p : PortId, ramping.lnk.remote[p].meas.running = false := by decide +kernel
    exact absurd ((this p).symm.trans hr) (by decide)⟩, _, rfl⟩

/-- A loop test of RP0 runs and seven responses wait: there is room for its answer. -/
theorem witness_AnswersStayBounded :
    let r : Response := { tag := 1, status := .ok, used := 0, payload := [] }
    let h := busyWith (opened.onMeter 0 fun m => { m with loop := .running 7 }) (.loopTest 0)
    let g := { h with mga := { h.mga with responses := List.replicate 7 r } }
    g.mga.responses.length + g.mga.owed = 8 ∧ g.lvm.ports[(0 : PortId)].loop = .running 7
    ∧ (∀ p : PortId, g.lvm.ports[p].loop ≠ .none → g.mga.busy = some (.loopTest p))
    ∧ ∀ p : PortId, g.lnk.remote[p].meas.running = false := by decide +kernel

theorem witness_DonorAndTrunkStatesStayLegal :
    let s : State := { hub := opened, pending := [.signalPresent (.donor 0)] }
    s.hub.linksLegal ∧ ∃ t, step s = .next t :=
  ⟨by unfold Hub.linksLegal LinkState.ofDonor; decide, _, rfl⟩

/-- The hub in SERVICE with a RESTART due. -/
def restarting : State := st (busyWith (serving opened) .restart)

theorem witness_HubStateChangesOnlyByItsRequests :
    (∃ t, exec .restartEffect restarting = .next t ∧ restarting.hub.inService = true
      ∧ t.hub.inService = false)
    ∧ ∃ t, exec .serviceEntry (st (busyWith opened (.enterService 7))) = .next t
      ∧ (st (busyWith opened (.enterService 7))).hub.inService = false ∧ t.hub.inService = true :=
  ⟨⟨_, rfl, by decide, by decide +kernel⟩, _, rfl, by decide, by decide +kernel⟩

theorem witness_SignalsOfUnalignedLinks :
    (let c := (st opened).hub.openBoundary.core (.remote 23);
      c.state.aligned = false ∧ ¬ (c.state = .hunt ∧ 4 ≤ c.good ∧ c.arrival ≠ none))
    ∧ (let c := (st (opened.onCore .trunk fun c =>
        { c with state := .hunt, good := 4, arrival := some goodArrival })).hub.openBoundary.core .trunk;
      c.state.aligned = false ∧ c.state = .hunt ∧ 4 ≤ c.good ∧ c.arrival ≠ none) := by decide +kernel

/-- Port RP23 UP with a bad-marker count of 8. -/
def upPort : State := st (withLink opened 23 fun c => { c with state := .up, bad := 8 })

/-- Donor DN7 UP with a bad-marker count of 8. -/
def upDonor : State := st (opened.onCore (.donor 7) fun c => { c with state := .up, bad := 8 })

theorem witness_DonorLeavesUp :
    upDonor.hub.openBoundary.lnk.donor[(7 : DonorId)].state = .up
    ∧ 8 ≤ upDonor.hub.openBoundary.lnk.donor[(7 : DonorId)].bad := by decide +kernel

/-- The trunk UP with a bad-marker count of 8 and a load OPEN. -/
def upTrunk : State := st ((loading opened).onCore .trunk fun c => { c with state := .up, bad := 8 })

theorem witness_TrunkLeavesUp :
    upTrunk.hub.openBoundary.lnk.trunk.state = .up ∧ 8 ≤ upTrunk.hub.openBoundary.lnk.trunk.bad := by
  decide +kernel

/-- A received frame that begins with the marker. -/
def marked : Arrival := { pos := 5, framesAgo := 0, instant := 44, bytes := [0xE4, 0x1B, 0x7D, 0x28] }

/-- A received frame with the marker and the bytes of a control field that ends in its own CRC: the CRC of all of them
is 0, the CRC field of a frame that holds no more (R6). -/
def checked : Arrival :=
  { marked with bytes := marker ++ [0, 0, 0, 0] ++ [1, 9, 0, 0x0F, 0, 0, 0xC1, 0x88] }

/-- A trunk frame of one marker and zeros, and a stretch of a stream of such frames that begins `k` bits into one. -/
def frameBits : List Bool := bitsOf marker ++ List.replicate 176 false
def cutAt (k pos : Nat) : Arrival :=
  { pos := pos, framesAgo := 0, instant := 10, bytes := packBits (frameBits.drop k ++ frameBits.take k) }

/-- R4: a marker anywhere in the received bits fixes the candidate, here at bit 3, 160 and 200 of a stretch from bit
10; the last one ends in the next stretch. -/
theorem test_search_finds_any_bit :
    ∀ x ∈ [(205, 13), (48, 170), (8, 2)],
      let c := (LinkCore.init .hunt true).search .trunk (cutAt x.1 10)
      let c := if x.1 = 8 then c.search .trunk (cutAt x.1 10) else c
      c.cand = some x.2 ∧ c.good = 1 := by decide +kernel

/-- R4: the fourth marker is found in the fourth stretch, and its frame ends in the fifth; R17: its marker was found
206 instants and a fraction of one, 207 whole ones counted, before that of the fifth. -/
theorem test_frame_across_stretches :
    let aligned := (List.replicate 4 (cutAt 168 10)).foldl (LinkCore.search .trunk) (LinkCore.init .hunt true)
    aligned.good = 4 ∧ aligned.arrival = none ∧ aligned.cand = some 50
    ∧ (aligned.search .trunk (cutAt 168 10)).arrival
        = some { cutAt 0 50 with framesAgo := 1, instant := 10 + 256 - 207 } := by decide +kernel

/-- R4: with no marker at the candidate the search goes on from the next bit, and finds one within the period. -/
theorem test_search_goes_on :
    let c := { LinkCore.init .hunt true with cand := some 10, good := 3, last := some (cutAt 0 10) }
    (c.search .trunk (cutAt 168 10)).cand = some 50 ∧ (c.search .trunk (cutAt 168 10)).good = 1 := by decide +kernel

/-- A link in HUNT with four good markers, `a` the frame of the fourth or a later one. -/
def hunting (l : LinkId) (a : Arrival := marked) : State :=
  st (opened.onCore l fun c => { c with state := .hunt, good := 4, cand := some 5, arrival := some a })

/-- A first delivered frame of each verdict (R5). -/
def firstFrames : List (Verdict × Arrival) :=
  [(.good, checked), (.errored, marked), (.slipped, { checked with pos := 6 }), (.slipped, { checked with bytes := [] })]

theorem witness_RemotePortAligns :
    ∀ x ∈ firstFrames,
      let h := (hunting (.remote 5) x.2).hub.openBoundary
      let c := h.lnk.remote[(5 : PortId)].core
      h.linkOf 5 = .hunt ∧ 4 ≤ c.good ∧ c.arrival = some x.2 ∧ verdictOf (.remote 5) c.cand x.2 = x.1 := by
  decide +kernel

theorem witness_DonorAndTrunkAlign :
    ∀ x ∈ firstFrames,
      (let c := (hunting (.donor 0) x.2).hub.openBoundary.lnk.donor[(0 : DonorId)];
        c.state = .hunt ∧ 4 ≤ c.good ∧ c.arrival = some x.2 ∧ verdictOf (.donor 0) c.cand x.2 = x.1)
      ∧ let c := (hunting .trunk x.2).hub.openBoundary.lnk.trunk
        c.state = .hunt ∧ 4 ≤ c.good ∧ c.arrival = some x.2 ∧ verdictOf .trunk c.cand x.2 = x.1 := by
  decide +kernel

theorem witness_FramesOfAnAlignedLink :
    (let h := upPort.hub.openBoundary;
      (h.core (.remote 23)).state.aligned = true ∧ (h.core (.remote 23)).handed = false)
    ∧ (let c := { LinkCore.init .up true with cand := some 50, last := some (cutAt 168 10) };
      let a := cutAt 168 10;
      c.cand = some 50 ∧ c.last = some a ∧ 50 ≠ a.pos ∧ 50 < 8 * frameLength .trunk ∧ a.instant < 256
      ∧ a.bytes.length = frameLength .trunk ∧ c.cut .trunk a ≠ a) := by decide +kernel

theorem witness_FramesOfAnUnalignedLink :
    ((withLink opened 0 fun c => { c with handed := true }).core (.remote 0)).handed = true
    ∧ ((st opened).hub.openBoundary.core (.remote 0)).handed = false
    ∧ ((st opened).hub.openBoundary.core (.remote 0)).state = .disabled
    ∧ ((hunting .trunk).hub.openBoundary.core .trunk).handed = false
    ∧ ((hunting .trunk).hub.openBoundary.core .trunk).state = .hunt := by decide +kernel

/-- Port RP5 with a running measurement. -/
def measuring (taken elapsed : Nat) (origin : Origin) : State :=
  st (opened.onRemote 5 fun r => { r with
    core := { r.core with state := .proving, handed := true }
    meas := { running := true, origin := origin, taken := taken, minimum := some (552, false)
              elapsed := elapsed } })

theorem witness_MeasurementsStartAndEnd :
    (let h := (st (busyWith opened (.measureStart 7 5))).hub.openBoundary;
      h.mga.busy = some (.measureStart 7 5) ∧ h.mga.busyRipe = true)
    ∧ (∀ o ∈ [Origin.entry, .request 7],
      let r := (measuring 4 7 o).hub.openBoundary.lnk.remote[(5 : PortId)]
      r.meas.running = true ∧ r.meas.taken = 4 ∧ r.meas.minimum = some (552, false) ∧ r.meas.origin = o)
    ∧ ∀ o ∈ [Origin.entry, .request 7],
      let r := (measuring 3 16 o).hub.openBoundary.lnk.remote[(5 : PortId)]
      r.meas.running = true ∧ 16 ≤ r.meas.elapsed ∧ r.meas.taken < 4 ∧ r.core.handed = true
        ∧ r.meas.origin = o := by decide +kernel

/-- Port RP5 in PROVING with a transaction in flight and a control field handed on. -/
def asked (k : TxKind) (attempt remaining : Nat) (f : Option (List Byte)) : State :=
  let h := withLink opened 5 fun c => { c with state := .proving, handed := true }
  st { h with cte := { h.cte with
    transaction := some { port := 5, kind := k, attempt := attempt, sequence := 9, remaining := remaining }
    ports := upd h.cte.ports 5 fun c => { c with field := f, misses := attempt - 1 } } }

/-- An IDENTIFY reply of sequence 9 with all lanes in its mask. -/
def identifyField : List Byte := [1, 9, 0, 0x0F, 0, 0, 0, 1]

/-- A STATUS reply of sequence 9 with alarm bit 0. -/
def statusField : List Byte := [2, 9, 0, 1, 25, 0x0F, 0, 0]

theorem witness_RemotePortLeavesAlignment :
    (let h := upPort.hub.openBoundary;
      (h.linkOf 23).aligned = true ∧ 8 ≤ h.lnk.remote[(23 : PortId)].core.bad
      ∧ h.lnk.remote[(23 : PortId)].meas.running = false ∧ h.cte.inFlight 23 = false ∧ h.isUp 23 = true)
    ∧ (let h := (asked .identify 1 8 (some identifyField)).hub.openBoundary;
      (h.linkOf 5).aligned = true ∧ h.cte.transaction = some ⟨5, .identify, 1, 9, 8⟩
      ∧ h.bd.selectDone = false
      ∧ h.cte.ports[(5 : PortId)].field = some identifyField ∧ byteAt identifyField 0 = 1
      ∧ fieldSequence identifyField = 9 ∧ (identifyFields identifyField).mask ≠ 0)
    ∧ (let h := (measuring 4 7 .entry).hub.openBoundary;
      let m := h.lnk.remote[(5 : PortId)].meas;
      (h.linkOf 5).aligned = true ∧ m.running = true ∧ m.taken = 4 ∧ m.minimum = some (552, false)) := by
  decide +kernel

theorem witness_GoodIdentifyReply :
    let s := asked .identify 1 8 (some identifyField)
    s.hub.openBoundary.cte.transaction = some ⟨5, .identify, 1, 9, 8⟩
    ∧ s.hub.openBoundary.cte.ports[(5 : PortId)].field = some identifyField
    ∧ byteAt identifyField 0 = 1 ∧ fieldSequence identifyField = 9
    ∧ (identifyFields identifyField).mask ≠ 0
    ∧ ∀ late : Bool, (st { s.hub with bd := { s.hub.bd with selectDone := late } }).hub.openBoundary.bd.selectDone
        = late := by decide +kernel

theorem witness_StatusReplyReportsTheRau :
    let s := asked .status 1 8 (some statusField)
    s.hub.openBoundary.cte.transaction = some ⟨5, .status, 1, 9, 8⟩
    ∧ s.hub.openBoundary.cte.ports[(5 : PortId)].field = some statusField
    ∧ byteAt statusField 0 = 2 ∧ fieldSequence statusField = 9
    ∧ ∀ late : Bool, (st { s.hub with bd := { s.hub.bd with selectDone := late } }).hub.openBoundary.bd.selectDone
        = late := by decide +kernel

/-- RP0 waits for an identify. -/
def identifyWaits : Hub :=
  let h := withLink opened 0 fun c => { c with state := .proving }
  h.onCte 0 fun c => { c with pending := true }

/-- RP23 UP, in the priority set or not, a regular pass at position 23, and a poll interval due. -/
def polling (inSet : Bool) : Hub :=
  let h := withLink opened 23 fun c => { c with state := .up }
  { h with cte := { h.cte with priority := h.cte.priority.set 23 inSet, pass := some 23, pollDue := true } }

/-- RP23 UP, the regular pass beyond it, and the priority position too: the cycle and the pass end. -/
def cycleEnds (inSet waiting : Bool) (pass : Option Nat) : Hub :=
  let h := polling inSet
  { h with cte := { h.cte with pass := pass, passWaiting := waiting, priorityPos := 24 } }

/-- R154: an IDENTIFY reply with an empty lane mask, replies of another sequence number, and no transaction. -/
theorem witness_RepliesIgnored :
    (identifyFields [1, 9, 0, 0x00, 0, 0, 0, 1]).mask = 0
    ∧ fieldSequence [2, 8, 0, 1, 25, 0x0F, 0, 0] ≠ 9 ∧ fieldSequence [1, 8, 0, 0x0F, 0, 0, 0, 1] ≠ 9
    ∧ (∀ x ∈ [(TxKind.identify, [1, 9, 0, 0x00, 0, 0, 0, 1]), (.identify, [1, 8, 0, 0x0F, 0, 0, 0, 1]),
        (.status, [2, 8, 0, 1, 25, 0x0F, 0, 0])],
      let h := (asked x.1 1 8 (some x.2)).hub.openBoundary
      h.cte.transaction = some ⟨5, x.1, 1, 9, 8⟩ ∧ h.cte.ports[(5 : PortId)].field = some x.2
      ∧ h.replyOf ⟨5, x.1, 1, 9, 8⟩ = none)
    ∧ State.reset.hub.openBoundary.cte.transaction = none := by decide +kernel

/-- A boundary at which each event has been taken: none of them is due again. -/
theorem witness_EventsTakenOnce :
    let h := (st { opened with bd := { opened.bd with
      limiterDone := true, supplyDone := true, headSeen := true } }).hub.openBoundary
    h.bd.limiterDone = true ∧ h.bd.supplyDone = true ∧ h.bd.headSeen = true ∧ h.bd.rampDue = false
    ∧ h.bd.abandonDue = false ∧ ¬ h.due (.frameBoundary .limiterUpdate) ∧ ¬ h.due .secondMark
    ∧ Instr.isBoundaryEvent .secondMark := by
  unfold Hub.due Instr.isBoundaryEvent; decide +kernel

theorem witness_EngineSelectsInOrder :
    (let h := (st identifyWaits).hub.openBoundary;
      h.cte.transaction = none ∧ h.bd.selectDone = false ∧ (h.linkOf 0).aligned = true
      ∧ h.cte.ports[(0 : PortId)].pending = true ∧ h.cte.ports[(0 : PortId)].hold = false
      ∧ ∀ q : PortId, ¬ q < 0)
    ∧ (let h := (st (polling true)).hub.openBoundary;
      (∀ q : PortId, ¬ ((h.linkOf q).aligned = true ∧ h.cte.ports[q].pending = true
        ∧ h.cte.ports[q].hold = false))
      ∧ h.cte.priority[(23 : PortId)] = true ∧ h.isUp 23 = true ∧ h.cte.priorityPos ≤ 23
      ∧ ∀ q : PortId, h.cte.priorityPos ≤ q.val → q < 23 → ¬ (h.cte.priority[q] = true ∧ h.isUp q = true))
    ∧ (let h := (st (polling false)).hub.openBoundary;
      (∀ q : PortId, ¬ ((h.linkOf q).aligned = true ∧ h.cte.ports[q].pending = true
        ∧ h.cte.ports[q].hold = false))
      ∧ (∀ q : PortId, ¬ (h.cte.priority[q] = true ∧ h.isUp q = true))
      ∧ h.cte.pass = some 23 ∧ h.isUp 23 = true ∧ h.cte.pollDue = true)
    ∧ (∀ inSet : Bool, ∀ waiting : Bool, ∀ pass ∈ [none, some 24],
      let h := (st (cycleEnds inSet waiting pass)).hub.openBoundary
      h.cte.transaction = none ∧ h.bd.selectDone = false
      ∧ (∀ q : PortId, ¬ (h.linkOf q).aligned = true ∨ h.cte.ports[q].pending = false)
      ∧ (∀ q : PortId, q.val < h.cte.priorityPos) ∧ h.cte.pass = pass ∧ h.cte.passWaiting = waiting
      ∧ h.cte.priority[(23 : PortId)] = inSet ∧ h.isUp 23 = true
      ∧ ∀ q : PortId, q < 23 → h.isUp q = false)
    ∧ (asked .status 1 8 none).hub.openBoundary.cte.transaction ≠ none
    ∧ (st opened).hub.openBoundary.cte.pollDue = false ∧ opened.cte.pass = none := by decide +kernel

theorem witness_UnansweredAttemptsAreMisses :
    ∀ x ∈ [(TxKind.identify, 3), (.identify, 4), (.status, 2), (.status, 3), (.status, 4)],
      let s := asked x.1 x.2 0 none
      let h := s.hub.openBoundary
      let t : Transaction := ⟨5, x.1, x.2, 9, 0⟩
      h.cte.transaction = some t ∧ t.remaining = 0
      ∧ h.lnk.remote[(5 : PortId)].core.handed = true ∧ h.replyOf t = none
      ∧ h.cte.ports[(5 : PortId)].misses = x.2 - 1 := by decide +kernel

theorem witness_SecondMarkServesTheSecond :
    16000 ≤ (st { opened with mga := { Mga.init with frameCount := 16000 } }).hub.openBoundary.mga.frameCount := by
  decide

/-- RP0 with the three detectors due. -/
def detecting : State :=
  st (opened.onDet 0 fun d => { d with crcDue := true, overloadDue := true, silentDue := true })

theorem witness_DetectorsPresentByMode :
    let h := detecting.hub.openBoundary
    let d := h.fsv.detectors[(0 : PortId)]
    d.crcDue = true ∧ d.overloadDue = true ∧ d.silentDue = true
    ∧ (∀ k ∈ PortClass.all, (h.faultRecord (.port 0 k)).present = false)
    ∧ h.fsv.history.length ≤ 16 ∧ h.bd.deqDone = false := by decide +kernel

/-- A COOLING record of RP0 and an IDLE one of DN0 whose timers have run out. -/
def expiring : State :=
  st ((opened.putRecord (.port 0 .rauNoReply)
      { FaultRecord.init with state := .cooling, retries := 1 }).putRecord (.donor 0)
      { FaultRecord.init with retries := 1 })

theorem witness_CoolingAndSettleExpiry :
    (let h := expiring.hub.openBoundary;
      let r := h.faultRecord (.port 0 .rauNoReply);
      let d := h.faultRecord (.donor 0);
      r.state = .cooling ∧ r.fresh = false ∧ r.timer = 0
      ∧ d.state = .idle ∧ 0 < d.retries ∧ d.fresh = false ∧ d.timer = 0)
    ∧ (let h := (st { opened.putRecord (.donor 7) { FaultRecord.init with state := .cooling, timer := 1 } with
        mga := { Mga.init with frameCount := 16000 } }).hub.openBoundary;
      let d := h.faultRecord (.donor 7);
      d.state = .cooling ∧ d.fresh = false ∧ d.timer = 1 ∧ 16000 ≤ h.mga.frameCount)
    ∧ (expiring.hub.openBoundary.faultRecord (.donor 7)).retries = 0 := by decide +kernel

/-- The end of a window, RP0 in a loop test, RP2's meters cleared at the boundary. -/
def windowEnds : State :=
  let h := (opened.onMeter 0 fun m => { m with loop := .running 7 }).onMeter 2 fun m => { m with cleared := true }
  st { h with lvm := { h.lvm with windowCount := 16 } }

theorem witness_WindowEndCompletesEveryMeter :
    let h := windowEnds.hub.openBoundary
    h.tables.window ≤ h.lvm.windowCount ∧ h.lvm.ports[(0 : PortId)].loop.isRunning = true
    ∧ h.lvm.ports[(1 : PortId)].loop.isRunning = false ∧ h.lvm.ports[(1 : PortId)].cleared = false
    ∧ h.lvm.ports[(2 : PortId)].loop.isRunning = false ∧ h.lvm.ports[(2 : PortId)].cleared = true := by
  decide +kernel

theorem witness_GatesFollowTheirTable :
    windowEnds.hub.openBoundary.tables.window ≤ windowEnds.hub.openBoundary.lvm.windowCount
    ∧ ∀ done : Bool,
      (st { opened with bd := { opened.bd with joinDone := done } }).hub.openBoundary.bd.joinDone = done := by
  decide +kernel

theorem witness_LimiterFollowsTheEndedFrame :
    let h := (st opened).hub.openBoundary
    h.bd.limiterDone = false ∧ h.plm[(23 : PortId)].cleared = false
    ∧ (let h := (st (opened.onPlm 0 fun m => { m with cleared := true })).hub.openBoundary;
      h.bd.limiterDone = false ∧ h.plm[(23 : PortId)].cleared = false
      ∧ h.plm[(0 : PortId)].cleared = true) := by decide +kernel

theorem witness_OverdriveCountsFramesAtTheFloor :
    let h := (st { opened with plm := .replicate 24 atFloor }).hub.openBoundary
    h.bd.limiterDone = false ∧ h.plm[(0 : PortId)].cleared = false
    ∧ h.plm[(0 : PortId)].lanes[(0 : Lane)].factor = 512 := by decide +kernel

/-- The limiter's update is done: RP0's restoration is due and RP0's overdrive is at 16. -/
def limited16 (flag : Bool) : State :=
  let l := { LaneLimiter.init 0 with restoreDue := true, overdrive := 16 }
  st { opened with
    bd := { opened.bd with limiterDone := true }
    plm := .replicate 24 { PortLimiter.init with lanes := .replicate 4 l, flag := flag, clean := 16 } }

theorem witness_HoldRestoreAndOverdriveFlag :
    ∀ flag : Bool,
      let h := (limited16 flag).hub.openBoundary
      h.bd.limiterDone = true ∧ h.plm[(0 : PortId)].lanes[(3 : Lane)].restoreDue = true
      ∧ h.plm[(0 : PortId)].flag = flag ∧ (∃ b : Lane, h.plm[(0 : PortId)].lanes[b].overdrive = 16)
      ∧ h.plm[(0 : PortId)].clean = 16 ∧ h.mga.busy ≠ some .restart
      ∧ (let h := (st (busyWith (limited16 flag).hub .restart)).hub.openBoundary;
        h.bd.limiterDone = true ∧ h.mga.busy = some .restart ∧ h.mga.busyRipe = true) := by decide +kernel

theorem witness_CellsActByTheirType :
    (∀ type ∈ [(0 : Byte), 2, 5, 255, 1],
      ((st (holding opened type)).hub.openBoundary.mga.cell.map fun c => c.type) = some type)
    ∧ (0 : Byte) = 0 ∧ 5 ≤ (5 : Byte).toNat ∧ 5 ≤ (255 : Byte).toNat
    ∧ (let c := cell .loadEnd [];
      let h := (st { opened with mga := { Mga.init with requests := [c, c, c, c], cell := some c } }).hub.openBoundary;
      h.mga.cell = some c ∧ c.type = 1 ∧ 4 ≤ h.mga.requests.length)
    ∧ (let c := cell .loadEnd [];
      ∀ silence ∈ [15999, 16000],
      let h := (st { opened with
        tld := { (loading opened).tld with silence := silence }
        mga := { Mga.init with requests := [c, c, c], cell := some c } }).hub.openBoundary
      h.mga.cell = some c ∧ h.mga.requests.length < 4 ∧ byteAt c.payload 0 = 5
        ∧ h.tld.phase = .opened ∧ h.tld.silence = silence)
    ∧ byteAt (cell .hello []).payload 0 ≠ 5 ∧ opened.tld.phase ≠ .opened := by decide +kernel

theorem witness_DataAndCheckCellsFillTheImage :
    ∀ type ∈ [(3 : Byte), 4],
      ((st (holding (loading opened) type)).hub.openBoundary.mga.cell.map fun c => c.type) = some type := by
  decide +kernel

/-- The request `c` is offered. -/
theorem offers_asking (h : Hub) (c : Cell) (hb : h.mga.busy = none) (hr : h.mga.responses.length < 8) :
    (st (asking h c)).hub.offers c [] := ⟨rfl, hb, hr⟩

theorem witness_LoadBeginOpensALoad :
    (∀ args ∈ [[(5 : Byte), 0, 16], [4, 0, 72], [0, 0, 17], [0, 0, 16]],
      let c := cell .loadBegin args
      (st (asking Hub.init c)).hub.offersKind c [] .loadBegin)
    ∧ 5 ≤ (cell .loadBegin [5, 0, 16]).arg 0
    ∧ (cell .loadBegin [4, 0, 72]).arg 0 = TableId.response.code.toNat
    ∧ (cell .loadBegin [4, 0, 72]).arg16 1 = TableId.response.size
    ∧ (cell .loadBegin [0, 0, 17]).arg16 1 ≠ TableId.site.size
    ∧ (loading Hub.init).tld.phase ≠ .none := by
  unfold Hub.offersKind Hub.offers; decide +kernel

theorem witness_LoadEndJudgesTheLoad :
    let c := cell .loadEnd []
    (st (asking Hub.init c)).hub.offersKind c [] .loadEnd ∧ (st (asking Hub.init c)).hub.tld.phase = .none
    ∧ (st (asking (loading Hub.init) c)).hub.offersKind c [] .loadEnd
    ∧ (st (asking (loading Hub.init) c)).hub.tld.phase ≠ .none := by
  unfold Hub.offersKind Hub.offers; decide +kernel

theorem witness_LoadsEndWithoutLoadEnd :
    (let c := cell .loadAbort [];
      (st (asking Hub.init c)).hub.offersKind c [] .loadAbort
      ∧ (st (asking (loading Hub.init) c)).hub.offersKind c [] .loadAbort
      ∧ (loading Hub.init).tld.phase ≠ .none)
    ∧ (let h := (st { loading opened with tld := { (loading opened).tld with silence := 16000 } }).hub.openBoundary;
      h.tld.phase = .opened ∧ 16000 ≤ h.tld.silence) := by
  unfold Hub.offersKind Hub.offers; decide +kernel

/-- An image of `id` scheduled, in CONFIG or in SERVICE. -/
def scheduled (id : TableId) (img : List Byte) (h : Hub) : State :=
  st { h with tld := { h.tld with scheduled := some (id, img), scheduledRipe := true } }

theorem witness_ActivationInstallsTheImage :
    (∀ id ∈ [TableId.site, .sector, .carrier, .port, .response],
      let h := (scheduled id (Tables.init.get id) (serving opened)).hub.openBoundary
      h.tld.scheduled = some (id, Tables.init.get id) ∧ h.tld.scheduledRipe = true
        ∧ h.inService = true ∧ h.sbl.log.length ≤ 16)
    ∧ opened.inService = false
    ∧ (let h := (scheduled .sector Tables.init.sector
        ((serving opened).onBal 23 fun b => { b with quiet := true })).hub.openBoundary;
      h.isQuiet 23 = true ∧ h.isQuiet 0 = false ∧ h.tables.quietOn 23 = false)
    ∧ (let h := (scheduled .port lawfulTables.port opened).hub.openBoundary;
      let new := h.tables.put .port lawfulTables.port;
      h.tld.scheduledRipe = true ∧ h.tables.portOn 23 = false ∧ new.portOn 23 = true
      ∧ h.linkOf 23 = .disabled ∧ h.tables.portOn 0 = new.portOn 0)
    ∧ (let h := (scheduled .port Tables.init.port
        { upPort.hub with tld := { Hub.init.tld with tables := lawfulTables } }).hub.openBoundary;
      let new := h.tables.put .port Tables.init.port;
      h.tld.scheduledRipe = true ∧ h.tables.portOn 23 = true ∧ new.portOn 23 = false
      ∧ (h.linkOf 23).aligned = true ∧ h.isUp 23 = true ∧ 8 ≤ h.lnk.remote[(23 : PortId)].core.bad
      ∧ h.cte.ports[(23 : PortId)].field = none)
    ∧ (let h := (scheduled .port Tables.init.port
        { (withLink opened 23 fun c => { c with state := .up }) with
          tld := { Hub.init.tld with tables := lawfulTables } }).hub.openBoundary;
      let new := h.tables.put .port Tables.init.port;
      h.tld.scheduledRipe = true ∧ h.tables.portOn 23 = true ∧ new.portOn 23 = false
      ∧ (h.linkOf 23).aligned = true ∧ h.isUp 23 = true ∧ h.nothingDue 23) := by
  unfold Hub.nothingDue; decide +kernel

/-- R19, R33: the port of a waiting MEASURE_DELAY is disabled, and the request is answered TIMEOUT. -/
theorem witness_ActivationAnswersWhatEnds :
    let up := withLink opened 23 fun c => { c with state := .up }
    let h := (scheduled .port Tables.init.port
      { up with
        tld := { Hub.init.tld with tables := lawfulTables }
        mga := { up.mga with busy := some (.measureStart 6 23) } }).hub.openBoundary
    let new := h.tables.put .port Tables.init.port
    (∀ p : PortId, h.lvm.ports[p].loop = .none) ∧ (∀ p : PortId, h.lnk.remote[p].meas.running = false)
    ∧ h.mga.responses.length + h.mga.owed ≤ 8
    ∧ (∀ p : PortId, h.tables.portOn p ≠ new.portOn p → h.nothingDue p)
    ∧ h.exitAnswers 23 = [badResponse 6 .timeout 0 [0, 0, 0, 0, 0, 0]] := by
  unfold Hub.nothingDue; decide +kernel

theorem witness_RequestsAreTakenAndJudged :
    (State.reset.hub.mga.requests = [] ∧ Instr.isRequest .hello = true)
    ∧ (∀ k ∈ [(0 : Byte), 20, 255],
      let c := { cell .hello [] with payload := [k] }
      (st (asking Hub.init c)).hub.offers c [] ∧ (byteAt c.payload 0 = 0 ∨ 20 ≤ byteAt c.payload 0))
    ∧ (let c := { cell .move [] with length := 2 };
      (st (asking Hub.init c)).hub.offers c [] ∧ byteAt c.payload 0 = ReqKind.move.code
      ∧ c.length.toNat ≠ ReqKind.move.length ∧ ReqKind.move ≠ .read) := by
  unfold Hub.offers; decide +kernel

theorem witness_HelloAndTableReadAnswer :
    (let c := cell .hello [];
      (st (asking Hub.init c)).hub.offersKind c [] .hello)
    ∧ (∀ args ∈ [[(5 : Byte), 0, 0], [4, 0, 71], [4, 0, 72]],
      let c := cell .tableRead args
      (st (asking Hub.init c)).hub.offersKind c [] .tableRead)
    ∧ 5 ≤ (cell .tableRead [5, 0, 0]).arg 0
    ∧ (cell .tableRead [4, 0, 71]).arg 0 = TableId.response.code.toNat := by
  unfold Hub.offersKind Hub.offers; decide +kernel

theorem witness_ReadsAnswerOnePart :
    (let c := cell .read [4, 23, 0, 1];
      (st (asking Hub.init c)).hub.offersKind c [] .read ∧ readObjectOf (c.arg 0) = some .extremes
      ∧ c.arg 1 < ReadObject.extremes.indices
      ∧ 12 * c.arg 2 < (Hub.init.readRecord .extremes (c.arg 1)).length ∧ c.arg 3 = 1)
    ∧ (let c := cell .read [12, 1, 0, 0];
      (st (asking Hub.init c)).hub.offersKind c [] .read ∧ readObjectOf (c.arg 0) = some .notices
      ∧ ¬ c.arg 1 < ReadObject.notices.indices)
    ∧ (let c := { cell .read [15, 0, 0, 0] with length := 4 };
      (st (asking Hub.init c)).hub.offers c [] ∧ byteAt c.payload 0 = 2
      ∧ readObjectOf (c.arg 0) = some .quietSummary ∧ c.length ≠ 5)
    ∧ (let c := cell .read [16, 0, 0, 0];
      (st (asking Hub.init c)).hub.offersKind c [] .read ∧ 16 ≤ c.arg 0)
    ∧ (Hub.init.lnk.trunk.state = .down ∧ ∀ d : DonorId, Hub.init.lnk.donor[d].state = .down) := by
  unfold Hub.offersKind Hub.offers; decide +kernel

theorem witness_EnterServiceIsJudged :
    let c := cell .enterService []
    (st (asking Hub.init c)).hub.offersKind c [] .enterService := by
  unfold Hub.offersKind Hub.offers; decide +kernel

theorem witness_ServiceEntryStartsService :
    let h := (st (busyWith opened (.enterService 7))).hub.openBoundary
    h.mga.busy = some (.enterService 7) ∧ h.mga.busyRipe = true
    ∧ h.mga.responses.length + h.mga.owed ≤ 8 ∧ (∀ p : PortId, h.lvm.ports[p].loop = .none)
    ∧ ∀ p : PortId, h.lnk.remote[p].meas.running = false := by decide +kernel

theorem witness_RestartReturnsToPowerOn :
    (let c := cell .restart [];
      (st (asking Hub.init c)).hub.offersKind c [] .restart)
    ∧ restarting.hub.openBoundary.mga.busy = some .restart
    ∧ restarting.hub.openBoundary.mga.busyRipe = true := by
  unfold Hub.offersKind Hub.offers; decide +kernel

theorem witness_PortResetResetsOnePort :
    (∀ p ∈ [(23 : Byte), 24],
      let c := cell .portReset [p]
      (st (asking Hub.init c)).hub.offersKind c [] .portReset)
    ∧ (cell .portReset [23]).arg 0 = (23 : PortId).val ∧ 24 ≤ (cell .portReset [24]).arg 0
    ∧ (∀ h ∈ [opened, lawful, withLink opened 23 fun c => { c with state := .up }],
      let h := (st (busyWith h (.portReset 7 23))).hub.openBoundary
      h.mga.busy = some (.portReset 7 23) ∧ h.mga.busyRipe = true ∧ h.nothingDue 23
      ∧ h.sbl.log.length ≤ 16 ∧ h.mga.responses.length + h.mga.owed ≤ 8
      ∧ (∀ p : PortId, h.lvm.ports[p].loop = .none) ∧ ∀ p : PortId, h.lnk.remote[p].meas.running = false)
    ∧ (let h := (st (busyWith upPort.hub (.portReset 7 23))).hub.openBoundary;
      h.mga.busy = some (.portReset 7 23) ∧ h.mga.busyRipe = true ∧ (h.linkOf 23).aligned = true
      ∧ 8 ≤ h.lnk.remote[(23 : PortId)].core.bad)
    ∧ lawful.inService = true ∧ opened.inService = false
    ∧ (let h := (st (busyWith { (limited16 false).hub with
        plm := mapTab (fun m => { m with clean := 15 }) (limited16 false).hub.plm } (.portReset 7 23))).hub.openBoundary;
      h.mga.busy = some (.portReset 7 23) ∧ h.mga.busyRipe = true ∧ h.bd.limiterDone = true
      ∧ h.plm[(23 : PortId)].flag = false ∧ (∃ b : Lane, h.plm[(23 : PortId)].lanes[b].overdrive = 16)
      ∧ h.plm[(23 : PortId)].clean ≠ 16 ∧ (h.faultRecord (.port 23 .dlOverdrive)).present = false
      ∧ h.tables.responseMode 5 ≠ .ignore) := by
  unfold Hub.offersKind Hub.offers Hub.nothingDue; decide +kernel

theorem witness_ClearCountersZeroesTheCounters :
    let c := cell .clearCounters []
    (st (asking Hub.init c)).hub.offersKind c [] .clearCounters := by
  unfold Hub.offersKind Hub.offers; decide +kernel

theorem witness_OperatorsHoldAndRelease :
    (∀ x ∈ [(ReqKind.operatorHold, (5 : Byte)), (.operatorHold, 6), (.operatorRelease, 5), (.operatorRelease, 6)],
      let c := cell x.1 [x.2]
      (st (asking Hub.init c)).hub.offersKind c [] x.1)
    ∧ (cell .operatorHold [5]).arg 0 = (5 : OperatorId).val ∧ 6 ≤ (cell .operatorRelease [6]).arg 0
    ∧ (∀ v : Bool,
      let b := if v then Busy.operatorHold 7 5 else .operatorRelease 7 5
      (st (busyWith opened b)).hub.openBoundary.mga.busy = some b
      ∧ (st (busyWith opened b)).hub.openBoundary.mga.busyRipe = true) := by
  unfold Hub.offersKind Hub.offers; decide +kernel

theorem witness_MeasureDelayAndLoopTestAreJudged :
    (∀ x ∈ [(ReqKind.measureDelay, (23 : Byte)), (.measureDelay, 24), (.loopTest, 23), (.loopTest, 24)],
      let c := cell x.1 [x.2]
      (st (asking Hub.init c)).hub.offersKind c [] x.1)
    ∧ (Hub.init.linkOf 23).aligned = false
    ∧ (upPort.hub.linkOf 23).aligned = true ∧ upPort.hub.lnk.remote[(23 : PortId)].meas.running = false
    ∧ ((measuring 0 0 .entry).hub.linkOf 5).aligned = true
    ∧ (measuring 0 0 .entry).hub.lnk.remote[(5 : PortId)].meas.running = true
    ∧ Hub.init.inService = false ∧ (serving Hub.init).inService = true
    ∧ (serving Hub.init).isUp 23 = false
    ∧ (let h := serving upPort.hub;
      ¬ (h.isUp 23 = false ∨ h.ramping 23 = true ∨ h.queued 23 = true ∨ h.isQuiet 23 = true)) := by
  unfold Hub.offersKind Hub.offers; decide +kernel

/-- Bit 0 of a table byte set: RP23 enabled at SC11, SC0 and SC11 enabled, in SERVICE with RP23 at SC11. -/
def placed : Hub :=
  let h := serving Hub.init
  { h with
    tld := { h.tld with tables := { h.tld.tables with
      port := List.replicate 1104 0 ++ [1, 11] ++ List.replicate 46 0
      sector := [1] ++ List.replicate 131 0 ++ [1] ++ List.replicate 11 0 } }
    sbl := { h.sbl with ports := h.sbl.ports.set 23 { PortBalance.init with assign := .one 11 } } }

/-- Entries for eight other ports. -/
def fullQueue : List MoveEntry := (List.finRange 8).map fun i => ⟨⟨i.val, by omega⟩, 0, 1, .auto⟩

theorem witness_MoveIsJudged :
    (∀ args ∈ [[(23 : Byte), 0], [24, 0], [23, 12], [23, 11]],
      let c := cell .move args
      (st (asking placed c)).hub.offersKind c [] .move)
    ∧ Hub.init.inService = false ∧ placed.inService = true
    ∧ placed.tables.portOn 23 = true ∧ placed.tables.portOn 22 = false
    ∧ placed.tables.sectorOn 0 = true ∧ placed.tables.sectorOn 1 = false
    ∧ placed.ramping 23 = false ∧ placed.assignOf 23 = .one 11 ∧ placed.inLoopTest 23 = false
    ∧ placed.sbl.queue.length < 8 ∧ placed.queued 23 = false
    ∧ (placed.onMeter 23 fun m => { m with loop := .pending 7 }).inLoopTest 23 = true
    ∧ (let h := { placed with sbl := { placed.sbl with queue := fullQueue } };
      8 ≤ h.sbl.queue.length ∧ h.queued 23 = false)
    ∧ ramping.ramping 0 = true := by
  unfold Hub.offersKind Hub.offers; decide +kernel

theorem witness_CancelMoveCancelsOrMarks :
    (∀ p ∈ [(0 : Byte), 1, 23, 24],
      let c := cell .cancelMove [p]
      (st (asking ramping c)).hub.offersKind c [] .cancelMove)
    ∧ (ramping.sbl.queue.find? fun e => e.port = 1) = some ⟨1, 0, 2, .auto⟩
    ∧ ramping.queued 0 = false ∧ (ramping.sbl.flight.map fun m => m.entry.port) = some 0
    ∧ ramping.queued 23 = false ∧ ramping.ramping 23 = false
    ∧ (st (asking Hub.init (cell .cancelMove [0]))).hub.inService = false
    ∧ (let m : MoveRecord := { entry := ⟨0, 0, 1, .manual⟩, length := 16, step := 1
                               ending := some .cancel, stamp := 0 };
      let h := { Hub.init with sbl := { Sbl.init with flight := some m } };
      h.bd.isOpen = false ∧ h.sbl.flight = some m ∧ m.ending = some .cancel) := by
  unfold Hub.offersKind Hub.offers; decide +kernel

theorem witness_WakeWakesAQuietPort :
    (∀ p ∈ [(23 : Byte), 24],
      let c := cell .wake [p]
      (st (asking placed c)).hub.offersKind c [] .wake)
    ∧ Hub.init.inService = false ∧ placed.inService = true
    ∧ (st opened).hub.openBoundary.sbl.ports[(23 : PortId)].quietDue = false
    ∧ (∃ t, exec .balanceInterval (st opened) = .next t)
    ∧ (let h := { opened with bd := { opened.bd with before := some Tables.init } }
      (st h).hub.openBoundary.sbl.ports[(23 : PortId)].quietDue = false
      ∧ ∃ t, exec .balanceInterval (st h) = .next t) := by
  refine ⟨?_, by decide, by decide, by decide +kernel, ⟨_, rfl⟩, by decide +kernel, _, rfl⟩
  unfold Hub.offersKind Hub.offers; decide +kernel

theorem witness_ClearFaultsAndPriorityPoll :
    (∀ args ∈ [[(0 : Byte), 23], [0, 24], [1, 7], [1, 8], [2, 0], [3, 0]],
      let c := cell .clearFaults args
      (st (asking Hub.init c)).hub.offersKind c [] .clearFaults)
    ∧ Hub.init.fsv.history.length ≤ 16
    ∧ ∀ args ∈ [[(0 : Byte), 255, 255, 255], [1, 0, 0, 0]],
      let c := cell .priorityPoll args
      (st (asking Hub.init c)).hub.offersKind c [] .priorityPoll := by
  unfold Hub.offersKind Hub.offers; decide +kernel

/-- In SERVICE and AUTO at a balance interval: RP23, with A_p 9 and SC0 as its alternate, over-loads SC11. -/
def heavySector : Hub :=
  let h := serving opened
  { h with
    tld := { h.tld with tables := { h.tld.tables with
      site := 2 :: siteImage.drop 1
      port := List.replicate 1104 0 ++ [1, 11, 0, 0xFF, 0xFF] ++ List.replicate 43 0
      sector := [1, 1, 10, 4, 1, 0, 0, 0, 9, 0, 0, 9] ++ List.replicate 120 0
        ++ [1, 1, 10, 4, 1, 0, 0, 0, 5, 0, 0, 5] } }
    lnk := (withLink opened 23 fun c => { c with state := .up }).lnk
    lvm := { h.lvm with ports := upd h.lvm.ports 23 fun m => { m with smoothed := 9 } }
    sbl := { h.sbl with
      intervalDue := true
      ports := h.sbl.ports.set 23 { PortBalance.init with assign := .one 11 } } }

/-- R117: the interval queues the move of RP23 from SC11 to SC0. -/
theorem test_overload_candidate :
    (left (exec .balanceInterval (st heavySector))).sbl.queue = [⟨23, 11, 0, .auto⟩] := by decide +kernel

/-- R31: at the boundary of an activation the interval still takes the mode from before it, here OFF. -/
theorem test_interval_takes_the_old_mode :
    (left (exec .balanceInterval (st { heavySector with
      bd := { heavySector.bd with before := some Tables.init } }))).sbl.queue = [] := by decide +kernel

/-- R31: at the boundary of a PORT activation that takes RP23's alternates away, the interval still takes the old. -/
theorem test_interval_takes_the_old_alternates :
    let old := heavySector.tld.tables
    let new := { old with port := (List.range 1152).map fun i =>
      if 1106 ≤ i ∧ i < 1109 then 0xFF else old.port.getD i 0 }
    let activated := { heavySector with
      tld := { heavySector.tld with tables := new }, bd := { heavySector.bd with before := some old } }
    new.alternates 23 = []
    ∧ (left (exec .balanceInterval (st activated))).sbl.queue = [⟨23, 11, 0, .auto⟩] := by decide +kernel

/-- R5: a port whose eighth bad marker has come drops before a PORT_RESET of its boundary, with LINK_LOSS. -/
theorem test_reset_finds_the_loss :
    let h := (upPort.hub).takePortDue 23
    h.linkOf 23 = .hunt ∧ h.lnk.remote[(23 : PortId)].core.drops = 1
    ∧ (h.faultRecord (.port 23 .linkLoss)).present = true := by decide +kernel

theorem witness_BalanceIntervalProposesMoves :
    (let h := (st heavySector).hub.openBoundary;
      h.inService = true ∧ h.sbl.intervalDue = true ∧ h.tables.mode = .auto ∧ h.bd.before = none
      ∧ h.tables.sectorOn 11 = true ∧ h.tables.highMark 11 < 9 ∧ h.assignOf 23 = .one 11)
    ∧ (let h := (st { serving opened with sbl := { Sbl.init with intervalDue := true } }).hub.openBoundary;
      h.inService = true ∧ h.sbl.intervalDue = true ∧ h.sbl.skips < 2 ^ 32)
    ∧ (st (opened.onBal 23 fun b => { b with quietDue := true })).hub.openBoundary.sbl.ports[(23 : PortId)].quietDue
        = true := by decide +kernel

theorem witness_MovesStartRampAndEnd :
    (let h := (st { opened with sbl := { Sbl.init with queue := [⟨1, 0, 2, .auto⟩] } }).hub.openBoundary;
      h.sbl.flight = none ∧ h.bd.headSeen = false ∧ h.sbl.queue = [⟨1, 0, 2, .auto⟩])
    ∧ (opened.openBoundary.sbl.flight = none ∧ opened.openBoundary.sbl.queue = [])
    ∧ (let h := (st ramping).hub.openBoundary;
      (h.sbl.flight.map fun m => (m.ending, m.step + 1 < m.length)).isSome = true ∧ h.bd.rampDue = true
      ∧ h.assignOf 0 = .two 0 1)
    ∧ (let m : MoveRecord := { entry := ⟨0, 0, 1, .manual⟩, length := 16, step := 15
                               ending := none, stamp := 0 };
      let h := (st { ramping with sbl := { ramping.sbl with flight := some m } }).hub.openBoundary;
      h.sbl.flight = some m ∧ m.length ≤ m.step + 1 ∧ h.bd.rampDue = true)
    ∧ (let m : MoveRecord := { entry := ⟨0, 0, 1, .manual⟩, length := 16, step := 1
                               ending := some .link, stamp := 0 };
      let h := (st { ramping with
        sbl := { ramping.sbl with flight := some m }
        bd := { ramping.bd with abandonDue := true } }).hub.openBoundary;
      h.sbl.flight = some m ∧ m.ending = some .link ∧ h.bd.abandonDue = true) := by decide +kernel

set_option maxRecDepth 2000 in
theorem witness_FrameRecordsOfTheNewFrame :
    (Tables.init.sectorOn 0 = false ∧ placed.tables.sectorOn 11 = true)
    ∧ let u := State.reset.boundaryDone
      ∀ p : PortId, u.deq.ports[p].downLine.length = 1024 ∧ u.deq.ports[p].upLine.length = 1024
        ∧ u.deq.ports[p].comp ≤ 1023 := by decide +kernel

/-- Ports RP0 and RP1 UP in sector 3 with delays 2048 and 1025, RP1 with compensation `comp`; RP2, which had 1, counts
no more. -/
def equalised (comp : Nat) : State :=
  let up := { FrameInput.init with link := .up, assign := .one 3 }
  let frame := ((Vector.replicate 24 FrameInput.init).set 0 { up with delay := 2048 }).set 1 { up with delay := 1025 }
  let ports := upd opened.deq.ports 1 fun e => { e with comp := comp, steps := 2 ^ 32 - 2 }
  let ports := upd ports 2 fun e => { e with comp := 1, steps := 7 }
  st { opened with frame := frame, deq := { opened.deq with ports := ports } }

/-- 05, R71 and R74: RP1 needs 1023, in range; its counter rises with a new c_p alone, and RP2's does not. -/
theorem test_step_counter :
    ∀ x ∈ [(1022, 2 ^ 32 - 1), (1023, 2 ^ 32 - 2)],
      let e := (left (exec (.frameBoundary .deqRecompute) (equalised x.1))).deq
      e.ports[(1 : PortId)].steps = x.2 ∧ e.ports[(1 : PortId)].comp = 1023 ∧ e.ports[(1 : PortId)].range = false
      ∧ e.ports[(2 : PortId)].steps = 7 ∧ e.ports[(2 : PortId)].comp = 0
      ∧ e.sectors[(3 : SectorId)] = { target := 2048, counted := 2, least := 1025 } := by decide +kernel

theorem witness_TargetsAreTheGreatestDelays :
    (let h := (st { opened with
      frame := .replicate 24 { FrameInput.init with link := .up, delay := 2048, assign := .one 3 } }).hub.openBoundary;
    h.bd.deqDone = false ∧ (∀ p : PortId, h.frame[p].link = .up ∧ h.frame[p].assign = .one 3)
    ∧ ∀ p : PortId, h.frame[p].delay ≤ 2048)
    ∧ (equalised 1022).hub.openBoundary.bd.deqDone = false
    ∧ (st { opened with bd := { opened.bd with deqDone := true } }).hub.openBoundary.bd.deqDone = true := by
  decide +kernel

theorem witness_TrunkCellCarriesAttention :
    (let h := (st opened).hub.openBoundary;
      h.bd.supplyDone = false ∧ (∀ n : Fin 7, ¬ (h.mga.marks[n] = true ∧ h.tables.attends n = true))
      ∧ h.lnk.trunk.state ≠ .up)
    ∧ (let r : Response := { tag := 7, status := .ok, used := 0, payload := [] };
      let h := (st { upTrunk.hub with mga := { Mga.init with
        responses := [r], marks := Vector.replicate 7 true } }).hub.openBoundary;
      h.bd.supplyDone = false ∧ h.mga.marks[(0 : Fin 7)] = true ∧ h.tables.attends 0 = true
      ∧ h.lnk.trunk.state = .up ∧ h.mga.responses = [r]) := by decide +kernel

end Sys2Proof.Tests
end

section
/-! The overdrive count (R62): the laws of PLM's update of a frame, and the descent of L to the floor. -/

namespace Sys2Proof.Machine

/-! ## PLM's update of a frame -/

/-- The class of the ended frame is that of its power (R57), and the overdrive count asks for that class and for the
L that the frame was formed with, whatever becomes of L (R61, R62). -/
theorem LaneLimiter.frameUpdate_cls_overdrive (t : Tables) (p : PortId) (b : Lane) (m : LaneLimiter) :
    (m.frameUpdate t p b).cls = frameClass (m.powerSum / 256) (t.ceiling p b)
    ∧ (m.frameUpdate t p b).overdrive =
      if m.factor = 512 ∧ frameClass (m.powerSum / 256) (t.ceiling p b) = .excess then
        bump 16 m.overdrive else 0 := by
  simp only [LaneLimiter.frameUpdate]
  cases frameClass (m.powerSum / 256) (t.ceiling p b) with
  | excess | between => exact ⟨rfl, rfl⟩
  | clean =>
    cases t.limiterMode p with
    | next | step => exact ⟨rfl, rfl⟩
    | hold => by_cases hl : m.factor < 4096 <;> simp [hl]

theorem LaneLimiter.frameUpdate_overdrive (t : Tables) (p : PortId) (b : Lane) (m : LaneLimiter) :
    (m.frameUpdate t p b).overdrive =
      if m.factor = 512 ∧ (m.frameUpdate t p b).cls = .excess then bump 16 m.overdrive else 0 := by
  obtain ⟨hcls, hcount⟩ := m.frameUpdate_cls_overdrive t p b
  rw [hcls, hcount]

theorem PortLimiter.frameUpdate_lane {m : PortLimiter} (hm : m.cleared = false) (t : Tables) (p : PortId)
    (b : Lane) : (m.frameUpdate t p).lanes[b] = (m.lanes[b]).frameUpdate t p b := by
  simp [PortLimiter.frameUpdate, hm]

theorem Hub.limiterUpdate_plm {h : Hub} (hd : h.bd.limiterDone = false) (p : PortId) :
    h.limiterUpdate.plm[p] = (h.plm[p]).frameUpdate h.tables p := by
  simp [Hub.limiterUpdate, hd]

theorem exec_limiterUpdate (s : State) :
    exec (.frameBoundary .limiterUpdate) s = .next { s with hub := s.hub.openBoundary.limiterUpdate } := rfl

/-! ## The descent to the floor -/

/-- An attack leaves a lane at the floor there (R58). -/
theorem attackFactor_iterate_floor (n : Nat) : attackFactor^[n] 512 = 512 :=
  Function.iterate_fixed (by decide) n

/-- A lane that has reached the floor stays there under further attacks. -/
theorem attackFactor_iterate_floor_of_le {l m n : Nat} (hmn : m ≤ n) (hm : attackFactor^[m] l = 512) :
    attackFactor^[n] l = 512 := by
  rw [← Nat.sub_add_cancel hmn, Function.iterate_add_apply, hm, attackFactor_iterate_floor]

/-- The sixteenth frame of an unyielding excess is formed at 551, above the floor (R62). -/
theorem attackFactor_iterate_fifteen : attackFactor^[15] 4096 = 551 := by decide

theorem attackFactor_iterate_sixteen : attackFactor^[16] 4096 = 512 := by
  rw [Function.iterate_succ_apply', attackFactor_iterate_fifteen]
  decide

end Sys2Proof.Machine

namespace Sys2Proof
open Machine

/-- Settles O34: the update's equations give the count, and a lane that stood at the floor before its sixteenth
attack would stand there still, where the sixteenth frame is formed at 551. -/
theorem overdriveCountsFramesAtTheFloor : Obligations.OverdriveCountsFramesAtTheFloor := by
  refine ⟨?count, attackFactor_iterate_fifteen, attackFactor_iterate_sixteen, ?above, ?below⟩
  case count =>
    intro p b s h l hd hc
    refine ⟨_, exec_limiterUpdate s, ?_⟩
    have hlane : h.limiterUpdate.plm[p].lanes[b] = l.frameUpdate h.tables p b := by
      rw [Hub.limiterUpdate_plm hd, PortLimiter.frameUpdate_lane hc]
    exact hlane ▸ l.frameUpdate_overdrive h.tables p b
  case above =>
    intro n hn hfloor
    have h551 : attackFactor^[15] 4096 = 512 := attackFactor_iterate_floor_of_le (by omega) hfloor
    rw [attackFactor_iterate_fifteen] at h551
    exact absurd h551 (by decide)
  case below =>
    exact fun n => attackFactor_iterate_floor_of_le (Nat.le_add_right 16 n) attackFactor_iterate_sixteen

end Sys2Proof
end

section
/-! CANCEL_MOVE (R122): what the request makes of a queued port, of the port in flight and of any other, and the
abandonment of the move that it marked (R127). -/

namespace Sys2Proof.Machine

/-! ## The move log, the queue and the move in flight -/

/-- An outcome joins the log with the next sequence number, and the MOVE notice is raised (R128). -/
theorem logMove_eq (h : Hub) (e : MoveEntry) (o : MoveOutcome) : h.logMove e o = { h with
    mga := h.mga.raised .move
    sbl := { h.sbl with
      logSequence := h.sbl.logSequence + 1
      log := lastSixteen (h.sbl.log ++ [{
        sequence := h.sbl.logSequence + 1, entry := e, outcome := o, stamp := h.mga.seconds }]) } } := rfl

theorem getLast?_lastSixteen_append {α : Type} (xs : List α) (x : α) :
    (lastSixteen (xs ++ [x])).getLast? = some x := by
  rw [lastSixteen, List.getLast?_drop, if_neg (by simp), List.getLast?_concat]

theorem queued_eq_false_iff {h : Hub} {p : PortId} :
    h.queued p = false ↔ h.sbl.queue.find? (fun e => e.port = p) = none := by
  simp [Hub.queued]

theorem ramping_of_flight {h : Hub} {m : MoveRecord} (hf : h.sbl.flight = some m) :
    h.ramping m.entry.port = true := by
  simp [Hub.ramping, Hub.flightOf, hf]

/-- The first cause that marks a move is the one recorded (R126). -/
theorem markMove_of_flight {h : Hub} {m : MoveRecord} (hf : h.sbl.flight = some m) (cause : EndingCause) :
    h.markMove m.entry.port cause = { h with sbl := { h.sbl with
      flight := some { m with ending := m.ending.or (some cause) } } } := by
  simp only [Hub.markMove, hf, true_and]
  cases he : m.ending with
  | none => rfl
  | some first =>
    have hsame : { m with ending := (some first).or (some cause) } = m := by rw [Option.some_or, ← he]
    rw [if_neg (by simp), hsame, ← hf]

/-- In CONFIG nothing is queued and no move is in flight (R120). -/
theorem Hub.movesLawful.idle_of_config {h : Hub} (hl : h.movesLawful) (hs : h.inService = false) (p : PortId) :
    h.queued p = false ∧ h.ramping p = false := by
  obtain ⟨-, -, -, -, -, hconfig⟩ := hl
  obtain ⟨hqueue, hflight⟩ := hconfig hs
  simp [Hub.queued, Hub.ramping, Hub.flightOf, hqueue, hflight]

/-! ## The request -/

/-- A CANCEL_MOVE that is offered leaves the hub that its judgement makes of the hub without the request. -/
theorem exec_cancelMove_of_judged {s : State} {c : Cell} {rest : List Cell} {g : Hub}
    (ho : s.hub.offersKind c rest .cancelMove)
    (hg : { s.hub with mga := { s.hub.mga with requests := rest } }.actCancelMove c = g) :
    exec .cancelMove s = .next { s with hub := g } := by
  rw [← hg, ← takeRequest_offered Hub.actCancelMove ho]
  rfl

section Judgement
variable {h : Hub} {c : Cell} {p : PortId}

theorem withPort_of_le (act : PortId → Hub → Hub) (hc : 24 ≤ c.arg 0) :
    h.withPort c act = h.refuse c.tag .badArgument [] := by
  rw [Hub.withPort, fin?_eq_none hc]

theorem withPort_of_port (act : PortId → Hub → Hub) (hc : c.arg 0 = p.val) : h.withPort c act = act p h := by
  rw [Hub.withPort, hc, fin?_val]

theorem actCancelMove_outside (hc : 24 ≤ c.arg 0) : h.actCancelMove c = h.refuse c.tag .badArgument [] :=
  withPort_of_le _ hc

theorem actCancelMove_queued {e : MoveEntry} (hc : c.arg 0 = p.val)
    (hq : h.sbl.queue.find? (fun e => e.port = p) = some e) :
    h.actCancelMove c = ((h.dropEntry p).logMove e .cancelledRequest).answerOk c.tag [] := by
  rw [Hub.actCancelMove, withPort_of_port _ hc, hq]

theorem actCancelMove_inFlight {m : MoveRecord} (hc : c.arg 0 = p.val) (hq : h.queued p = false)
    (hf : h.sbl.flight = some m) (hm : m.entry.port = p) :
    h.actCancelMove c = { h with sbl := { h.sbl with
      flight := some { m with ending := m.ending.or (some .cancel) } } }.answerOk c.tag [] := by
  subst hm
  rw [Hub.actCancelMove, withPort_of_port _ hc, queued_eq_false_iff.mp hq]
  dsimp only
  rw [if_pos (ramping_of_flight hf), markMove_of_flight hf]

theorem actCancelMove_absent (hc : c.arg 0 = p.val) (hq : h.queued p = false) (hr : h.ramping p = false) :
    h.actCancelMove c = h.refuse c.tag .badArgument [] := by
  rw [Hub.actCancelMove, withPort_of_port _ hc, queued_eq_false_iff.mp hq]
  exact if_neg (ne_true_of_eq_false hr)

end Judgement

/-! ## The abandonment of a marked move -/

/-- What an abandonment leaves (R127): no move in flight, the port alone in its source, the outcome last in the log. -/
theorem abandonMove_spec (h : Hub) (m : MoveRecord) (o : MoveOutcome) :
    (h.abandonMove m o).sbl.flight = none
    ∧ (h.abandonMove m o).assignOf m.entry.port = .one m.entry.source
    ∧ (h.abandonMove m o).sbl.log.getLast?.map (fun e => (e.entry, e.outcome)) = some (m.entry, o) := by
  rw [Hub.abandonMove, logMove_eq]
  refine ⟨rfl, ?assigned, ?logged⟩
  case assigned => simp [Hub.assignOf, Hub.onBal]
  case logged => rw [getLast?_lastSixteen_append]; rfl

theorem moveAbandon_of_due {h : Hub} {m : MoveRecord} {cause : EndingCause} (hf : h.sbl.flight = some m)
    (he : m.ending = some cause) (hd : h.bd.abandonDue = true) :
    h.moveAbandon = h.abandonMove m cause.outcome := by
  simp [Hub.moveAbandon, hf, he, hd]

/-- The abandonment of a move marked before a boundary is due at that boundary (R126). -/
theorem beginBoundary_abandonDue {h : Hub} {m : MoveRecord} (hf : h.sbl.flight = some m) (he : m.ending ≠ none) :
    h.beginBoundary.bd.abandonDue = true := by
  simp [Hub.beginBoundary, hf, he]

/-- At the boundary that begins with a marked move in flight, MOVE_ABANDON abandons it (R127). -/
theorem exec_moveAbandon_of_marked {s : State} {m : MoveRecord} {cause : EndingCause}
    (ho : s.hub.bd.isOpen = false) (hf : s.hub.sbl.flight = some m) (he : m.ending = some cause) :
    exec .moveAbandon s = .next { s with hub := s.hub.beginBoundary.abandonMove m cause.outcome } := by
  have hdue := beginBoundary_abandonDue hf (by simp [he])
  rw [← moveAbandon_of_due (h := s.hub.beginBoundary) hf he hdue, ← openBoundary_of_closed ho]
  rfl

end Sys2Proof.Machine

namespace Sys2Proof
open Machine

/-- Settles O53: the request is judged by port, queue and flight in this order, and CONFIG leaves only the refusal;
the abandonment of a marked move is due at the boundary that begins next. -/
theorem cancelMoveCancelsOrMarks : Obligations.CancelMoveCancelsOrMarks := by
  refine ⟨?request, ?abandonment⟩
  case request =>
    intro c rest s h refused ho
    have outside (hc : 24 ≤ c.arg 0) : refused := exec_cancelMove_of_judged ho (actCancelMove_outside hc)
    have absent (p : PortId) (hc : c.arg 0 = p.val) (hq : h.queued p = false) (hr : h.ramping p = false) :
        refused :=
      exec_cancelMove_of_judged ho (actCancelMove_absent hc hq hr)
    refine ⟨outside, ?config, fun p hc => ⟨?queued, ?inFlight, absent p hc⟩⟩
    case config =>
      intro hs hl
      rcases Nat.lt_or_ge (c.arg 0) 24 with hlt | hge
      · obtain ⟨hq, hr⟩ := hl.idle_of_config hs ⟨c.arg 0, hlt⟩
        exact absent ⟨c.arg 0, hlt⟩ rfl hq hr
      · exact outside hge
    case queued => exact fun e he => exec_cancelMove_of_judged ho (actCancelMove_queued hc he)
    case inFlight =>
      exact fun hq m hf hm => exec_cancelMove_of_judged ho (actCancelMove_inFlight hc hq hf hm)
  case abandonment =>
    intro m s ho hf he
    exact ⟨_, exec_moveAbandon_of_marked ho hf he, abandonMove_spec _ m .abandonedCancel⟩

end Sys2Proof
end

section
/-! What every step keeps: the outline of the hub, which the laws of every frame speak of; the events that leave the
outline alone (`Calm`), those that keep the laws and run no clock (`Kept`), and the laws themselves (`Lawful`). -/

namespace Sys2Proof.Machine

/-! ## The outline of the hub -/

/-- The entry of the move in flight. -/
def Hub.flying (h : Hub) : Option MoveEntry := h.sbl.flight.map fun m => m.entry

/-- What the laws of every frame speak of, the fault history apart. -/
@[ext] structure Outline where
  donors : DonorId → LinkState
  trunk : LinkState
  running : PortId → Bool
  origin : PortId → Origin
  factors : PortId → Lane → Nat
  deq : Deq
  loops : PortId → LoopTest
  assign : PortId → Assign
  flying : Option MoveEntry
  queue : List MoveEntry
  log : List LogEntry
  advice : List MoveEntry
  hubState : HubState
  requests : List Cell
  responses : List Response
  busy : Option Busy
  tables : Tables
  scheduled : Option (TableId × List Byte)

/-- What the laws of moves and of assignment speak of. -/
def Outline.placing (o : Outline) := (o.assign, o.flying, o.queue, o.hubState, o.tables, o.scheduled)

/-- What the law of answers speaks of. -/
def Outline.owing (o : Outline) := (o.running, o.origin, o.loops, o.responses, o.busy)

/-- The outline of a hub. -/
def Hub.outline (h : Hub) : Outline where
  donors d := h.lnk.donor[d].state
  trunk := h.lnk.trunk.state
  running p := h.lnk.remote[p].meas.running
  origin p := h.lnk.remote[p].meas.origin
  factors p b := h.plm[p].lanes[b].factor
  deq := h.deq
  loops p := h.lvm.ports[p].loop
  assign p := h.assignOf p
  flying := h.flying
  queue := h.sbl.queue
  log := h.sbl.log
  advice := h.sbl.advice
  hubState := h.mga.hubState
  requests := h.mga.requests
  responses := h.mga.responses
  busy := h.mga.busy
  tables := h.tables
  scheduled := h.tld.scheduled

theorem flightOf_isSome {h : Hub} {p : PortId} :
    (h.flightOf p).isSome = true ↔ ∃ e, h.flying = some e ∧ e.port = p := by
  unfold Hub.flightOf Hub.flying
  cases h.sbl.flight <;> simp

/-- The laws of moves speak of the move in flight by its entry. -/
theorem movesLawful_iff {h : Hub} : h.movesLawful ↔
    h.sbl.queue.length ≤ 8
    ∧ (h.sbl.queue.map fun e => e.port).Nodup
    ∧ (∀ x, h.flying = some x → ∀ e ∈ h.sbl.queue, e.port ≠ x.port)
    ∧ (∀ x, h.flying = some x → h.assignOf x.port = .two x.source x.target)
    ∧ (∀ p s t, h.assignOf p = .two s t → ∃ x, h.flying = some x ∧ x.port = p)
    ∧ (h.inService = false → h.sbl.queue = [] ∧ h.flying = none) := by
  unfold Hub.movesLawful
  simp only [flightOf_isSome]
  unfold Hub.flying
  cases h.sbl.flight <;> simp

/-! ## The laws -/

/-- The laws of every frame, that of the ports' places apart, hold of `h'` where they hold of `h`. -/
structure LawfulUnplaced (h h' : Hub) : Prop where
  factors : h.factorsInRange → h'.factorsInRange
  equalized : h.equalized → h'.equalized
  lines : h.linesFull → h'.linesFull
  moves : h.movesLawful → h'.movesLawful
  lists : h.listsBounded → h'.listsBounded
  answers : h.answersBounded → h'.answersBounded
  links : h.linksLegal → h'.linksLegal

/-- The laws of every frame that hold of `h` hold of `h'`. -/
structure Lawful (h h' : Hub) : Prop extends LawfulUnplaced h h' where
  places : h.movesLawful → h.placesLawful → h'.placesLawful

theorem LawfulUnplaced.trans {a b c : Hub} (x : LawfulUnplaced a b) (y : LawfulUnplaced b c) : LawfulUnplaced a c where
  factors := y.factors ∘ x.factors
  equalized := y.equalized ∘ x.equalized
  lines := y.lines ∘ x.lines
  moves := y.moves ∘ x.moves
  lists := y.lists ∘ x.lists
  answers := y.answers ∘ x.answers
  links := y.links ∘ x.links

theorem Lawful.same (h : Hub) : Lawful h h := ⟨⟨id, id, id, id, id, id, id⟩, fun _ => id⟩

theorem Lawful.trans {a b c : Hub} (x : Lawful a b) (y : Lawful b c) : Lawful a c :=
  ⟨x.toLawfulUnplaced.trans y.toLawfulUnplaced, fun hm hp => y.places (x.moves hm) (x.places hm hp)⟩

section Parts
variable {h h' : Hub}

theorem Hub.factorsInRange.of_factors (hf : h'.outline.factors = h.outline.factors) (hl : h.factorsInRange) :
    h'.factorsInRange := by
  intro p b
  have hpb : h'.plm[p].lanes[b].factor = h.plm[p].lanes[b].factor := congrFun (congrFun hf p) b
  rw [hpb]
  exact hl p b

theorem Hub.equalized.of_deq (hd : h'.deq = h.deq) (hl : h.equalized) : h'.equalized := by
  unfold Hub.equalized
  rwa [hd]

theorem Hub.linesFull.of_deq (hd : h'.deq = h.deq) (hl : h.linesFull) : h'.linesFull := by
  unfold Hub.linesFull
  rwa [hd]

theorem inService_of_hubState (hs : h'.mga.hubState = h.mga.hubState) : h'.inService = h.inService := by
  rw [Hub.inService, hs, Hub.inService]

theorem placing_fields (hp : h'.outline.placing = h.outline.placing) :
    h'.assignOf = h.assignOf ∧ h'.flying = h.flying ∧ h'.sbl.queue = h.sbl.queue
    ∧ h'.mga.hubState = h.mga.hubState ∧ h'.tables = h.tables
    ∧ h'.tld.scheduled = h.tld.scheduled := by
  simp only [Outline.placing, Prod.mk.injEq] at hp
  exact hp

theorem Hub.movesLawful.of_placing (hp : h'.outline.placing = h.outline.placing) (hl : h.movesLawful) :
    h'.movesLawful := by
  obtain ⟨ha, hf, hq, hs, -⟩ := placing_fields hp
  rw [movesLawful_iff] at hl ⊢
  rw [hq, hf, ha, inService_of_hubState hs]
  exact hl

theorem Hub.placesLawful.of_placing (hl : h.placesLawful) (hp : h'.outline.placing = h.outline.placing)
    (hb : ∀ tag, h'.mga.busy = some (.enterService tag) → h.mga.busy = some (.enterService tag)) :
    h'.placesLawful := by
  obtain ⟨ha, hf, hq, hs, ht, hsch⟩ := placing_fields hp
  unfold Hub.placesLawful at hl ⊢
  simp only [flightOf_isSome, Hub.assignedCount] at hl ⊢
  rw [hq, hf, ht, hsch, ha, inService_of_hubState hs]
  obtain ⟨hconfig, hservice, hwaits⟩ := hl
  exact ⟨hconfig, hservice, fun tag ht => hwaits tag (hb tag ht)⟩

theorem Hub.answersBounded.of_owing (ho : h'.outline.owing = h.outline.owing) (hl : h.answersBounded) :
    h'.answersBounded := by
  simp only [Outline.owing, Prod.mk.injEq] at ho
  obtain ⟨hrun, horig, hloop, hr, hb⟩ := ho
  have hrun' (p : PortId) : h'.lnk.remote[p].meas.running = h.lnk.remote[p].meas.running := congrFun hrun p
  have horig' (p : PortId) : h'.lnk.remote[p].meas.origin = h.lnk.remote[p].meas.origin := congrFun horig p
  have hloop' (p : PortId) : h'.lvm.ports[p].loop = h.lvm.ports[p].loop := congrFun hloop p
  have hr' : h'.mga.responses = h.mga.responses := hr
  have hb' : h'.mga.busy = h.mga.busy := hb
  unfold Hub.answersBounded Mga.owed at hl ⊢
  simp only [hb', hr', hloop', hrun', horig']
  exact hl

theorem Hub.linksLegal.of_states (hs : h'.outline.donors = h.outline.donors ∧ h'.outline.trunk = h.outline.trunk)
    (hl : h.linksLegal) : h'.linksLegal := by
  obtain ⟨hd, ht⟩ := hs
  have hd' (d : DonorId) : h'.lnk.donor[d].state = h.lnk.donor[d].state := congrFun hd d
  have ht' : h'.lnk.trunk.state = h.lnk.trunk.state := ht
  unfold Hub.linksLegal at hl ⊢
  simp only [hd', ht']
  exact hl

theorem Hub.listsBounded.of_lists (hl : h.listsBounded) (hr : h'.mga.requests = h.mga.requests)
    (hlog : h'.sbl.log = h.sbl.log) (hh : h.fsv.history.length ≤ 16 → h'.fsv.history.length ≤ 16)
    (ha : h'.sbl.advice = h.sbl.advice) : h'.listsBounded := by
  obtain ⟨hreq, hlen, hhist, hadv⟩ := hl
  exact ⟨hr ▸ hreq, hlog ▸ hlen, hh hhist, ha ▸ hadv⟩

/-- The laws are kept where each of them speaks of the same as before; only those that do not are to be shown. -/
theorem LawfulUnplaced.of_parts
    (factors : h.factorsInRange → h'.factorsInRange := by exact Hub.factorsInRange.of_factors rfl)
    (equalized : h.equalized → h'.equalized := by exact Hub.equalized.of_deq rfl)
    (lines : h.linesFull → h'.linesFull := by exact Hub.linesFull.of_deq rfl)
    (moves : h.movesLawful → h'.movesLawful := by exact Hub.movesLawful.of_placing rfl)
    (lists : h.listsBounded → h'.listsBounded := by exact fun hl => hl.of_lists rfl rfl (fun hh => hh) rfl)
    (answers : h.answersBounded → h'.answersBounded := by exact Hub.answersBounded.of_owing rfl)
    (links : h.linksLegal → h'.linksLegal := by exact Hub.linksLegal.of_states ⟨rfl, rfl⟩) : LawfulUnplaced h h' :=
  ⟨factors, equalized, lines, moves, lists, answers, links⟩

theorem Lawful.of_parts
    (factors : h.factorsInRange → h'.factorsInRange := by exact Hub.factorsInRange.of_factors rfl)
    (equalized : h.equalized → h'.equalized := by exact Hub.equalized.of_deq rfl)
    (lines : h.linesFull → h'.linesFull := by exact Hub.linesFull.of_deq rfl)
    (moves : h.movesLawful → h'.movesLawful := by exact Hub.movesLawful.of_placing rfl)
    (places : h.movesLawful → h.placesLawful → h'.placesLawful := by exact fun _ hl => hl.of_placing rfl fun _ hb => hb)
    (lists : h.listsBounded → h'.listsBounded := by exact fun hl => hl.of_lists rfl rfl (fun hh => hh) rfl)
    (answers : h.answersBounded → h'.answersBounded := by exact Hub.answersBounded.of_owing rfl)
    (links : h.linksLegal → h'.linksLegal := by exact Hub.linksLegal.of_states ⟨rfl, rfl⟩) : Lawful h h' :=
  ⟨⟨factors, equalized, lines, moves, lists, answers, links⟩, places⟩

/-- What leaves the outline alone keeps the laws. -/
theorem Lawful.of_outline (ho : h'.outline = h.outline)
    (hh : h.fsv.history.length ≤ 16 → h'.fsv.history.length ≤ 16) : Lawful h h' where
  factors := .of_factors (congrArg Outline.factors ho)
  equalized := .of_deq (congrArg Outline.deq ho)
  lines := .of_deq (congrArg Outline.deq ho)
  moves := .of_placing (congrArg Outline.placing ho)
  places _ hl := hl.of_placing (congrArg Outline.placing ho) fun _ hb => (congrArg Outline.busy ho).symm.trans hb
  lists hl := hl.of_lists (congrArg Outline.requests ho) (congrArg Outline.log ho) hh (congrArg Outline.advice ho)
  answers := .of_owing (congrArg Outline.owing ho)
  links := .of_states ⟨congrArg Outline.donors ho, congrArg Outline.trunk ho⟩

end Parts

/-! ## Events that keep the laws -/

/-- `h'` is `h` after an event that keeps the laws and runs no clock. -/
structure Steady (h h' : Hub) : Prop where
  laws : Lawful h h'
  frameNumber : h'.lnk.frameNumber = h.lnk.frameNumber
  isOpen : h'.bd.isOpen = h.bd.isOpen

theorem Steady.same (h : Hub) : Steady h h := ⟨.same h, rfl, rfl⟩

theorem Steady.trans {a b c : Hub} (x : Steady a b) (y : Steady b c) : Steady a c :=
  ⟨x.laws.trans y.laws, y.frameNumber.trans x.frameNumber, y.isOpen.trans x.isOpen⟩

theorem Steady.ite (p : Prop) [Decidable p] {a b c : Hub} (x : p → Steady a b) (y : ¬ p → Steady a c) :
    Steady a (if p then b else c) := by
  split
  next hp => exact x hp
  next hp => exact y hp

/-- `h'` is `h` after an event within a frame boundary that leaves the hub state alone, and the agent busy as before,
or free, or measuring. -/
structure Within (h h' : Hub) : Prop extends Steady h h' where
  hubState : h'.mga.hubState = h.mga.hubState
  busy : h'.mga.busy = h.mga.busy ∨ h'.mga.busy = none ∨ ∃ p, h'.mga.busy = some (.measuring p)

theorem Within.same (h : Hub) : Within h h := ⟨.same h, rfl, .inl rfl⟩

theorem Within.trans {a b c : Hub} (x : Within a b) (y : Within b c) : Within a c where
  toSteady := x.toSteady.trans y.toSteady
  hubState := y.hubState.trans x.hubState
  busy := by
    rcases y.busy with hy | hy
    · rw [hy]; exact x.busy
    · exact .inr hy

/-- The agent is busy with a request whose effect comes at a boundary, whatever becomes of ports in between. -/
def Busy.waits : Busy → Bool
  | .enterService _ | .operatorHold _ _ | .operatorRelease _ _ | .portReset _ _ | .restart => true
  | .measureStart _ _ | .measuring _ | .loopTest _ => false

/-- An event within a frame boundary that lets a request which waits for its effect wait on. -/
structure Kept (h h' : Hub) : Prop extends Within h h' where
  waits : h.answersBounded → ∀ b, h.mga.busy = some b → b.waits = true → h'.mga.busy = some b

theorem Kept.same (h : Hub) : Kept h h := ⟨.same h, fun _ _ hb _ => hb⟩

/-- An event that keeps the laws, runs no clock and leaves the agent as busy as it was. -/
theorem Kept.of_laws {h h' : Hub} (laws : Lawful h h')
    (frameNumber : h'.lnk.frameNumber = h.lnk.frameNumber := by rfl)
    (isOpen : h'.bd.isOpen = h.bd.isOpen := by rfl) (hubState : h'.mga.hubState = h.mga.hubState := by rfl)
    (busy : h'.mga.busy = h.mga.busy := by rfl) : Kept h h' :=
  ⟨⟨⟨laws, frameNumber, isOpen⟩, hubState, .inl busy⟩, fun _ _ hb _ => busy.trans hb⟩

theorem Kept.trans {a b c : Hub} (x : Kept a b) (y : Kept b c) : Kept a c where
  toWithin := x.toWithin.trans y.toWithin
  waits ha k hk hw := y.waits (x.laws.answers ha) k (x.waits ha k hk hw) hw

theorem Kept.ite (p : Prop) [Decidable p] {a b c : Hub} (x : p → Kept a b) (y : ¬ p → Kept a c) :
    Kept a (if p then b else c) := by
  split
  next hp => exact x hp
  next hp => exact y hp

theorem Within.inService {h h' : Hub} (k : Within h h') : h'.inService = h.inService :=
  inService_of_hubState k.hubState

theorem kept_each {n : Nat} {f : Fin n → Hub → Hub} (hf : ∀ i h, Kept h (f i h)) (h : Hub) : Kept h (each f h) :=
  each_keeps (P := Kept h) (fun i g hg => hg.trans (hf i g)) (.same h)

theorem kept_foldl {α : Type} {f : Hub → α → Hub} (hf : ∀ h a, Kept h (f h a)) (xs : List α) (h : Hub) :
    Kept h (xs.foldl f h) :=
  foldl_keeps (P := Kept h) (fun g a hg => hg.trans (hf g a)) xs h (.same h)

/-! ## Events that leave the outline alone -/

/-- `h'` is `h` after something of which the laws do not speak; the fault history may have grown within its bound. -/
structure Calm (h h' : Hub) : Prop where
  outline : h'.outline = h.outline
  history : h.fsv.history.length ≤ 16 → h'.fsv.history.length ≤ 16
  frameNumber : h'.lnk.frameNumber = h.lnk.frameNumber
  isOpen : h'.bd.isOpen = h.bd.isOpen

theorem Calm.same (h : Hub) : Calm h h := ⟨rfl, id, rfl, rfl⟩

theorem Calm.trans {a b c : Hub} (x : Calm a b) (y : Calm b c) : Calm a c :=
  ⟨y.outline.trans x.outline, y.history ∘ x.history, y.frameNumber.trans x.frameNumber, y.isOpen.trans x.isOpen⟩

theorem Calm.ite (p : Prop) [Decidable p] {a b c : Hub} (x : Calm a b) (y : Calm a c) :
    Calm a (if p then b else c) := by
  split
  · exact x
  · exact y

theorem Calm.busy {h h' : Hub} (k : Calm h h') : h'.mga.busy = h.mga.busy := congrArg Outline.busy k.outline

theorem Calm.kept {h h' : Hub} (k : Calm h h') : Kept h h' :=
  .of_laws (.of_outline k.outline k.history) k.frameNumber k.isOpen (congrArg Outline.hubState k.outline) k.busy

theorem calm_each {n : Nat} {f : Fin n → Hub → Hub} (hf : ∀ i h, Calm h (f i h)) (h : Hub) : Calm h (each f h) :=
  each_keeps (P := Calm h) (fun i g hg => hg.trans (hf i g)) (.same h)

theorem calm_foldl {α : Type} {f : Hub → α → Hub} (hf : ∀ h a, Calm h (f h a)) (xs : List α) (h : Hub) :
    Calm h (xs.foldl f h) :=
  foldl_keeps (P := Calm h) (fun g a hg => hg.trans (hf g a)) xs h (.same h)

/-! ## Updates of one item -/

theorem calm_onRemote (h : Hub) (p : PortId) {f : RemoteLink → RemoteLink}
    (hf : (f h.lnk.remote[p]).meas.running = h.lnk.remote[p].meas.running
      ∧ (f h.lnk.remote[p]).meas.origin = h.lnk.remote[p].meas.origin := by exact ⟨rfl, rfl⟩) :
    Calm h (h.onRemote p f) := by
  have hm (q : PortId) : (upd h.lnk.remote p f)[q].meas.running = h.lnk.remote[q].meas.running
      ∧ (upd h.lnk.remote p f)[q].meas.origin = h.lnk.remote[q].meas.origin := by
    rw [upd_get]
    split
    next hpq => exact hpq ▸ hf
    next => exact ⟨rfl, rfl⟩
  refine ⟨?_, id, rfl, rfl⟩
  ext1 <;> first | rfl | exact funext fun q => (hm q).1 | exact funext fun q => (hm q).2

theorem calm_onCore_remote (h : Hub) (p : PortId) (f : LinkCore → LinkCore) : Calm h (h.onCore (.remote p) f) :=
  calm_onRemote h p ⟨rfl, rfl⟩

theorem calm_onCore (h : Hub) (l : LinkId) {f : LinkCore → LinkCore} (hf : ∀ c, (f c).state = c.state := by exact fun _ => rfl) :
    Calm h (h.onCore l f) := by
  cases l with
  | remote p => exact calm_onCore_remote h p f
  | donor d =>
    refine ⟨?_, id, rfl, rfl⟩
    ext1 <;> first | rfl | skip
    funext e
    show (upd h.lnk.donor d f)[e].state = h.lnk.donor[e].state
    rw [upd_get]
    split
    · exact hf _
    · rfl
  | trunk =>
    refine ⟨?_, id, rfl, rfl⟩
    ext1 <;> first | rfl | exact hf _

theorem calm_onPlm (h : Hub) (p : PortId) {f : PortLimiter → PortLimiter}
    (hf : ∀ m (b : Lane), (f m).lanes[b].factor = m.lanes[b].factor := by exact fun _ _ => rfl) :
    Calm h (h.onPlm p f) := by
  refine ⟨?_, id, rfl, rfl⟩
  ext1 <;> first | rfl | skip
  funext q b
  show (upd h.plm p f)[q].lanes[b].factor = h.plm[q].lanes[b].factor
  rw [upd_get]
  split
  · exact hf _ b
  · rfl

theorem calm_onMeter (h : Hub) (p : PortId) {f : PortMeter → PortMeter} (hf : ∀ m, (f m).loop = m.loop := by exact fun _ => rfl) :
    Calm h (h.onMeter p f) := by
  refine ⟨?_, id, rfl, rfl⟩
  ext1 <;> first | rfl | skip
  funext q
  show (upd h.lvm.ports p f)[q].loop = h.lvm.ports[q].loop
  rw [upd_get]
  split
  · exact hf _
  · rfl

theorem calm_onBal (h : Hub) (p : PortId) {f : PortBalance → PortBalance}
    (hf : ∀ b, (f b).assign = b.assign := by exact fun _ => rfl) :
    Calm h (h.onBal p f) := by
  refine ⟨?_, id, rfl, rfl⟩
  ext1 <;> first | rfl | exact funext fun q => (supervised_onBal h p hf).assign q

theorem calm_onDet (h : Hub) (p : PortId) (f : Detectors → Detectors) : Calm h (h.onDet p f) := ⟨rfl, id, rfl, rfl⟩
theorem calm_onCte (h : Hub) (p : PortId) (f : PortCte → PortCte) : Calm h (h.onCte p f) := ⟨rfl, id, rfl, rfl⟩
theorem calm_onGates (h : Hub) (p : PortId) (f : Vector Gate 4 → Vector Gate 4) : Calm h (h.onGates p f) :=
  ⟨rfl, id, rfl, rfl⟩
theorem calm_cte (h : Hub) (c : Cte) : Calm h { h with cte := c } := ⟨rfl, id, rfl, rfl⟩
theorem calm_fsv (h : Hub) {f : Fsv} (hf : f.history = h.fsv.history := by rfl) : Calm h { h with fsv := f } :=
  ⟨rfl, fun hl => hf ▸ hl, rfl, rfl⟩
theorem calm_bd (h : Hub) {b : Boundary} (hb : b.isOpen = h.bd.isOpen := by rfl) :
    Calm h { h with bd := b } := ⟨rfl, id, rfl, hb⟩
theorem calm_setCombining (h : Hub) (p : PortId) (b : Bool) : Calm h (h.setCombining p b) := ⟨rfl, id, rfl, rfl⟩
theorem calm_raise (h : Hub) (n : Notice) : Calm h (h.raise n) := ⟨rfl, id, rfl, rfl⟩
theorem calm_unmark (h : Hub) (n : Notice) : Calm h (h.unmark n) := ⟨rfl, id, rfl, rfl⟩

/-! ## The fault supervisor -/

theorem Supervised.calm {h h' : Hub} (k : Supervised h h')
    (hh : h.fsv.history.length ≤ 16 → h'.fsv.history.length ≤ 16) : Calm h h' := by
  have hfly : h'.flying = h.flying := by
    have := congrArg (Option.map MoveRecord.entry) k.flight
    simpa [Hub.flying, Function.comp_def] using this
  refine ⟨?_, hh, by rw [k.lnk], by rw [k.bd]⟩
  ext1 <;> simp only [Hub.outline, Hub.tables, k.lnk, k.plm, k.deq, k.lvm, k.tld, hfly, k.assign] <;>
    first | rw [k.sbl] | rw [k.mga]

theorem calm_writeHistory (h : Hub) (k : FaultKey) (t : Transition) : Calm h (h.writeHistory k t) :=
  (supervised_writeHistory h k t).calm fun hl => by
    rw [history_writeHistory h k t hl]
    exact lastSixteen_length _

theorem calm_putRecord (h : Hub) (k : FaultKey) (r : FaultRecord) : Calm h (h.putRecord k r) :=
  (supervised_putRecord h k r).calm fun hl => by rwa [fsv_putRecord_history]

theorem calm_markMove (h : Hub) (p : PortId) (c : EndingCause) : Calm h (h.markMove p c) :=
  (supervised_markMove h p c).calm fun hl => by rwa [fsv_markMove]

theorem calm_wakePort (h : Hub) (p : PortId) (w : WakeCause) : Calm h (h.wakePort p w) :=
  (supervised_wakePort h p w).calm fun hl => by rwa [fsv_wakePort]

theorem calm_newIdentify (h : Hub) (p : PortId) : Calm h (h.newIdentify p) := calm_onCte h p _

theorem calm_changeRecord (h : Hub) (k : FaultKey) (r : FaultRecord) : Calm h (h.changeRecord k r) :=
  (supervised_changeRecord h k r).calm fun hl => by rwa [fsv_changeRecord, fsv_putRecord_history]

theorem calm_actionsEntered (h : Hub) (p : PortId) (old : ActionSet) : Calm h (h.actionsEntered p old) :=
  .ite _ (calm_markMove h p .action) (.same h)

theorem calm_detect (h : Hub) (k : FaultKey) : Calm h (h.detect k) := by
  unfold Hub.detect
  have hw (g : Hub) (hg : Calm h g) : Calm h (g.writeHistory k .detected) := hg.trans (calm_writeHistory g k _)
  refine .ite _ (calm_changeRecord _ _ _) (.ite _ (.trans ?_ (calm_raise _ _)) ?_) <;>
    exact hw _ (calm_changeRecord _ _ _)

theorem calm_present (h : Hub) (k : FaultKey) : Calm h (h.present k) := .ite _ (.same h) (calm_detect h k)

theorem calm_clearCondition (h : Hub) (k : FaultKey) : Calm h (h.clearCondition k) :=
  .ite _ (.same h) (.ite _ ((calm_changeRecord _ _ _).trans (calm_writeHistory _ _ _)) (calm_putRecord _ _ _))

theorem calm_coolingExpiry (h : Hub) (k : FaultKey) : Calm h (h.coolingExpiry k) := by
  unfold Hub.coolingExpiry
  have hi (g : Hub) : Calm g (match k with | .port p .rauNoReply => g.newIdentify p | _ => g) := by
    split
    · exact calm_newIdentify _ _
    · exact .same g
  refine .ite _ (.same h) (.trans (.ite _ ?below ?limit) (hi _))
  case below =>
    refine (calm_writeHistory _ _ _).trans (.ite _ ?_ (calm_changeRecord _ _ _))
    exact (calm_changeRecord _ _ _).trans ((calm_writeHistory _ _ _).trans (calm_raise _ _))
  case limit =>
    refine .trans ((calm_changeRecord _ _ _).trans (calm_writeHistory _ _ _)) (.ite _ (calm_raise _ _) (.same _))

theorem calm_settleExpiry (h : Hub) (k : FaultKey) : Calm h (h.settleExpiry k) :=
  .ite _ (calm_putRecord _ _ _) (.same h)

theorem calm_resetRecords (h : Hub) (p : PortId) (keep : Bool) : Calm h (h.resetRecords p keep) := by
  unfold Hub.resetRecords
  dsimp only
  split
  · exact calm_fsv h
  · exact (calm_fsv h).trans (calm_newIdentify _ _)

theorem calm_cratePresent (p : PortId) (h : Hub) : Calm h (h.cratePresent p) :=
  .ite _ ((calm_onDet h p _).trans (calm_present _ _)) (.same h)

theorem calm_overloadPresent (p : PortId) (h : Hub) : Calm h (h.overloadPresent p) :=
  .ite _ ((calm_onDet h p _).trans (calm_present _ _)) (.same h)

theorem calm_silentPresent (p : PortId) (h : Hub) : Calm h (h.silentPresent p) :=
  .ite _ ((calm_onDet h p _).trans (calm_present _ _)) (.same h)

theorem calm_presentDue (p : PortId) (h : Hub) : Calm h (h.presentDue p) :=
  (calm_cratePresent p h).trans ((calm_overloadPresent p _).trans (calm_silentPresent p _))

/-! ## The transaction engine -/

theorem calm_cteExit (h : Hub) (p : PortId) : Calm h (h.cteExit p) :=
  .trans (calm_cte h _) (calm_onCte _ _ _)

theorem calm_startAttempt (h : Hub) (p : PortId) (k : TxKind) (n r : Nat) : Calm h (h.startAttempt p k n r) :=
  ⟨rfl, id, rfl, rfl⟩

theorem calm_regularTurn (h : Hub) : Calm h h.regularTurn := by
  unfold Hub.regularTurn Hub.passTurn
  dsimp only
  repeat' split
  all_goals exact ⟨rfl, id, rfl, rfl⟩

theorem calm_priorityTurn (h : Hub) : Calm h h.priorityTurn := by
  unfold Hub.priorityTurn
  dsimp only
  split
  · exact ⟨rfl, id, rfl, rfl⟩
  · split
    · exact calm_regularTurn h
    · exact .ite _ (.trans (calm_cte h _) (calm_regularTurn _)) ⟨rfl, id, rfl, rfl⟩

theorem calm_cteSelect (h : Hub) : Calm h h.cteSelect := by
  unfold Hub.cteSelect
  dsimp only
  refine .ite _ (.same h) ?_
  split
  · exact ⟨rfl, id, rfl, rfl⟩
  · exact (calm_bd h).trans (calm_priorityTurn _)

theorem calm_exhausted (h : Hub) (p : PortId) : Calm h (h.exhausted p) :=
  (calm_present h _).trans ((calm_onCte _ p _).trans (.ite _ (calm_newIdentify _ _) (calm_onCte _ _ _)))

theorem calm_attemptMiss (h : Hub) : Calm h h.attemptMiss := by
  unfold Hub.attemptMiss
  dsimp only
  split
  · exact .same h
  next t _ =>
    refine .ite _ (.same h) ?_
    split
    · exact .ite _ (calm_cte h _) ((calm_cte h _).trans (calm_exhausted _ _))
    · have hm : Calm h ({ h with cte := { h.cte with transaction := none } }.onCte t.port fun c =>
          { c with misses := bump 3 c.misses }) := calm_cte h _
      exact .ite _ (hm.trans (calm_present _ _)) hm

theorem calm_markPoll (h : Hub) : Calm h h.markPoll := .ite _ ⟨rfl, id, rfl, rfl⟩ ⟨rfl, id, rfl, rfl⟩

theorem calm_pollInterval (h : Hub) : Calm h h.pollInterval := .ite _ ⟨rfl, id, rfl, rfl⟩ (.same h)

theorem calm_answerTransaction (h : Hub) (p : PortId) : Calm h (h.answerTransaction p) :=
  .trans (calm_cte h _) ((calm_onCte _ _ _).trans (calm_clearCondition _ _))

theorem calm_goodIdentify (h : Hub) (p : PortId) (mask : LaneMask) : Calm h (h.goodIdentify p mask) :=
  .trans (calm_onRemote h p)
    (.ite _ ((calm_onCore_remote _ _ _).trans ((calm_raise _ _).trans (calm_clearCondition _ _))) (.same _))

theorem calm_identifyReply (h : Hub) : Calm h h.identifyReply := by
  unfold Hub.identifyReply
  split
  · exact .same h
  · split
    · exact (calm_answerTransaction _ _).trans ((calm_onCte _ _ _).trans (calm_goodIdentify _ _ _))
    · exact .same h

theorem calm_statusReply (h : Hub) : Calm h h.statusReply := by
  unfold Hub.statusReply
  split
  · exact .same h
  · split
    · exact (calm_answerTransaction _ _).trans
        ((calm_onCte _ _ _).trans (.ite _ (calm_present _ _) (calm_clearCondition _ _)))
    · exact .same h

/-! ## Frames handed on -/

theorem LinkCore.searchFrom_state (l : LinkId) (c : LinkCore) (a : Arrival) (i : Nat) :
    (c.searchFrom l a i).state = c.state := by
  unfold LinkCore.searchFrom
  dsimp only
  split <;> rfl

theorem LinkCore.search_state (l : LinkId) (c : LinkCore) (a : Arrival) : (c.search l a).state = c.state := by
  unfold LinkCore.search
  dsimp only
  split
  · rfl
  · split
    · exact c.searchFrom_state l a 0
    · repeat' split
      all_goals first | exact c.searchFrom_state l a _ | rfl

theorem LinkCore.searchNothing_state (c : LinkCore) : c.searchNothing.state = c.state := by
  unfold LinkCore.searchNothing
  split <;> rfl

theorem LinkCore.searchAll_state (l : LinkId) (done : List Arrival) (c : LinkCore) :
    (if done = [] then c.searchNothing else done.foldl (LinkCore.search l) c).state = c.state := by
  split
  · exact c.searchNothing_state
  · exact foldl_same (g := LinkCore.state) (fun c a => c.search_state l a) done c

theorem calm_erroredSecond (h : Hub) (p : PortId) : Calm h (h.erroredSecond p) :=
  (calm_onRemote h p).trans (calm_onDet _ _ _)

theorem calm_goodRemote (h : Hub) (p : PortId) (a : Arrival) : Calm h (h.goodRemote p a) := by
  refine (calm_onRemote h p ?_).trans (calm_onCte _ _ _)
  split <;> exact ⟨rfl, rfl⟩

theorem calm_deliver (h : Hub) (l : LinkId) (a : Arrival) : Calm h (h.deliver l a) := by
  rw [deliver_eq]
  split
  · exact calm_onCore h _
  · exact (calm_onCore_remote h _ _).trans (calm_erroredSecond _ _)
  · exact calm_onCore h _
  · exact (calm_onCore_remote h _ _).trans (calm_goodRemote _ _ _)
  · exact calm_onCore h _
  · exact .trans (calm_onCore h .trunk) ⟨rfl, id, rfl, rfl⟩

theorem calm_receiveFrame (l : LinkId) (done : List Arrival) (h : Hub) : Calm h (h.receiveFrame l done) := by
  unfold Hub.receiveFrame
  have hh : Calm h (h.onCore l fun c => { c with handed := true }) := calm_onCore h l
  refine .ite _ (.same h) (hh.trans ?_)
  dsimp only
  split
  · exact .same _
  · exact .same _
  · exact calm_onCore _ l (LinkCore.searchAll_state l done)
  · split
    · exact calm_onCore _ l
    · exact .trans (calm_onCore _ l) (calm_deliver _ _ _)

end Sys2Proof.Machine
end

section
/-! The events within a frame boundary keep the laws of every frame, block by block: answers, links, limiters, meters
and the delay equalizer. -/

namespace Sys2Proof.Machine

/-! ## Responses that the agent owes -/

/-- Nothing but the request that the agent is busy with is to be answered. -/
structure Hub.owesOne (h : Hub) : Prop where
  owed : h.mga.owed = 1
  loops : ∀ q : PortId, h.lvm.ports[q].loop = .none
  measuring : ∀ (q : PortId) (t : Byte), h.lnk.remote[q].meas.running = true →
    h.lnk.remote[q].meas.origin ≠ .request t

/-- An agent busy with anything but a loop test or a measurement owes one answer, and a RESTART none. -/
theorem Hub.answersBounded.owesOne {h : Hub} (ha : h.answersBounded) {b : Busy} (hb : h.mga.busy = some b)
    (hr : b ≠ .restart) (hl : ∀ p, b ≠ .loopTest p) (hm : ∀ p, b ≠ .measuring p) : h.owesOne := by
  obtain ⟨-, hloops, hmeas⟩ := ha
  refine ⟨?_, fun q => not_not.mp fun hq => ?_, fun q t hrun ho => ?_⟩
  · cases b <;> simp_all [Mga.owed]
  · exact hl q (Option.some.inj (hb.symm.trans (hloops q hq)))
  · exact hm q (Option.some.inj (hb.symm.trans (hmeas q t hrun ho)))

/-- The one response that is owed is queued, and the agent is free (R170, R171). -/
theorem Hub.answersBounded.answered {h : Hub} (ha : h.answersBounded) (ho : h.owesOne) (tag : Byte) (st : Status)
    (reason : Byte) (x : List Byte) : (h.respond tag st reason x).free.answersBounded := by
  obtain ⟨hlen, -, -⟩ := ha
  obtain ⟨howed, hl, hm⟩ := ho
  refine ⟨?room, fun q hq => absurd (hl q) hq, fun q t hr hq => absurd hq (hm q t hr)⟩
  case room =>
    rw [howed] at hlen
    simpa [Hub.respond, Hub.free, Mga.owed] using hlen

theorem Lawful.answered {h g : Hub} (k : Lawful h g) (ho : h.answersBounded → g.owesOne) (tag : Byte) (st : Status)
    (reason : Byte) (x : List Byte) : Lawful h (g.respond tag st reason x).free where
  factors hl := (k.factors hl).of_factors rfl
  equalized hl := (k.equalized hl).of_deq rfl
  lines hl := (k.lines hl).of_deq rfl
  moves hl := (k.moves hl).of_placing rfl
  places hm hl := (k.places hm hl).of_placing rfl (fun _ hb => nomatch hb)
  lists hl := (k.lists hl).of_lists rfl rfl id rfl
  answers hl := (k.answers hl).answered (ho hl) tag st reason x
  links hl := (k.links hl).of_states ⟨rfl, rfl⟩

theorem Within.answered {h g : Hub} (k : Within h g) (ho : h.answersBounded → g.owesOne) (tag : Byte) (st : Status)
    (reason : Byte) (x : List Byte) : Within h (g.respond tag st reason x).free :=
  ⟨⟨k.laws.answered ho tag st reason x, k.frameNumber, k.isOpen⟩, k.hubState, .inr (.inl rfl)⟩

theorem Kept.answered {h g : Hub} (k : Kept h g) (ho : h.answersBounded → g.owesOne)
    (hb : h.answersBounded → ∀ b, g.mga.busy = some b → b.waits = false) (tag : Byte) (st : Status)
    (reason : Byte) (x : List Byte) : Kept h (g.respond tag st reason x).free where
  toWithin := k.toWithin.answered ho tag st reason x
  waits ha b hbusy hw := by
    rw [hb ha b (k.waits ha b hbusy hw)] at hw
    cases hw

/-- A change of the meters that starts no loop test. -/
theorem kept_onMeter (h : Hub) (p : PortId) {f : PortMeter → PortMeter}
    (hf : ∀ m, (f m).loop ≠ .none → m.loop ≠ .none) : Kept h (h.onMeter p f) := by
  refine .of_laws (.of_parts (answers := fun ⟨hlen, hl, hm⟩ => ⟨hlen, fun q hq => hl q ?_, hm⟩))
  rw [Hub.onMeter_ports, upd_get] at hq
  split at hq
  · exact hf _ hq
  · exact hq

/-- A change of a remote port that starts no measurement that is to be answered. -/
theorem kept_onRemote (h : Hub) (p : PortId) {f : RemoteLink → RemoteLink}
    (hf : ∀ r t, (f r).meas.running = true → (f r).meas.origin = .request t →
      r.meas.running = true ∧ r.meas.origin = .request t) : Kept h (h.onRemote p f) := by
  refine .of_laws (.of_parts (answers := fun ⟨hlen, hl, hm⟩ => ⟨hlen, hl, fun q t hr ho => ?_⟩))
  rw [Hub.onRemote_remote, upd_get] at hr ho
  split at hr
  next hpq =>
    rw [if_pos hpq] at ho
    obtain ⟨hr', ho'⟩ := hf _ t hr ho
    exact hm q t hr' ho'
  next hpq =>
    rw [if_neg hpq] at ho
    exact hm q t hr ho

theorem upd_loop_none {v : Vector PortMeter 24} {p : PortId} {f : PortMeter → PortMeter} (hf : (f v[p]).loop = .none)
    (ho : ∀ q, v[q].loop ≠ .none → q = p) (q : PortId) : (upd v p f)[q].loop = .none := by
  rw [upd_get]
  split
  next hpq => exact hpq ▸ hf
  next hpq => exact not_not.mp fun hq => hpq (ho q hq).symm

/-- A loop test that ends is answered, and it was all that the agent owed (R106, R107). -/
theorem kept_endLoop (h : Hub) (p : PortId) {f : PortMeter → PortMeter} (hf : ∀ m, (f m).loop = .none)
    (hl : h.lvm.ports[p].loop ≠ .none) (tag : Byte) (st : Status) (reason : Byte) (x : List Byte) :
    Kept h ((h.onMeter p f).respond tag st reason x).free := by
  have hbusy (ha : h.answersBounded) : h.mga.busy = some (.loopTest p) := ha.2.1 p hl
  refine (kept_onMeter h p fun m hm => absurd (hf m) hm).answered (fun ha => ?_) (fun ha b hb => ?_) tag st reason x
  · have ⟨_, hloops, hmeas⟩ := ha
    refine ⟨by simp [Mga.owed, hbusy ha], upd_loop_none (hf _) fun q hq => ?_, fun q t hr ho => ?_⟩
    · have hq' := (hbusy ha).symm.trans (hloops q hq)
      injection hq' with hq'
      injection hq' with hq'
      exact hq'.symm
    · cases (hbusy ha).symm.trans (hmeas q t hr ho)
  · cases (hbusy ha).symm.trans hb
    rfl

theorem kept_loopAbort (h : Hub) (p : PortId) (leftUp : Bool) : Kept h (h.loopAbort p leftUp) := by
  unfold Hub.loopAbort
  dsimp only
  split
  · exact .same h
  next tag hl => exact kept_endLoop h p (fun _ => rfl) (fun he => nomatch hl.symm.trans he) tag _ _ _
  next tag hl => exact kept_endLoop h p (fun _ => rfl) (fun he => nomatch hl.symm.trans he) tag _ _ _

theorem kept_loopComplete (h : Hub) (p : PortId) (tag : Byte) (hl : h.lvm.ports[p].loop = .running tag) :
    Kept h (h.loopComplete p tag) :=
  kept_endLoop h p (fun _ => rfl) (fun he => nomatch hl.symm.trans he) tag _ _ _

theorem kept_stopMeasuring (h : Hub) (p : PortId) :
    Kept h (h.onRemote p fun r => { r with meas := { r.meas with running := false } }) :=
  kept_onRemote h p fun _ _ hr => nomatch hr

/-- A measurement that ends is answered where a request waits for it (R18, R19). -/
theorem kept_endMeasurement (h : Hub) (p : PortId) (st : Status) (hr : h.lnk.remote[p].meas.running = true) :
    Kept h (h.endMeasurement p st) := by
  unfold Hub.endMeasurement
  dsimp only
  split
  · exact kept_stopMeasuring h p
  next tag ho =>
    have hbusy (ha : h.answersBounded) : h.mga.busy = some (.measuring p) := ha.2.2 p tag hr ho
    refine (kept_stopMeasuring h p).answered (fun ha => ?_) (fun ha b hb => ?_) tag _ _ _
    · have ⟨_, hloops, hmeas⟩ := ha
      refine ⟨by simp [Mga.owed, hbusy ha], fun q => not_not.mp fun hq => ?_, fun q t hrq hoq => ?_⟩
      · cases (hbusy ha).symm.trans (hloops q hq)
      · rw [Hub.onRemote_remote, upd_get] at hrq hoq
        split at hrq
        · cases hrq
        next hpq =>
          rw [if_neg hpq] at hoq
          have hq' := (hbusy ha).symm.trans (hmeas q t hrq hoq)
          injection hq' with hq'
          injection hq' with hq'
          exact hpq hq'
    · cases (hbusy ha).symm.trans hb
      rfl

theorem kept_abortMeasurement (h : Hub) (p : PortId) : Kept h (h.abortMeasurement p) := by
  have hend : Kept h (if h.lnk.remote[p].meas.running then h.endMeasurement p .timeout else h) :=
    .ite _ (kept_endMeasurement h p .timeout) fun _ => .same h
  unfold Hub.abortMeasurement
  dsimp only
  generalize (if h.lnk.remote[p].meas.running then h.endMeasurement p .timeout else h) = g at hend ⊢
  refine hend.trans ?_
  split
  next tag q hb =>
    refine .ite _ (fun _ => (Kept.same g).answered (fun ha => ?_) (fun _ b hb' => ?_) tag _ _ _) fun _ => .same g
    · exact ha.owesOne hb nofun nofun nofun
    · cases hb.symm.trans hb'
      rfl
  · exact .same g

theorem kept_measurementDone (p : PortId) (h : Hub) : Kept h (h.measurementDone p) := by
  unfold Hub.measurementDone
  dsimp only
  refine .ite _ (fun hm => ?_) fun _ => .same h
  refine .trans (calm_onRemote h p).kept (kept_endMeasurement _ p .ok ?_)
  rw [Hub.onRemote_remote, upd_get_same]
  exact hm.1

theorem kept_measurementTimeout (p : PortId) (h : Hub) : Kept h (h.measurementTimeout p) :=
  .ite _ (fun hm => kept_endMeasurement h p .timeout hm.1) fun _ => .same h

theorem kept_measurementStart (h : Hub) : Kept h h.measurementStart := by
  unfold Hub.measurementStart
  split
  next tag p hb =>
    refine .ite _ (fun _ => ?_) fun _ => .same h
    refine ⟨⟨⟨.of_parts (places := fun _ hl => hl.of_placing rfl fun _ hb' => nomatch hb') (answers := ?_), rfl, rfl⟩,
      rfl, .inr (.inr ⟨p, rfl⟩)⟩, fun _ b hb' hw => ?_⟩
    · rintro ⟨hlen, hloops, hmeas⟩
      refine ⟨by simpa [Mga.owed, hb] using hlen, fun q hq => ?_, fun q t hr ho => ?_⟩
      · have hq' := hloops q hq
        rw [hb] at hq'
        cases hq'
      · by_cases hpq : p = q
        · rw [hpq]
        · change (upd h.lnk.remote p _)[q].meas.running = true at hr
          change (upd h.lnk.remote p _)[q].meas.origin = .request t at ho
          rw [upd_get_other _ _ hpq] at hr ho
          have hq' := hmeas q t hr ho
          rw [hb] at hq'
          cases hq'
    · rw [hb] at hb'
      cases hb'
      cases hw
  · exact .same h

/-! ## Links -/

theorem kept_onCore (h : Hub) (l : LinkId) {f : LinkCore → LinkCore}
    (hf : ∀ c, c.state.ofDonor → (f c).state.ofDonor) : Kept h (h.onCore l f) := by
  cases l with
  | remote p => exact (calm_onCore_remote h p f).kept
  | donor d =>
    refine .of_laws (.of_parts (links := fun ⟨hd, ht⟩ => ⟨fun e => ?_, ht⟩))
    change ((upd h.lnk.donor d f)[e].state).ofDonor
    rw [upd_get]
    split
    · exact hf _ (hd e)
    · exact hd e
  | trunk => exact .of_laws (.of_parts (links := fun ⟨hd, ht⟩ => ⟨hd, hf _ ht⟩))

theorem LinkCore.enterDown_ofDonor (c : LinkCore) : c.enterDown.state.ofDonor := by
  unfold LinkCore.enterDown
  dsimp only
  split
  · exact .inr (.inl rfl)
  · exact .inl rfl

theorem LinkCore.enterHunt_ofDonor (c : LinkCore) : c.enterHunt.state.ofDonor := .inr (.inl rfl)

theorem kept_signalPresent (l : LinkId) (h : Hub) : Kept h (h.signalPresent l) :=
  kept_onCore h l fun c hc => by
    split
    · exact .inr (.inl rfl)
    · exact hc

theorem calm_donorCarriers (h : Hub) (d : DonorId) : Calm h (h.donorCarriers d) := ⟨rfl, id, rfl, rfl⟩

theorem kept_enterAligned (h : Hub) (l : LinkId) : Kept h (h.enterAligned l) := by
  unfold Hub.enterAligned
  cases l with
  | remote p =>
    have hstart (g : Hub) : Kept g (g.startMeasurement p .entry) := kept_onRemote g p fun _ _ _ ho => nomatch ho
    exact (calm_onCore_remote h p _).kept.trans ((hstart _).trans (calm_newIdentify _ p).kept)
  | donor d =>
    refine (kept_onCore h (.donor d) (f := LinkCore.enterAligned .up) fun _ _ => .inr (.inr rfl)).trans (Calm.kept ?_)
    exact (calm_donorCarriers _ d).trans ((calm_raise _ _).trans (calm_clearCondition _ _))
  | trunk => exact (kept_onCore h .trunk (f := LinkCore.enterAligned .up) fun _ _ => .inr (.inr rfl)).trans (calm_raise _ _).kept

theorem kept_linkAligned (l : LinkId) (h : Hub) : Kept h (h.linkAligned l) := by
  unfold Hub.linkAligned
  dsimp only
  split
  · exact .ite _ (fun _ => (kept_enterAligned h l).trans (calm_deliver _ l _).kept) fun _ => .same h
  · exact .same h

theorem kept_takeDue (p : PortId) (h : Hub) : Kept h (h.takeDue p) := by
  refine (kept_linkAligned (.remote p) h).trans (.ite _ (fun _ => ?_) fun _ => .same _)
  refine (kept_measurementDone p _).trans (.ite _ (fun _ => Calm.kept ?_) fun _ => .same _)
  exact (calm_identifyReply _).trans (calm_statusReply _)

theorem kept_takeLinkDue (l : LinkId) (h : Hub) : Kept h (h.takeLinkDue l) := by
  cases l with
  | remote p => exact kept_takeDue p h
  | donor d => exact kept_linkAligned (.donor d) h
  | trunk => exact kept_linkAligned .trunk h

theorem calm_closeGates (h : Hub) (p : PortId) : Calm h (h.closeGates p) := calm_onGates h p _

theorem kept_exitRemote (h : Hub) (p : PortId) (leave : LinkCore → LinkCore) (loss : Bool) :
    Kept h (h.exitRemote p leave loss) := by
  unfold Hub.exitRemote
  dsimp only
  have hleave : Kept h ((((h.abortMeasurement p).cteExit p).onRemote p fun r =>
      { r with core := leave r.core, mask := 0 }).setCombining p false |>.closeGates p) :=
    (kept_abortMeasurement h p).trans (Calm.kept ((calm_cteExit _ p).trans ((calm_onRemote _ p).trans
      ((calm_setCombining _ p _).trans (calm_closeGates _ p)))))
  have hup (g : Hub) : Kept g ((((g.loopAbort p true).markMove p .link).wakePort p .link).raise .link) :=
    (kept_loopAbort g p true).trans (Calm.kept ((calm_markMove _ p _).trans
      ((calm_wakePort _ p _).trans (calm_raise _ _))))
  have hloss (g : Hub) : Kept g ((g.onCore (.remote p) LinkCore.countDrop).present (.port p .linkLoss)) :=
    Calm.kept ((calm_onCore_remote g p _).trans (calm_present _ _))
  have hexit := hleave.trans (Kept.ite (h.isUp p = true) (fun _ => hup _) fun _ => .same _)
  exact .ite _ (fun _ => hexit.trans (hloss _)) fun _ => hexit

theorem calm_tld (h : Hub) {t : Tld} (ht : t.tables = h.tld.tables := by rfl)
    (hs : t.scheduled = h.tld.scheduled := by rfl) : Calm h { h with tld := t } := by
  refine ⟨?_, id, rfl, rfl⟩
  ext1 <;> first | rfl | exact ht | exact hs

theorem calm_endLoad (h : Hub) (o : LoadOutcome) : Calm h (h.endLoad o) := .trans (calm_tld h) (calm_raise _ _)

theorem calm_loadTimeout (h : Hub) : Calm h h.loadTimeout := .ite _ (calm_endLoad h _) (.same h)

theorem kept_loseLink (h : Hub) (l : LinkId) {leave : LinkCore → LinkCore} (hl : ∀ c, (leave c).state.ofDonor) :
    Kept h (h.loseLink l leave) := by
  cases l with
  | remote p => exact kept_exitRemote h p leave true
  | donor d =>
    refine (kept_onCore h (.donor d) (f := fun c => leave c.countDrop) fun _ _ => hl _).trans (Calm.kept ?_)
    exact (calm_donorCarriers _ d).trans ((calm_raise _ _).trans (calm_present _ _))
  | trunk =>
    refine (kept_onCore h .trunk (f := fun c => leave c.countDrop) fun _ _ => hl _).trans (Calm.kept ?_)
    exact (calm_raise _ _).trans (.ite _ (.same _) (calm_endLoad _ _))

theorem kept_signalAbsent (l : LinkId) (h : Hub) : Kept h (h.signalAbsent l) := by
  unfold Hub.signalAbsent
  dsimp only
  have hnoted : Kept h ((h.takeLinkDue l).onCore l fun c => { c with signal := false }) :=
    (kept_takeLinkDue l h).trans (calm_onCore _ l).kept
  refine .ite _ (fun _ => hnoted) fun _ => .ite _ (fun _ => hnoted.trans ?_) fun _ => hnoted.trans ?_
  · exact kept_loseLink _ l LinkCore.enterDown_ofDonor
  · exact kept_onCore _ l fun c _ => c.enterDown_ofDonor

theorem kept_alignmentLost (l : LinkId) (h : Hub) : Kept h (h.alignmentLost l) :=
  .ite _ (fun _ => (kept_takeLinkDue l h).trans (kept_loseLink _ l LinkCore.enterHunt_ofDonor)) fun _ => .same h

/-! ## Limiters -/

theorem attackFactor_bounds {l : Nat} (hl : l ≤ 4096) : 512 ≤ attackFactor l ∧ attackFactor l ≤ 4096 := by
  unfold attackFactor
  omega

/-- The update of a frame keeps L in its range (R58 to R60). -/
theorem LaneLimiter.frameUpdate_factor (t : Tables) (p : PortId) (b : Lane) {m : LaneLimiter}
    (hm : 512 ≤ m.factor ∧ m.factor ≤ 4096) :
    512 ≤ (m.frameUpdate t p b).factor ∧ (m.frameUpdate t p b).factor ≤ 4096 := by
  obtain ⟨hlow, hhigh⟩ := hm
  simp only [LaneLimiter.frameUpdate]
  cases frameClass (m.powerSum / 256) (t.ceiling p b) with
  | excess => exact attackFactor_bounds hhigh
  | between => exact ⟨hlow, hhigh⟩
  | clean =>
    cases t.limiterMode p with
    | next => dsimp only; omega
    | step => dsimp only; omega
    | hold => dsimp only; split <;> exact ⟨hlow, hhigh⟩

theorem kept_plm (h : Hub) {v : Vector PortLimiter 24}
    (hv : h.factorsInRange → ∀ (p : PortId) (b : Lane), 512 ≤ v[p].lanes[b].factor ∧ v[p].lanes[b].factor ≤ 4096) :
    Kept h { h with plm := v } := .of_laws (.of_parts (factors := hv))

theorem kept_limiterUpdate (h : Hub) : Kept h h.limiterUpdate := by
  unfold Hub.limiterUpdate
  refine .ite _ (fun _ => .same h) fun _ => ?_
  refine .trans (kept_plm h (v := tab fun p => (h.plm[p]).frameUpdate h.tables p) fun hl p b => ?_) (calm_bd _).kept
  rw [tab_get]
  by_cases hc : (h.plm[p]).cleared = true
  · rw [PortLimiter.frameUpdate, if_pos hc]
    exact hl p b
  · rw [PortLimiter.frameUpdate_lane (Bool.eq_false_iff.mpr hc)]
    exact LaneLimiter.frameUpdate_factor _ p b (hl p b)

theorem kept_onPlm (h : Hub) (p : PortId) {f : PortLimiter → PortLimiter}
    (hf : ∀ m (b : Lane), (f m).lanes[b].factor = m.lanes[b].factor ∨ (f m).lanes[b].factor = 4096) :
    Kept h (h.onPlm p f) :=
  kept_plm h fun hl q b => by
    rw [upd_get]
    split
    · rcases hf h.plm[q] b with hb | hb <;> rw [hb]
      · exact hl q b
      · exact ⟨by decide, le_refl _⟩
    · exact hl q b

theorem kept_holdRestore (p : PortId) (b : Lane) (h : Hub) : Kept h (h.holdRestore p b) := by
  refine (kept_limiterUpdate h).trans (.ite _ (fun _ => kept_onPlm _ p fun m c => ?_) fun _ => .same _)
  dsimp only
  rw [upd_get]
  split
  · exact .inr rfl
  · exact .inl rfl

theorem kept_overdrivePresent (p : PortId) (h : Hub) : Kept h (h.overdrivePresent p) := by
  refine (kept_limiterUpdate h).trans (.ite _ (fun _ => .ite _ (fun _ => ?_) fun _ => ?_) fun _ => .same _)
  · exact (calm_onPlm _ p).kept
  · exact Calm.kept ((calm_onPlm _ p).trans (calm_present _ _))

theorem kept_overdriveClear (p : PortId) (h : Hub) : Kept h (h.overdriveClear p) := by
  refine (kept_limiterUpdate h).trans (.ite _ (fun _ => .ite _ (fun _ => ?_) fun _ => ?_) fun _ => .same _)
  · exact (calm_onPlm _ p).kept
  · exact Calm.kept ((calm_onPlm _ p).trans (calm_clearCondition _ _))

theorem kept_overdriveDue (p : PortId) (h : Hub) : Kept h (h.overdriveDue p) :=
  .ite _ (fun _ => (kept_overdrivePresent p h).trans (kept_overdriveClear p _)) fun _ => .same h

theorem kept_takePortDue (p : PortId) (h : Hub) : Kept h (h.takePortDue p) :=
  (kept_takeDue p h).trans ((kept_alignmentLost (.remote p) _).trans
    ((calm_presentDue p _).kept.trans (kept_overdriveDue p _)))

theorem kept_clearLimiter (h : Hub) (p : PortId) (keep : Bool) : Kept h (h.onPlm p (PortLimiter.clear keep)) :=
  kept_onPlm h p fun m b => .inr (by simp [PortLimiter.clear, LaneLimiter.init])

/-! ## Gates and meters -/

theorem calm_joinPort (p : PortId) (h : Hub) : Calm h (h.joinPort p) :=
  .ite _ ((calm_setCombining h p true).trans (calm_onGates _ p _)) (.same h)

theorem calm_join (h : Hub) : Calm h h.join := by
  unfold Hub.join
  have hj := calm_each calm_joinPort h
  dsimp only
  generalize each Hub.joinPort h = g at hj ⊢
  exact .ite _ (.same h) (hj.trans (calm_bd g))

theorem calm_gateUpdate (h : Hub) (p : PortId) (net : Vector Nat 4) : Calm h (h.gateUpdate p net) :=
  .ite _ (calm_onGates h p _) (.same h)

theorem calm_levelWake (h : Hub) (p : PortId) (net : Vector Nat 4) : Calm h (h.levelWake p net) :=
  .ite _ (calm_wakePort h p _) (.same h)

theorem calm_overloadWindow (h : Hub) (p : PortId) (void : Bool) (net : Vector Nat 4) :
    Calm h (h.overloadWindow p void net) := by
  unfold Hub.overloadWindow
  dsimp only
  have hclear (f : Detectors → Detectors) : Calm h ((h.onDet p f).clearCondition (.port p .ulOverload)) :=
    (calm_onDet h p f).trans (calm_clearCondition _ _)
  exact .ite _ (hclear _) (.ite _ (calm_onDet h p _) (.ite _ (hclear _) (calm_onDet h p _)))

theorem calm_silentWindow (h : Hub) (p : PortId) (void : Bool) (net : Vector Nat 4) :
    Calm h (h.silentWindow p void net) := by
  unfold Hub.silentWindow
  dsimp only
  have hs := calm_silentPresent p h
  refine .ite _ hs (.ite _ ?_ ?_)
  · exact hs.trans (calm_onDet _ p _)
  · exact hs.trans ((calm_onDet _ p _).trans (calm_clearCondition _ _))

theorem calm_handOn (h : Hub) (p : PortId) (void : Bool) : Calm h (h.handOn p void) := by
  unfold Hub.handOn
  dsimp only
  exact (calm_gateUpdate h p _).trans ((calm_levelWake _ p _).trans
    ((calm_overloadWindow _ p void _).trans (calm_silentWindow _ p void _)))

theorem PortMeter.startTest_loop (m : PortMeter) : m.startTest.loop = .none ↔ m.loop = .none := by
  unfold PortMeter.startTest
  split
  next hl => simp [hl]
  next => rfl

theorem kept_windowEndPort (p : PortId) (h : Hub) : Kept h (h.windowEndPort p) := by
  unfold Hub.windowEndPort
  dsimp only
  split
  next tag hl => exact kept_loopComplete h p tag hl
  next hl =>
    refine .ite _ (fun _ => .same h) fun _ => ?_
    refine .trans (calm_onMeter h p).kept (.trans (calm_handOn _ p _).kept (kept_onMeter _ p fun m => ?_))
    exact mt m.startTest_loop.mpr

theorem calm_lvm (h : Hub) {v : Lvm} (hv : ∀ q : PortId, v.ports[q].loop = h.lvm.ports[q].loop) :
    Calm h { h with lvm := v } := by
  refine ⟨?_, id, rfl, rfl⟩
  ext1 <;> first | rfl | exact funext hv

theorem kept_windowEnd (h : Hub) : Kept h h.windowEnd := by
  unfold Hub.windowEnd
  refine .ite _ (fun _ => .same h) fun _ => (kept_each kept_windowEndPort h).trans (Calm.kept ?_)
  exact calm_lvm _ fun q => by rw [mapTab_get]

theorem kept_restartPort (p : PortId) (h : Hub) : Kept h (h.restartPort p) := by
  unfold Hub.restartPort
  dsimp only
  refine (Kept.ite _ (fun _ => kept_loopAbort h p false) fun _ => .same h).trans (kept_onMeter _ p fun m => ?_)
  exact mt m.dropWindow.startTest_loop.mpr

theorem kept_restartWindow (h : Hub) : Kept h h.restartWindow := by
  unfold Hub.restartWindow
  have hr := kept_each kept_restartPort h
  dsimp only
  generalize each Hub.restartPort h = g at hr ⊢
  refine hr.trans (calm_lvm g ?_).kept
  exact fun _ => rfl

/-! ## The delay equalizer -/

theorem PortEq.recompute_lawful (targets : Vector SectorEq 12) (f : FrameInput) (e : PortEq) :
    (e.recompute targets f).lawful targets := by
  unfold PortEq.recompute PortEq.lawful
  dsimp only
  cases f.countedIn <;> simp

theorem calm_rangeChange (was : Vector PortEq 24) (p : PortId) (h : Hub) : Calm h (h.rangeChange was p) :=
  .ite _ (.same h) (.ite _ (calm_present h _) (calm_clearCondition h _))

theorem kept_deqRecompute (h : Hub) : Kept h h.deqRecompute := by
  unfold Hub.deqRecompute
  dsimp only
  refine .ite _ (fun _ => .same h) fun _ => .trans ?_ (kept_each (fun p g => (calm_rangeChange _ p g).kept) _)
  refine .of_laws (.of_parts (equalized := fun _ p => ?_) (lines := fun hl p => ?_))
  · rw [tab_get]
    exact PortEq.recompute_lawful _ _ _
  · rw [tab_get]
    exact hl p

/-- A change of a port's equalization record that leaves the law of R71 alone and its lines full. -/
theorem kept_onEq (h : Hub) (p : PortId) {f : PortEq → PortEq} (hf : ∀ s e, e.lawful s → (f e).lawful s)
    (hl : ∀ e, e.downLine.length = 1024 ∧ e.upLine.length = 1024 →
      (f e).downLine.length = 1024 ∧ (f e).upLine.length = 1024) : Kept h (h.onEq p f) := by
  refine .of_laws (.of_parts (equalized := fun he q => ?_) (lines := fun hf q => ?_))
  · rw [Hub.onEq_ports, upd_get]
    split
    · exact hf _ _ (he q)
    · exact he q
  · rw [Hub.onEq_ports, upd_get]
    split
    · exact hl _ (hf q)
    · exact hf q

theorem kept_zeroLines (h : Hub) (p : PortId) : Kept h (h.onEq p PortEq.zeroLines) :=
  kept_onEq h p (fun _ _ he => he) fun _ _ => ⟨zeroLine_length, zeroLine_length⟩

/-! ## Second marks -/

theorem calm_markErrored (p : PortId) (h : Hub) : Calm h (h.markErrored p) := by
  unfold Hub.markErrored
  exact .trans (.ite _ (calm_clearCondition h _) (.same h)) (calm_onRemote _ p)

theorem calm_markInterval (h : Hub) : Calm h h.markInterval := by
  rcases markInterval_cases h with ⟨-, he⟩ | ⟨-, -, he⟩ | ⟨-, -, he⟩ <;> rw [he]
  · exact .same h
  · exact ⟨rfl, id, rfl, rfl⟩
  · exact ⟨rfl, id, rfl, rfl⟩

theorem calm_markSilent (p : PortId) (h : Hub) : Calm h (h.markSilent p) := calm_onDet h p _

theorem calm_secondMark (h : Hub) : Calm h h.secondMark := by
  unfold Hub.secondMark
  dsimp only
  have hcount : Calm h { h with mga := { h.mga with frameCount := 0, seconds := sat32 h.mga.seconds 1 } } :=
    ⟨rfl, id, rfl, rfl⟩
  have herr := hcount.trans (((calm_markPoll _).trans (calm_markInterval _)).trans (calm_each calm_markErrored _))
  generalize each Hub.markErrored _ = g at herr ⊢
  exact .ite _ (.same h) (herr.trans (.trans (calm_fsv g) (calm_each calm_markSilent _)))

end Sys2Proof.Machine
end

section
/-! The events within a frame boundary keep the laws of every frame: cells, balancing and moves. -/

namespace Sys2Proof.Machine

/-! ## Cells -/

theorem Tld.fail_tables (t : Tld) (k : LoadErrorKind) :
    (t.fail k).tables = t.tables ∧ (t.fail k).scheduled = t.scheduled := by
  unfold Tld.fail
  split <;> exact ⟨rfl, rfl⟩

theorem Tld.data_tables (t : Tld) (c : Cell) : (t.data c).tables = t.tables ∧ (t.data c).scheduled = t.scheduled := by
  unfold Tld.data
  split
  · exact ⟨rfl, rfl⟩
  · exact t.fail_tables _
  · dsimp only
    split
    · exact ⟨rfl, rfl⟩
    · exact t.fail_tables _

theorem Tld.check_tables (t : Tld) (c : Cell) :
    (t.check c).tables = t.tables ∧ (t.check c).scheduled = t.scheduled := by
  unfold Tld.check
  split
  · exact ⟨rfl, rfl⟩
  · exact t.fail_tables _
  · dsimp only
    split
    · exact ⟨rfl, rfl⟩
    · exact t.fail_tables _

theorem kept_takeCell (k : CellType) {act : Cell → Hub → Hub} (ha : ∀ c h, Kept h (act c h)) (h : Hub) :
    Kept h (h.takeCell k act) := by
  unfold Hub.takeCell
  split
  · exact .same h
  next c _ =>
    have hcell : Calm h { h with mga := { h.mga with cell := none } } := ⟨rfl, id, rfl, rfl⟩
    exact .ite _ (fun _ => hcell.kept.trans (ha c _)) fun _ => .same h

theorem kept_data (c : Cell) (h : Hub) : Kept h { h with tld := h.tld.data c } :=
  (calm_tld h (h.tld.data_tables c).1 (h.tld.data_tables c).2).kept

theorem kept_check (c : Cell) (h : Hub) : Kept h { h with tld := h.tld.check c } :=
  (calm_tld h (h.tld.check_tables c).1 (h.tld.check_tables c).2).kept

theorem kept_unexpectedCell (c : Cell) (h : Hub) : Kept h (h.unexpectedCell c) := Calm.kept ⟨rfl, id, rfl, rfl⟩

theorem kept_acceptRequest (c : Cell) (h : Hub) : Kept h (h.acceptRequest c) := by
  unfold Hub.acceptRequest
  dsimp only
  refine .ite _ (fun _ => Calm.kept ⟨rfl, id, rfl, rfl⟩) fun hfull => ?_
  have hjoin : Kept h { h with mga := { h.mga with requests := h.mga.requests ++ [c] } } := by
    refine .of_laws (.of_parts (lists := fun ⟨_, hlog, hhist, hadv⟩ => ⟨?_, hlog, hhist, hadv⟩))
    rw [List.length_append]
    have hone : [c].length = 1 := rfl
    omega
  refine .ite _ (fun _ => ?_) fun _ => hjoin
  have htime := hjoin.trans (calm_loadTimeout _).kept
  exact .ite _ (fun _ => htime.trans (calm_tld _).kept) fun _ => htime

/-! ## The move log -/

theorem kept_logMove (h : Hub) (e : MoveEntry) (o : MoveOutcome) : Kept h (h.logMove e o) := by
  rw [logMove_eq]
  exact .of_laws (.of_parts (lists := fun ⟨hr, _, hhist, hadv⟩ => ⟨hr, lastSixteen_length _, hhist, hadv⟩))

/-! ## The queue and the move in flight -/

/-- A queue that lost entries is as lawful as it was. -/
theorem kept_shrinkQueue (h : Hub) {queue : List MoveEntry} (hq : queue.Sublist h.sbl.queue) :
    Kept h { h with sbl := { h.sbl with queue := queue } } := by
  refine .of_laws (.of_parts (moves := fun hm => ?_) (places := fun _ hp => ?_))
  · rw [movesLawful_iff] at hm ⊢
    obtain ⟨hlen, hnodup, hother, hflight, htwo, hconfig⟩ := hm
    refine ⟨hq.length_le.trans hlen, hnodup.sublist (hq.map _), fun x hx e he => hother x hx e (hq.subset he), hflight,
      htwo, fun hs => ⟨?_, (hconfig hs).2⟩⟩
    rw [(hconfig hs).1] at hq
    exact List.sublist_nil.mp hq
  · obtain ⟨hconfig, hservice, hwaits⟩ := hp
    refine ⟨hconfig, fun hs => ?_, hwaits⟩
    obtain ⟨hoff, hon, hcount, hqueue, hcross, hsched⟩ := hservice hs
    exact ⟨hoff, hon, hcount, fun e he => hqueue e (hq.subset he), hcross, hsched⟩

/-- What R120 asks of an entry that joins the queue. -/
structure Hub.queueable (h : Hub) (e : MoveEntry) : Prop where
  service : h.inService = true
  assigned : h.assignOf e.port = .one e.source
  absent : ∀ q ∈ h.sbl.queue, q.port ≠ e.port

theorem kept_appendQueue (h : Hub) {e : MoveEntry} (he : h.queueable e) (hroom : h.sbl.queue.length < 8) :
    Kept h { h with sbl := { h.sbl with queue := h.sbl.queue ++ [e] } } := by
  obtain ⟨hservice, hassign, habsent⟩ := he
  refine .of_laws (.of_parts (moves := fun hm => ?_) (places := fun _ hp => ?_))
  · rw [movesLawful_iff] at hm ⊢
    obtain ⟨hlen, hnodup, hother, hflight, htwo, hconfig⟩ := hm
    refine ⟨?_, ?_, fun x hx q hq => ?_, hflight, htwo, fun hs => absurd (hservice.symm.trans hs) (by decide)⟩
    · rw [List.length_append]
      exact hroom
    · rw [List.map_append, List.nodup_append]
      refine ⟨hnodup, List.nodup_singleton _, fun a ha b hb => ?_⟩
      obtain ⟨q, hq, rfl⟩ := List.mem_map.mp ha
      rw [List.map_singleton, List.mem_singleton] at hb
      exact hb ▸ habsent q hq
    · rcases List.mem_append.mp hq with hq | hq
      · exact hother x hx q hq
      · rw [List.mem_singleton.mp hq]
        intro hxe
        have h2 := hflight x hx
        change h.assignOf x.port = _ at h2
        rw [← hxe, hassign] at h2
        cases h2
  · obtain ⟨hconfig, hsrv, hwaits⟩ := hp
    refine ⟨hconfig, fun hs => ?_, hwaits⟩
    obtain ⟨hoff, hon, hcount, hqueue, hcross, hsched⟩ := hsrv hs
    refine ⟨hoff, hon, hcount, fun q hq => ?_, hcross, hsched⟩
    rcases List.mem_append.mp hq with hq | hq
    · exact hqueue q hq
    · rw [List.mem_singleton.mp hq]
      exact hassign

theorem kept_enqueue (h : Hub) {e : MoveEntry} (he : h.queueable e) (hroom : h.sbl.queue.length < 8) :
    Kept h (h.enqueue e) := (kept_appendQueue h he hroom).trans (calm_wakePort _ _ _).kept

/-- An entry that takes the place of its port's. -/
theorem kept_replaceQueue (h : Hub) {e : MoveEntry} (hassign : h.assignOf e.port = .one e.source) :
    Kept h { h with sbl := { h.sbl with queue := h.sbl.queue.map fun q => if q.port = e.port then e else q } } := by
  have hport (q : MoveEntry) : (if q.port = e.port then e else q).port = q.port := by
    split
    next hq => exact hq.symm
    next => rfl
  refine .of_laws (.of_parts (moves := fun hm => ?_) (places := fun _ hp => ?_))
  · rw [movesLawful_iff] at hm ⊢
    obtain ⟨hlen, hnodup, hother, hflight, htwo, hconfig⟩ := hm
    refine ⟨?_, ?_, fun x hx q hq => ?_, hflight, htwo, fun hs => ⟨?_, (hconfig hs).2⟩⟩
    · rwa [List.length_map]
    · rw [List.map_map]
      simpa only [Function.comp_def, hport] using hnodup
    · obtain ⟨q', hq', rfl⟩ := List.mem_map.mp hq
      rw [hport]
      exact hother x hx q' hq'
    · rw [(hconfig hs).1]
      rfl
  · obtain ⟨hconfig, hsrv, hwaits⟩ := hp
    refine ⟨hconfig, fun hs => ?_, hwaits⟩
    obtain ⟨hoff, hon, hcount, hqueue, hcross, hsched⟩ := hsrv hs
    refine ⟨hoff, hon, hcount, fun q hq => ?_, hcross, hsched⟩
    obtain ⟨q', hq', rfl⟩ := List.mem_map.mp hq
    split
    · exact hassign
    · exact hqueue q' hq'

/-! ## Assignments -/

/-- A port that is assigned to no further sector raises no count. -/
theorem assignedCount_le {h h' : Hub} {s : SectorId}
    (ha : ∀ q, (h'.assignOf q).has s = true → (h.assignOf q).has s = true) :
    h'.assignedCount s ≤ h.assignedCount s := List.countP_mono_left fun q _ => ha q

theorem countP_or_eq_le {n : Nat} (f : Fin n → Bool) (p : Fin n) (xs : List (Fin n)) :
    xs.countP (fun q => f q || q = p) ≤ xs.countP f + xs.count p := by
  induction xs with
  | nil => simp
  | cons x xs ih =>
    simp only [List.countP_cons, List.count_cons, Bool.or_eq_true, decide_eq_true_eq, beq_iff_eq]
    split_ifs <;> simp_all <;> omega

/-- A port that is newly assigned to a sector raises its count by one at most. -/
theorem assignedCount_le_succ {h h' : Hub} {s : SectorId} (p : PortId)
    (ha : ∀ q, q ≠ p → (h'.assignOf q).has s = true → (h.assignOf q).has s = true) :
    h'.assignedCount s ≤ h.countWithout p s + 1 := by
  calc h'.assignedCount s
    _ ≤ (List.finRange 24).countP (fun q => (q ≠ p && (h.assignOf q).has s) || q = p) :=
      List.countP_mono_left fun q _ hq => by
        by_cases hqp : q = p
        · simp [hqp]
        · simp [hqp, ha q hqp hq]
    _ ≤ h.countWithout p s + (List.finRange 24).count p := countP_or_eq_le _ p _
    _ ≤ h.countWithout p s + 1 :=
      Nat.add_le_add_left (List.nodup_iff_count_le_one.mp (List.nodup_finRange 24) p) _

theorem countWithout_le (h : Hub) (p : PortId) (s : SectorId) : h.countWithout p s ≤ h.assignedCount s :=
  List.countP_mono_left fun _ _ hq => (Bool.and_eq_true_iff.mp hq).2

/-- The move in flight ends with its port in its source or its target alone. -/
theorem kept_land (h : Hub) {m : MoveRecord} (hf : h.sbl.flight = some m) {z : SectorId}
    (hz : z = m.entry.source ∨ z = m.entry.target) {f : PortBalance → PortBalance}
    (hfz : ∀ b, (f b).assign = .one z) :
    Kept h ({ h with sbl := { h.sbl with flight := none } }.onBal m.entry.port f) := by
  have hfly : h.flying = some m.entry := by simp [Hub.flying, hf]
  have hassign (q : PortId) : ({ h with sbl := { h.sbl with flight := none } }.onBal m.entry.port f).assignOf q
      = if m.entry.port = q then .one z else h.assignOf q := by
    unfold Hub.assignOf
    rw [Hub.onBal_ports, upd_get]
    split
    · exact hfz _
    · rfl
  refine .of_laws (.of_parts (moves := fun hm => ?_) (places := fun hm hp => ?_))
  · rw [movesLawful_iff] at hm ⊢
    obtain ⟨hlen, hnodup, -, -, htwo, hconfig⟩ := hm
    refine ⟨hlen, hnodup, fun x hx => (nomatch hx), fun x hx => (nomatch hx), fun p s t hp => ?_,
      fun hs => ⟨(hconfig hs).1, rfl⟩⟩
    rw [hassign] at hp
    split at hp
    · cases hp
    next hne =>
      obtain ⟨x, hx, hxp⟩ := htwo p s t hp
      rw [hfly] at hx
      cases hx
      exact absurd hxp hne
  · rw [movesLawful_iff] at hm
    obtain ⟨-, -, hother, hflight, -, -⟩ := hm
    obtain ⟨hconfig, hservice, hwaits⟩ := hp
    have hold := hflight _ hfly
    refine ⟨fun hs q => ?_, fun hs => ?_, hwaits⟩
    · have hnone := hconfig hs m.entry.port
      rw [hold] at hnone
      cases hnone
    · obtain ⟨hoff, hon, hcount, hqueue, hcross, hsched⟩ := hservice hs
      refine ⟨fun q hq => ?_, fun q hq => ?_, fun s hs' => ?_, fun e he => ?_, hcross, hsched⟩
      · rw [hassign]
        split
        next hpq =>
          have hnone := hoff q hq
          rw [← hpq, hold] at hnone
          cases hnone
        next => exact hoff q hq
      · refine .inl ?_
        rw [hassign]
        split
        · exact ⟨z, rfl⟩
        next hne =>
          rcases hon q hq with h1 | h1
          · exact h1
          · obtain ⟨x, hx, hxq⟩ := flightOf_isSome.mp h1
            rw [hfly] at hx
            cases hx
            exact absurd hxq hne
      · refine (assignedCount_le fun q hq => ?_).trans (hcount s hs')
        rw [hassign] at hq
        split at hq
        next hpq =>
          rw [← hpq, hold]
          rcases hz with rfl | rfl <;> simp_all [Assign.has]
        next => exact hq
      · rw [hassign, if_neg (Ne.symm (hother _ hfly e he))]
        exact hqueue e he

theorem kept_abandonMove (h : Hub) {m : MoveRecord} (hf : h.sbl.flight = some m) (o : MoveOutcome) :
    Kept h (h.abandonMove m o) := by
  unfold Hub.abandonMove
  have hbd : Calm h { h with bd := { h.bd with rampDue := false, abandonDue := false } } := calm_bd h
  exact hbd.kept.trans (.trans (kept_land { h with bd := { h.bd with rampDue := false, abandonDue := false } } hf
    (.inl rfl) fun _ => rfl) (kept_logMove _ m.entry o))

theorem kept_moveAbandon (h : Hub) : Kept h h.moveAbandon := by
  unfold Hub.moveAbandon
  split
  · exact .same h
  next m hf =>
    split
    · exact .ite _ (fun _ => kept_abandonMove h hf _) fun _ => .same h
    · exact .same h

theorem kept_moveCommit (h : Hub) : Kept h h.moveCommit := by
  unfold Hub.moveCommit
  dsimp only
  split
  · exact .same h
  next m hf =>
    refine .ite _ (fun _ => ?_) fun _ => .same h
    have hbd : Calm h { h with bd := { h.bd with rampDue := false } } := calm_bd h
    exact hbd.kept.trans (.trans (kept_land { h with bd := { h.bd with rampDue := false } } hf (.inr rfl)
      fun _ => rfl) (kept_logMove _ m.entry .done))

theorem calm_rampStep (h : Hub) : Calm h h.rampStep := by
  unfold Hub.rampStep
  split
  · exact .same h
  next m hf =>
    refine .ite _ ⟨?_, id, rfl, rfl⟩ (.same h)
    ext1 <;> first | rfl | simp [Hub.outline, Hub.flying, hf]

/-- A validated head leaves the queue and ramps into a sector that has room (R123, R124). -/
theorem kept_beginMove (h : Hub) {e : MoveEntry} {rest : List MoveEntry} (hf : h.sbl.flight = none)
    (hq : h.sbl.queue = e :: rest) (hroom : h.assignedCount e.target < h.tables.maxMembers e.target) :
    Kept h ({ h with sbl := { h.sbl with queue := rest } }.beginMove e) := by
  have hfly : h.flying = none := by simp [Hub.flying, hf]
  have hassign (q : PortId) : ({ h with sbl := { h.sbl with queue := rest } }.beginMove e).assignOf q
      = if e.port = q then .two e.source e.target else h.assignOf q := by
    unfold Hub.assignOf Hub.beginMove
    rw [Hub.onBal_ports, upd_get]
    split <;> rfl
  refine .of_laws (.of_parts (moves := fun hm => ?_) (places := fun hm hp => ?_))
  · rw [movesLawful_iff] at hm ⊢
    obtain ⟨hlen, hnodup, -, -, htwo, hconfig⟩ := hm
    rw [hq] at hlen hnodup hconfig
    obtain ⟨hfirst, hrest⟩ := List.nodup_cons.mp hnodup
    refine ⟨(Nat.le_succ _).trans hlen, hrest, fun x hx q hq' => ?_, fun x hx => ?_, fun p s t hp => ?_,
      fun hs => (nomatch (hconfig hs).1)⟩
    · cases hx
      exact fun he => hfirst (List.mem_map.mpr ⟨q, hq', he⟩)
    · cases hx
      rw [hassign, if_pos rfl]
    · rw [hassign] at hp
      split at hp
      next hpe => exact ⟨e, rfl, hpe⟩
      next =>
        obtain ⟨x, hx, -⟩ := htwo p s t hp
        rw [hfly] at hx
        cases hx
  · rw [movesLawful_iff] at hm
    obtain ⟨-, hnodup, -, -, htwo, hidle⟩ := hm
    obtain ⟨hconfig, hservice, hwaits⟩ := hp
    rw [hq] at hnodup hidle hservice
    obtain ⟨hfirst, -⟩ := List.nodup_cons.mp hnodup
    refine ⟨fun hs => (nomatch (hidle hs).1), fun hs => ?_, hwaits⟩
    obtain ⟨hoff, hon, hcount, hqueue, hcross, hsched⟩ := hservice hs
    have hold := hqueue e List.mem_cons_self
    refine ⟨fun q hq' => ?_, fun q hq' => ?_, fun s hs' => ?_, fun x hx => ?_, hcross, hsched⟩
    · rw [hassign]
      split
      next hpq =>
        have hnone := hoff q hq'
        rw [← hpq, hold] at hnone
        cases hnone
      next => exact hoff q hq'
    · by_cases hpq : e.port = q
      · exact .inr (flightOf_isSome.mpr ⟨e, rfl, hpq⟩)
      · rw [hassign, if_neg hpq]
        rcases hon q hq' with h1 | h1
        · exact .inl h1
        · obtain ⟨x, hx, -⟩ := flightOf_isSome.mp h1
          rw [hfly] at hx
          cases hx
    · by_cases hst : s = e.target
      · subst hst
        refine (assignedCount_le_succ (h := h) e.port fun q hne hq' => ?_).trans ?_
        · rwa [hassign, if_neg (Ne.symm hne)] at hq'
        · exact (Nat.succ_le_succ (countWithout_le h _ _)).trans hroom
      · refine (assignedCount_le fun q hq' => ?_).trans (hcount s hs')
        rw [hassign] at hq'
        split at hq'
        next hpq =>
          rw [← hpq, hold]
          simpa [Assign.has, Ne.symm hst] using hq'
        next => exact hq'
    · have hne : e.port ≠ x.port := fun he => hfirst (List.mem_map.mpr ⟨x, hx, he.symm⟩)
      rw [hassign, if_neg hne]
      exact hqueue x (List.mem_cons_of_mem _ hx)

theorem room_of_startRefusal {h : Hub} {e : MoveEntry} (hr : h.startRefusal e = none) :
    h.assignedCount e.target < h.tables.maxMembers e.target := by
  by_contra hfull
  unfold Hub.startRefusal at hr
  split at hr
  · cases hr
  · rw [if_pos (Nat.le_of_not_lt hfull)] at hr
    cases hr

theorem kept_moveStart (h : Hub) : Kept h h.moveStart := by
  unfold Hub.moveStart
  dsimp only
  split
  next e rest hf hq =>
    refine .ite _ (fun _ => .same h) fun _ => ?_
    have hbd : Calm h { h with bd := { h.bd with headSeen := true } } := calm_bd h
    split
    next o _ =>
      refine hbd.kept.trans (.trans (kept_shrinkQueue _ ?_) (kept_logMove _ e o))
      rw [show _ = e :: rest from hq]
      exact List.sublist_cons_self e rest
    next hr =>
      refine hbd.kept.trans (kept_beginMove { h with bd := { h.bd with headSeen := true } } hf hq ?_)
      exact room_of_startRefusal hr
  next hf hq => exact (calm_bd h).kept
  next => exact .same h

end Sys2Proof.Machine
end

section
/-! The events within a frame boundary keep the laws of every frame: the balance interval, the rebuild of the
membership, activations and the effects of requests. -/

namespace Sys2Proof

/-- What the turn of `i` makes of the item `g`, where the turns of the others leave that item alone. -/
theorem foldl_at {σ β ι : Type} [DecidableEq ι] {f : ι → σ → σ} {g : σ → β} {P : σ → Prop} {F : β → β} (j : ι)
    (hP : ∀ i s, P s → P (f i s)) (hother : ∀ i s, i ≠ j → P s → g (f i s) = g s)
    (hj : ∀ s, P s → g (f j s) = F (g s)) (xs : List ι) (hn : xs.Nodup) {s : σ} (hs : P s) :
    g (xs.foldl (fun t i => f i t) s) = if j ∈ xs then F (g s) else g s := by
  induction xs generalizing s with
  | nil => rfl
  | cons x xs ih =>
    obtain ⟨hx, hn⟩ := List.nodup_cons.mp hn
    rw [List.foldl_cons, ih hn (hP x s hs)]
    by_cases hxj : x = j
    · subst hxj
      simp [hx, hj s hs]
    · have hjx : j ≠ x := Ne.symm hxj
      simp [hjx, hother x s hxj hs]

theorem each_at {σ β : Type} {n : Nat} {f : Fin n → σ → σ} {g : σ → β} {P : σ → Prop} {F : β → β} (j : Fin n)
    (hP : ∀ i s, P s → P (f i s)) (hother : ∀ i s, i ≠ j → P s → g (f i s) = g s)
    (hj : ∀ s, P s → g (f j s) = F (g s)) {s : σ} (hs : P s) : g (each f s) = F (g s) := by
  rw [each, foldl_at j hP hother hj _ (List.nodup_finRange n) hs, if_pos (List.mem_finRange j)]

end Sys2Proof

namespace Sys2Proof.Machine

/-! ## The balance interval -/

theorem Hub.queueable.of_calm {h h' : Hub} (k : Calm h h') {e : MoveEntry} (he : h.queueable e) : h'.queueable e := by
  obtain ⟨ha, -, hq, hs, -⟩ := placing_fields (congrArg Outline.placing k.outline)
  refine ⟨(inService_of_hubState hs).trans he.service, ha ▸ he.assigned, hq ▸ he.absent⟩

theorem Calm.symm_queueable {h h' : Hub} (k : Calm h h') {e : MoveEntry} (he : h'.queueable e) : h.queueable e := by
  obtain ⟨ha, -, hq, hs, -⟩ := placing_fields (congrArg Outline.placing k.outline)
  refine ⟨(inService_of_hubState hs).symm.trans he.service, ha ▸ he.assigned, hq ▸ he.absent⟩

/-- The candidates of an interval may all join the queue, and no two are of one port (R116, R120). -/
structure Hub.candidates (h : Hub) (made : List MoveEntry) : Prop where
  queueable : ∀ e ∈ made, h.queueable e
  nodup : (made.map fun e => e.port).Nodup

theorem eligible_spec {h : Hub} {made : List MoveEntry} {p : PortId} (he : h.eligible made p = true) :
    (h.assignOf p).sole.isSome = true ∧ (∀ q ∈ h.sbl.queue, q.port ≠ p) ∧ ∀ e ∈ made, e.port ≠ p := by
  unfold Hub.eligible at he
  simp only [Bool.and_eq_true, Bool.not_eq_true', Hub.queued, List.any_eq_false, decide_eq_true_eq] at he
  obtain ⟨⟨⟨⟨⟨⟨⟨⟨hsole, -⟩, -⟩, -⟩, -⟩, -⟩, -⟩, hqueue⟩, hmade⟩ := he
  exact ⟨hsole, hqueue, hmade⟩

/-- An eligible port's candidate joins those made before it. -/
theorem Hub.candidates.append {h g : Hub} {made : List MoveEntry} (hc : h.candidates made) (k : Calm h g)
    (hs : h.inService = true) {e : MoveEntry} (he : g.eligible made e.port = true)
    (ha : g.assignOf e.port = .one e.source) : h.candidates (made ++ [e]) := by
  obtain ⟨-, hqueue, hother⟩ := eligible_spec he
  have hqe : h.queueable e := k.symm_queueable ⟨k.kept.inService.trans hs, ha, hqueue⟩
  refine ⟨fun x hx => ?_, ?_⟩
  · rcases List.mem_append.mp hx with hx | hx
    · exact hc.queueable x hx
    · exact List.mem_singleton.mp hx ▸ hqe
  · rw [List.map_append, List.nodup_append]
    refine ⟨hc.nodup, List.nodup_singleton _, fun a hx b hb => ?_⟩
    obtain ⟨x, hxm, rfl⟩ := List.mem_map.mp hx
    rw [List.map_singleton, List.mem_singleton] at hb
    exact hb ▸ hother x hxm

theorem calm_skip (h : Hub) (n : Nat) : Calm h (h.skip n) := ⟨rfl, id, rfl, rfl⟩

theorem calm_countCandidate (h : Hub) (e : MoveEntry) : Calm h (h.countCandidate e) := ⟨rfl, id, rfl, rfl⟩

theorem calm_takeLoads (h : Hub) : Calm h h.takeLoads := ⟨rfl, id, rfl, rfl⟩

/-- What an interval has made so far: nothing that the laws speak of, and candidates. -/
def Hub.balanced (h : Hub) (x : Hub × List MoveEntry) : Prop := Calm h x.1 ∧ h.candidates x.2

theorem ranked_spec {h : Hub} {made : List MoveEntry} {s : SectorId} {x : Nat} {p : PortId}
    (hp : p ∈ h.ranked made s x) : h.eligible made p = true ∧ h.assignOf p = .one s := by
  unfold Hub.ranked at hp
  simp only [List.mem_append, List.mem_insertionSort, List.mem_filter, Bool.and_eq_true, decide_eq_true_eq] at hp
  rcases hp with ⟨⟨-, ⟨he, ha⟩, -⟩, -⟩ | ⟨⟨-, ⟨he, ha⟩, -⟩, -⟩ <;> exact ⟨he, ha⟩

theorem overloadCandidate_spec {h : Hub} {made : List MoveEntry} {s : SectorId} {e : MoveEntry}
    (he : h.overloadCandidate made s = some e) :
    h.eligible made e.port = true ∧ h.assignOf e.port = .one e.source := by
  unfold Hub.overloadCandidate at he
  obtain ⟨p, hp, ht⟩ := List.exists_of_findSome?_eq_some he
  obtain ⟨t, -, rfl⟩ := Option.map_eq_some_iff.mp ht
  exact ranked_spec hp

theorem overloadTurn_balanced {h : Hub} (hs : h.inService = true) {x : Hub × List MoveEntry} (hx : h.balanced x)
    (s : SectorId) : h.balanced (overloadTurn x s) := by
  obtain ⟨k, hc⟩ := hx
  unfold overloadTurn
  split
  next e he =>
    obtain ⟨helig, ha⟩ := overloadCandidate_spec he
    exact ⟨k.trans (calm_countCandidate _ e), hc.append k hs helig ha⟩
  next => exact ⟨k.trans (calm_skip _ 1), hc⟩

/-- A port's turn in the return step sets its counter at most, and makes a candidate only where it is eligible (R118). -/
theorem returnTurn_cases (h : Hub) (made : List MoveEntry) (p : PortId) :
    returnTurn (h, made) p = (h, made)
    ∨ ∃ n, returnTurn (h, made) p = (h.onBal p fun b => { b with returns := n }, made)
      ∨ ∃ s, h.assignOf p = .one s ∧ (h.onBal p fun b => { b with returns := n }).eligible made p = true
        ∧ returnTurn (h, made) p = ((h.onBal p fun b => { b with returns := n }).countCandidate
            ⟨p, s, h.tables.home p, .returning⟩, made ++ [⟨p, s, h.tables.home p, .returning⟩]) := by
  unfold returnTurn
  dsimp only
  split
  · exact .inl rfl
  next s ha =>
    have hs : h.assignOf p = .one s := by
      revert ha
      cases h.assignOf p <;> simp [Assign.sole]
    split
    · exact .inl rfl
    · generalize (if (h.sbl.sectors[h.tables.home p]).workLoad + h.smoothed p
        ≤ h.eventTables.returnMark (h.tables.home p) then bump 15 h.sbl.ports[p].returns else 0) = n
      refine .inr ⟨n, ?_⟩
      split
      next hcand => exact .inr ⟨s, hs, hcand.2.1, rfl⟩
      next => exact .inl rfl

theorem returnTurn_balanced {h : Hub} (hs : h.inService = true) {x : Hub × List MoveEntry} (hx : h.balanced x)
    (p : PortId) : h.balanced (returnTurn x p) := by
  obtain ⟨g, made⟩ := x
  obtain ⟨k, hc⟩ := hx
  have hret (n : Nat) : Calm g (g.onBal p fun b => { b with returns := n }) := calm_onBal g p
  rcases returnTurn_cases g made p with ht | ⟨n, ht | ⟨s, ha, he, ht⟩⟩ <;> rw [ht]
  · exact ⟨k, hc⟩
  · exact ⟨k.trans (hret n), hc⟩
  · have hassign := congrFun (placing_fields (congrArg Outline.placing (hret n).outline)).1 p
    exact ⟨(k.trans (hret n)).trans (calm_countCandidate _ _),
      hc.append (k.trans (hret n)) hs he (hassign.trans ha)⟩

theorem assignOf_enqueue (h : Hub) (e : MoveEntry) (p : PortId) : (h.enqueue e).assignOf p = h.assignOf p :=
  (supervised_wakePort _ e.port .move).assign p

theorem queue_enqueue (h : Hub) (e : MoveEntry) : (h.enqueue e).sbl.queue = h.sbl.queue ++ [e] := by
  unfold Hub.enqueue
  rw [(supervised_wakePort _ _ _).sbl]

/-- The candidates join the queue in their order while it has room (R119). -/
theorem kept_disposeAll : ∀ (made : List MoveEntry) (h : Hub), h.candidates made →
    Kept h (made.foldl Hub.disposeAuto h)
  | [], h, _ => .same h
  | e :: made, h, hc => by
    obtain ⟨hqueueable, hnodup⟩ := hc
    obtain ⟨hfirst, hnodup⟩ := List.nodup_cons.mp hnodup
    have he := hqueueable e List.mem_cons_self
    have hrest (x : MoveEntry) (hx : x ∈ made) : h.queueable x := hqueueable x (List.mem_cons_of_mem _ hx)
    rw [List.foldl_cons]
    unfold Hub.disposeAuto
    split
    next => exact (calm_skip h 1).kept.trans (kept_disposeAll made _ ⟨fun x hx => (hrest x hx).of_calm (calm_skip h 1), hnodup⟩)
    next hroom =>
      have k := kept_enqueue h he (Nat.lt_of_not_le hroom)
      refine k.trans (kept_disposeAll made _ ⟨fun x hx => ?_, hnodup⟩)
      refine ⟨k.inService.trans (hrest x hx).service, (assignOf_enqueue h e _).trans (hrest x hx).assigned, fun q hq => ?_⟩
      rw [queue_enqueue] at hq
      rcases List.mem_append.mp hq with hq | hq
      · exact (hrest x hx).absent q hq
      · rw [List.mem_singleton.mp hq]
        exact fun heq => hfirst (List.mem_map.mpr ⟨x, hx, heq.symm⟩)

theorem kept_disposeAdvice (h : Hub) (made : List MoveEntry) : Kept h (h.disposeAdvice made) := by
  unfold Hub.disposeAdvice
  dsimp only
  have hadvice : Kept h { h with sbl := { h.sbl with advice := made.take 8, adviceStamp := h.mga.seconds } } :=
    .of_laws (.of_parts (lists := fun ⟨hr, hlog, hhist, _⟩ => ⟨hr, hlog, hhist, List.length_take_le 8 made⟩))
  have hskip := hadvice.trans (calm_skip _ (made.length - 8)).kept
  exact .ite _ (fun _ => hskip.trans (calm_raise _ _).kept) fun _ => hskip

theorem kept_balance (h : Hub) (hs : h.inService = true) : Kept h h.balance := by
  have hnone : h.balanced (h, []) := ⟨.same h, fun _ he => absurd he List.not_mem_nil, List.nodup_nil⟩
  have hover := foldl_keeps (P := h.balanced) (fun x s hx => overloadTurn_balanced hs hx s) h.overloadedSectors _ hnone
  have hx := foldl_keeps (P := h.balanced) (fun x p hx => returnTurn_balanced hs hx p) (List.finRange 24) _ hover
  unfold Hub.balance
  dsimp only
  generalize (List.finRange 24).foldl returnTurn (h.overloadedSectors.foldl overloadTurn (h, [])) = x at hx ⊢
  obtain ⟨g, made⟩ := x
  obtain ⟨k, hc⟩ := hx
  refine k.kept.trans ?_
  dsimp only
  split
  · exact .same g
  · exact kept_disposeAdvice g made
  · exact kept_disposeAll made g ⟨fun e he => (hc.queueable e he).of_calm k, hc.nodup⟩

theorem calm_quietTest (p : PortId) (h : Hub) : Calm h (h.quietTest p) := .ite _ (.same h) (calm_onBal h p)

theorem calm_lowerHoldOff (p : PortId) (h : Hub) : Calm h (h.lowerHoldOff p) := calm_onBal h p

theorem kept_balanceInterval (h : Hub) : Kept h h.balanceInterval := by
  unfold Hub.balanceInterval
  dsimp only
  refine .ite _ (fun hdue => ?_) fun _ => .same h
  have hloads : Calm h { h with sbl := { h.sbl with intervalDue := false } }.takeLoads :=
    .trans (b := { h with sbl := { h.sbl with intervalDue := false } }) ⟨rfl, id, rfl, rfl⟩ (calm_takeLoads _)
  have hbal := hloads.kept.trans (Kept.ite
    ({ h with sbl := { h.sbl with intervalDue := false } }.takeLoads.eventTables.mode = .off) (fun _ => .same _)
    fun _ => kept_balance _ (hloads.kept.inService.trans hdue.1))
  exact hbal.trans ((kept_each (fun p g => (calm_quietTest p g).kept) _).trans
    (kept_each (fun p g => (calm_lowerHoldOff p g).kept) _))

theorem calm_enterQuiet (h : Hub) (p : PortId) : Calm h (h.enterQuiet p) :=
  (calm_onBal h p).trans (calm_raise _ _)

theorem calm_quietEntry (p : PortId) (h : Hub) : Calm h (h.quietEntry p) := .ite _ (calm_enterQuiet h p) (.same h)

/-! ## Every port at home -/

/-- No move is queued or in flight, and every enabled port is at its home (R32, R133). -/
structure Hub.allHome (h : Hub) : Prop where
  queue : h.sbl.queue = []
  flight : h.sbl.flight = none
  assign : ∀ p, h.assignOf p = if h.tables.portOn p then .one (h.tables.home p) else .none

theorem Hub.allHome.moves {h : Hub} (hh : h.allHome) : h.movesLawful := by
  rw [movesLawful_iff]
  have hfly : h.flying = none := by simp [Hub.flying, hh.flight]
  rw [hh.queue, hfly]
  refine ⟨by simp, by simp, by simp, by simp, fun p s t hp => ?_, fun _ => ⟨rfl, rfl⟩⟩
  rw [hh.assign] at hp
  split at hp <;> cases hp

theorem crossCheck_members {t : Tables} (hc : crossCheck t = none) {s : SectorId} (hs : t.sectorOn s = true) :
    t.homeCount s ≤ t.maxMembers s := by
  unfold crossCheck at hc
  dsimp only at hc
  split at hc
  all_goals try cases hc
  next _ _ _ _ _ _ hcount _ =>
    have hs' := List.find?_eq_none.mp hcount s (List.mem_finRange s)
    simp [hs, inRange] at hs'
    exact hs'.2

/-- The counts of sectors are those that the cross checks admit (R30, R32). -/
theorem Hub.allHome.assignedCount {h : Hub} (hh : h.allHome) (s : SectorId) :
    h.assignedCount s = h.tables.homeCount s := by
  refine List.countP_congr fun p _ => ?_
  rw [hh.assign]
  cases h.tables.portOn p <;> simp [Assign.has]

theorem Hub.allHome.places {h : Hub} (hh : h.allHome) (hs : h.inService = true) (hc : crossCheck h.tables = none)
    (hsched : h.tld.scheduled = none) : h.placesLawful := by
  refine ⟨fun hs' => absurd (hs.symm.trans hs') (by decide), fun _ => ⟨fun p hp => ?_, fun p hp => ?_, fun s hs' => ?_,
    ?_, hc, fun id img hi => ?_⟩, fun _ _ => ⟨hsched, hc⟩⟩
  · rw [hh.assign, hp]
    rfl
  · exact .inl ⟨_, by rw [hh.assign, hp]; rfl⟩
  · rw [hh.assignedCount]
    exact crossCheck_members hc hs'
  · rw [hh.queue]
    exact fun e he => nomatch he
  · rw [hsched] at hi
    cases hi

theorem assignOf_eachPlaceHome (h : Hub) (p : PortId) : (each Hub.placeHome h).assignOf p =
    if h.tables.portOn p then .one (h.tables.home p) else .none := by
  refine each_at (f := Hub.placeHome) (g := fun k : Hub => k.assignOf p) (P := fun k : Hub => k.tables = h.tables)
    (F := fun _ => if h.tables.portOn p then Assign.one (h.tables.home p) else .none) p
    (fun i s hs => hs) (fun i s hne _ => ?_) (fun s hs => ?_) rfl
  · simp only [Hub.assignOf, Hub.placeHome, Hub.onBal_ports]
    rw [upd_get_other _ _ hne]
  · simp only [Hub.assignOf, Hub.placeHome, Hub.onBal_ports]
    rw [upd_get_same, hs]

/-- Placing the ports changes SBL's state of the ports alone. -/
theorem eachPlaceHome_frame (h : Hub) :
    ∃ v, each Hub.placeHome h = { h with sbl := { h.sbl with ports := v } } :=
  each_keeps (P := fun g : Hub => ∃ v, g = { h with sbl := { h.sbl with ports := v } })
    (fun p g ⟨v, hv⟩ => ⟨(Hub.placeHome p g).sbl.ports, by rw [hv]; rfl⟩) ⟨_, rfl⟩

theorem allHome_eachPlaceHome {h : Hub} (hq : h.sbl.queue = []) (hf : h.sbl.flight = none) :
    (each Hub.placeHome h).allHome := by
  have ha := assignOf_eachPlaceHome h
  obtain ⟨v, hv⟩ := eachPlaceHome_frame h
  rw [hv] at ha ⊢
  exact ⟨hq, hf, ha⟩

theorem lawful_eachPlaceHome {h : Hub} (hq : h.sbl.queue = []) (hf : h.sbl.flight = none) :
    LawfulUnplaced h (each Hub.placeHome h) := by
  have hm := (allHome_eachPlaceHome hq hf).moves
  obtain ⟨v, hv⟩ := eachPlaceHome_frame h
  rw [hv] at hm ⊢
  exact .of_parts (moves := fun _ => hm)

theorem Hub.allHome.of_placing {h h' : Hub} (hh : h.allHome) (hp : h'.outline.placing = h.outline.placing) :
    h'.allHome := by
  obtain ⟨ha, hf, hq, -, ht, -⟩ := placing_fields hp
  refine ⟨hq.trans hh.queue, ?_, fun p => ?_⟩
  · have hfly : h'.flying = none := hf.trans (by simp [Hub.flying, hh.flight])
    simpa [Hub.flying] using hfly
  · rw [ha, ht]
    exact hh.assign p

/-- What a rebuild of the membership makes of any hub (R32). -/
structure Hub.rebuilt (h h' : Hub) : Prop where
  laws : LawfulUnplaced h h'
  home : h'.allHome
  tables : h'.tables = h.tables
  scheduled : h'.tld.scheduled = h.tld.scheduled
  hubState : h'.mga.hubState = h.mga.hubState
  busy : h'.mga.busy = h.mga.busy
  frameNumber : h'.lnk.frameNumber = h.lnk.frameNumber
  isOpen : h'.bd.isOpen = h.bd.isOpen

theorem Hub.rebuilt.calm {h g g' : Hub} (k : h.rebuilt g) (c : Calm g g') : h.rebuilt g' where
  laws := k.laws.trans c.kept.laws.toLawfulUnplaced
  home := k.home.of_placing (congrArg Outline.placing c.outline)
  tables := (congrArg Outline.tables c.outline).trans k.tables
  scheduled := (congrArg Outline.scheduled c.outline).trans k.scheduled
  hubState := c.kept.hubState.trans k.hubState
  busy := c.busy.trans k.busy
  frameNumber := c.frameNumber.trans k.frameNumber
  isOpen := c.isOpen.trans k.isOpen

/-- What R32 does before it places the ports: no move is queued or in flight any more. -/
structure Hub.movesEnded (h h' : Hub) : Prop where
  kept : Kept h h'
  queue : h'.sbl.queue = []
  flight : h'.sbl.flight = none
  tables : h'.tables = h.tables
  scheduled : h'.tld.scheduled = h.tld.scheduled
  busy : h'.mga.busy = h.mga.busy

/-- The move in flight, if any, is abandoned by an activation (R32). -/
def Hub.landed (h : Hub) : Hub :=
  match h.sbl.flight with
  | some m => h.abandonMove m .abandonedActivation
  | none => h

theorem landed_spec (h : Hub) : Kept h h.landed ∧ h.landed.sbl.flight = none ∧ h.landed.tables = h.tables
    ∧ h.landed.tld.scheduled = h.tld.scheduled ∧ h.landed.mga.busy = h.mga.busy := by
  unfold Hub.landed
  split
  next m hf => exact ⟨kept_abandonMove h hf _, rfl, rfl, rfl, rfl⟩
  next hf => exact ⟨.same h, hf, rfl, rfl, rfl⟩

theorem movesEnded_logged {h g : Hub} (k : h.movesEnded g) (o : MoveOutcome) (es : List MoveEntry) :
    h.movesEnded (es.foldl (fun h e => h.logMove e o) g) :=
  foldl_keeps (P := h.movesEnded)
    (fun g e k => ⟨k.kept.trans (kept_logMove g e o), k.queue, k.flight, k.tables, k.scheduled, k.busy⟩) es g k

theorem movesEnded_emptied (h : Hub) : h.movesEnded { h.landed with sbl := { h.landed.sbl with queue := [] } } := by
  obtain ⟨k, hf, ht, hs, hb⟩ := landed_spec h
  exact ⟨k.trans (kept_shrinkQueue _ (List.nil_sublist _)), rfl, hf, ht, hs, hb⟩

theorem rebuilt_of_movesEnded {h g : Hub} (k : h.movesEnded g) : h.rebuilt (each Hub.placeHome g) := by
  have hlaws := k.kept.laws.toLawfulUnplaced.trans (lawful_eachPlaceHome k.queue k.flight)
  have hhome := allHome_eachPlaceHome k.queue k.flight
  obtain ⟨v, hv⟩ := eachPlaceHome_frame g
  rw [hv] at hlaws hhome ⊢
  exact ⟨hlaws, hhome, k.tables, k.scheduled, k.kept.hubState, k.busy, k.kept.frameNumber, k.kept.isOpen⟩

theorem Hub.rebuilt.dropAdvice {h g : Hub} (k : h.rebuilt g) :
    h.rebuilt { g with sbl := { g.sbl with advice := [] } } where
  laws := k.laws.trans (.of_parts (lists := fun ⟨hr, hlog, hhist, _⟩ => ⟨hr, hlog, hhist, Nat.zero_le 8⟩))
  home := k.home.of_placing rfl
  tables := k.tables
  scheduled := k.scheduled
  hubState := k.hubState
  busy := k.busy
  frameNumber := k.frameNumber
  isOpen := k.isOpen

theorem rebuild_rebuilt (h : Hub) : h.rebuilt h.rebuild := by
  have hhome := rebuilt_of_movesEnded
    (movesEnded_logged (movesEnded_emptied h) .cancelledActivation h.landed.sbl.queue)
  unfold Hub.rebuild
  refine Hub.rebuilt.calm ?_ (calm_each (fun p k => .ite _ (.same k) (calm_wakePort k p .table)) _)
  refine Hub.rebuilt.dropAdvice ?_
  refine Hub.rebuilt.calm ?_ (calm_each (fun p k => calm_onBal k p) _)
  exact hhome

/-! ## Activations -/

theorem kept_enablePort (p : PortId) (h : Hub) : Kept h (h.enablePort p) := by
  unfold Hub.enablePort
  refine .trans ?_ ((calm_newIdentify _ p).trans (calm_onCte _ p _)).kept
  refine .trans ?_ ((calm_resetRecords _ p false).trans (calm_onCte _ p _)).kept
  refine .trans (.trans ?_ (kept_onMeter _ p ?loop)) (calm_onBal _ p).kept
  refine .trans (.trans (.trans ?_ (kept_clearLimiter _ p true)) (kept_zeroLines _ p)) (calm_closeGates _ p).kept
  refine .trans (kept_takePortDue p h) (kept_onRemote _ p ?stop)
  case loop => exact fun _ hm => absurd rfl hm
  case stop => exact fun _ _ hr => absurd hr Bool.false_ne_true

theorem kept_disablePort (p : PortId) (h : Hub) : Kept h (h.disablePort p) := by
  unfold Hub.disablePort
  refine .trans ?_ (calm_resetRecords _ p true).kept
  refine .trans (.trans ?_ (kept_onMeter _ p ?loop)) (calm_onBal _ p).kept
  refine .trans (.trans (.trans ?_ (kept_onRemote _ p ?stop)) (kept_clearLimiter _ p true)) (calm_closeGates _ p).kept
  case loop => exact fun _ hm => hm
  case stop => exact fun _ _ hr ho => ⟨hr, ho⟩
  exact (kept_takePortDue p h).trans (.ite _ (fun _ => kept_exitRemote _ p LinkCore.disable false)
    fun _ => (calm_onCore_remote _ p _).kept)

theorem calm_keepPort (old : Tables) (p : PortId) (h : Hub) : Calm h (h.keepPort old p) := by
  refine calm_onPlm h p fun m b => ?_
  dsimp only
  rw [tab_get]
  split <;> rfl

theorem kept_portActivated (old : Tables) (p : PortId) (h : Hub) : Kept h (h.portActivated old p) := by
  unfold Hub.portActivated
  split
  · exact kept_enablePort p h
  · exact kept_disablePort p h
  · exact (calm_keepPort old p h).kept
  · exact .same h

theorem kept_siteActivated (old : Tables) (h : Hub) : Kept h (h.siteActivated old) := by
  unfold Hub.siteActivated
  dsimp only
  have hinterval (g : Hub) : Calm g { g with sbl := { g.sbl with intervalCount := 0 } } := ⟨rfl, id, rfl, rfl⟩
  have hwindow : Kept h (if old.windowCode ≠ h.tables.windowCode then h.restartWindow else h) :=
    .ite _ (fun _ => kept_restartWindow h) fun _ => .same h
  generalize (if old.windowCode ≠ h.tables.windowCode then h.restartWindow else h) = g at hwindow ⊢
  have hboth := hwindow.trans (.ite (old.interval ≠ h.tables.interval) (fun _ => (hinterval g).kept) fun _ => .same g)
  exact .ite _ (fun _ => hboth.trans (calm_cte _ _).kept) fun _ => hboth

theorem calm_carrierActivated (h : Hub) : Calm h h.carrierActivated := ⟨rfl, id, rfl, rfl⟩

theorem calm_portCarried (wasIdle : Vector Bool 24) (old : Vector ActionSet 24) (p : PortId) (h : Hub) :
    Calm h (h.portCarried wasIdle old p) := by
  unfold Hub.portCarried
  dsimp only
  exact .trans (.ite _ (calm_newIdentify h p) (.same h)) (calm_actionsEntered _ p _)

theorem calm_responseActivated (old : Vector ActionSet 24) (h : Hub) : Calm h (h.responseActivated old) := by
  unfold Hub.responseActivated
  exact .trans (calm_fsv h) (calm_each (calm_portCarried _ old) _)

/-- An image that is installed changes the tables, of which the laws of places alone speak. -/
theorem installImage_unplaced (h : Hub) (id : TableId) (img : List Byte) : LawfulUnplaced h (h.installImage id img) := by
  refine .of_parts (moves := fun hl => ?_)
  rw [movesLawful_iff] at hl ⊢
  exact hl

/-- Where no port's place rests on the table, its image may be replaced; in SERVICE it passes the cross checks (R30). -/
theorem installImage_places {h : Hub} {id : TableId} {img : List Byte} (hsch : h.tld.scheduled = some (id, img))
    (hid : h.inService = false ∨ id = .site ∨ id = .carrier ∨ id = .response) (hl : h.placesLawful) :
    (h.installImage id img).placesLawful := by
  obtain ⟨hconfig, hservice, hwaits⟩ := hl
  refine ⟨hconfig, fun hs => ?_, fun tag hb => ?_⟩
  · obtain ⟨hoff, hon, hcount, hqueue, -, hcross⟩ := hservice hs
    rcases hid with hs' | rfl | rfl | rfl
    · exact absurd (hs'.symm.trans hs) (by decide)
    all_goals exact ⟨hoff, hon, hcount, hqueue, hcross _ _ hsch, fun _ _ hn => nomatch hn⟩
  · rw [(hwaits tag hb).1] at hsch
    cases hsch

theorem kept_installImage {h : Hub} {id : TableId} {img : List Byte} (hsch : h.tld.scheduled = some (id, img))
    (hid : h.inService = false ∨ id = .site ∨ id = .carrier ∨ id = .response) : Kept h (h.installImage id img) :=
  .of_laws ⟨installImage_unplaced h id img, fun _ => installImage_places hsch hid⟩

/-- In SERVICE the membership is rebuilt under the tables that the cross checks have passed (R30, R32). -/
theorem kept_installRebuild {h : Hub} {id : TableId} {img : List Byte} (hsch : h.tld.scheduled = some (id, img))
    (hs : h.inService = true) : Kept h (h.installImage id img).rebuild := by
  have k := rebuild_rebuilt (h.installImage id img)
  refine .of_laws ⟨(installImage_unplaced h id img).trans k.laws, fun _ hl => ?_⟩ k.frameNumber k.isOpen k.hubState k.busy
  obtain ⟨-, hservice, -⟩ := hl
  obtain ⟨-, -, -, -, -, hcross⟩ := hservice hs
  refine k.home.places ((inService_of_hubState k.hubState).trans hs) ?_ k.scheduled
  rw [k.tables]
  exact hcross _ _ hsch

theorem kept_tableActivation (h : Hub) : Kept h h.tableActivation := by
  unfold Hub.tableActivation
  split
  · exact .same h
  next id img hsch =>
    refine .ite _ (fun _ => ?_) fun _ => .same h
    have hstate : (h.installImage id img).inService = h.inService := rfl
    have hport (g : Hub) : Kept g (each (Hub.portActivated h.tables) g) := kept_each (kept_portActivated h.tables) g
    have hother (hid : h.inService = false ∨ id = .site ∨ id = .carrier ∨ id = .response) :=
      kept_installImage hsch hid
    unfold Hub.activated
    cases id with
    | site => exact (hother (.inr (.inl rfl))).trans (kept_siteActivated _ _)
    | carrier => exact (hother (.inr (.inr (.inl rfl)))).trans (calm_carrierActivated _).kept
    | response => exact (hother (.inr (.inr (.inr rfl)))).trans (calm_responseActivated _ _).kept
    | sector =>
      refine .ite _ (fun hs => kept_installRebuild hsch hs) fun hs => hother (.inl ?_)
      exact Bool.eq_false_iff.mpr hs
    | port =>
      refine .trans (.ite _ (fun hs => kept_installRebuild hsch hs) fun hs => hother (.inl ?_)) (hport _)
      exact Bool.eq_false_iff.mpr hs

end Sys2Proof.Machine
end

section
/-! The effects of requests and the entries to CONFIG and SERVICE keep the laws of every frame. -/

namespace Sys2Proof.Machine

/-! ## PORT_RESET -/

/-- The places that R134 allows a port: none where it is disabled, a sector with room, or the one it has. -/
def Hub.placeable (h : Hub) (p : PortId) (a : Assign) : Prop :=
  (a = .none ∧ h.tables.portOn p = false)
  ∨ (∃ s, a = .one s ∧ h.tables.portOn p = true ∧ h.countWithout p s < h.tables.maxMembers s)
  ∨ a = h.assignOf p

/-- A port that is neither queued nor in flight is placed anew. -/
theorem kept_place (h : Hub) {p : PortId} {a : Assign} (hs : h.inService = true) (ha : h.placeable p a)
    (hq : ∀ e ∈ h.sbl.queue, e.port ≠ p) (hf : ∀ x, h.flying = some x → x.port ≠ p) :
    Kept h (h.onBal p fun b => { b with assign := a }) := by
  have hassign (q : PortId) : (h.onBal p fun b => { b with assign := a }).assignOf q
      = if p = q then a else h.assignOf q := by
    unfold Hub.assignOf
    rw [Hub.onBal_ports, upd_get]
    split <;> rfl
  have hother (q : PortId) (hq : q ≠ p) : (h.onBal p fun b => { b with assign := a }).assignOf q = h.assignOf q := by
    rw [hassign, if_neg hq.symm]
  refine .of_laws (.of_parts (moves := fun hm => ?_) (places := fun hm hp => ?_))
  · rw [movesLawful_iff] at hm ⊢
    obtain ⟨hlen, hnodup, hqueue, hflight, htwo, hconfig⟩ := hm
    refine ⟨hlen, hnodup, hqueue, fun x hx => (hother _ (hf x hx)).trans (hflight x hx), fun q s t hqa => ?_, hconfig⟩
    rw [hassign] at hqa
    split at hqa
    next hpq =>
      rcases ha with ⟨rfl, -⟩ | ⟨z, rfl, -⟩ | rfl
      · cases hqa
      · cases hqa
      · exact htwo q s t (hpq ▸ hqa)
    next => exact htwo q s t hqa
  · rw [movesLawful_iff] at hm
    obtain ⟨-, -, -, hflight, -, -⟩ := hm
    obtain ⟨-, hservice, hwaits⟩ := hp
    obtain ⟨hoff, hon, hcount, hqueue, hcross⟩ := hservice hs
    refine ⟨fun hs' => absurd (hs.symm.trans hs') (by decide), fun _ => ⟨fun q hq' => ?_, fun q hq' => ?_,
      fun s hs' => ?_, fun e he => (hother _ (hq e he)).trans (hqueue e he), hcross⟩, hwaits⟩
    · rw [hassign]
      split
      next hpq =>
        subst hpq
        rcases ha with ⟨rfl, -⟩ | ⟨z, -, hon', -⟩ | rfl
        · rfl
        · exact absurd (hq'.symm.trans hon') (by decide)
        · exact hoff p hq'
      next => exact hoff q hq'
    · rw [hassign]
      split
      next hpq =>
        subst hpq
        rcases ha with ⟨-, hoff'⟩ | ⟨z, rfl, -⟩ | rfl
        · exact absurd (hq'.symm.trans hoff') (by decide)
        · exact .inl ⟨z, rfl⟩
        · exact hon p hq'
      next => exact hon q hq'
    · have hless (hle : a.has s = true → (h.assignOf p).has s = true) :
          (h.onBal p fun b => { b with assign := a }).assignedCount s ≤ h.tables.maxMembers s := by
        refine (assignedCount_le fun q hq' => ?_).trans (hcount s hs')
        rw [hassign] at hq'
        split at hq'
        next hpq => exact hpq ▸ hle hq'
        next => exact hq'
      rcases ha with ⟨rfl, -⟩ | ⟨z, rfl, -, hroom⟩ | rfl
      · exact hless fun hh => absurd hh (by simp [Assign.has])
      · by_cases hzs : z = s
        · subst hzs
          refine (assignedCount_le_succ p fun q hqp hq' => ?_).trans (Nat.succ_le_of_lt hroom)
          rwa [hother q hqp] at hq'
        · exact hless fun hh => absurd (by simpa [Assign.has, eq_comm] using hh) hzs
      · exact hless id

theorem resetPlace_placeable (h : Hub) (p : PortId) {ramped : Option SectorId}
    (hr : ∀ s, ramped = some s → h.assignOf p = .one s) : h.placeable p (h.resetPlace p ramped) := by
  unfold Hub.resetPlace
  dsimp only
  by_cases hon : h.tables.portOn p = true
  · rw [if_neg (by simp [hon])]
    split
    next hroom => exact .inr (.inl ⟨_, rfl, hon, hroom⟩)
    next =>
      split
      next s => exact .inr (.inr (hr s rfl).symm)
      next => exact .inr (.inr rfl)
  · rw [if_pos (by simp [hon])]
    exact .inl ⟨rfl, by simpa using hon⟩

/-- The entry of port `p`, if any, is removed from the queue and logged (R134 step 1). -/
def Hub.unqueued (h : Hub) (p : PortId) : Hub :=
  match h.sbl.queue.find? fun e => e.port = p with
  | some e => (h.dropEntry p).logMove e .cancelledReset
  | none => h.dropEntry p

theorem unqueued_spec (h : Hub) (p : PortId) :
    Kept h (h.unqueued p) ∧ ∀ e ∈ (h.unqueued p).sbl.queue, e.port ≠ p := by
  have hdrop : Kept h (h.dropEntry p) := kept_shrinkQueue h List.filter_sublist
  have hgone : ∀ e ∈ (h.dropEntry p).sbl.queue, e.port ≠ p := fun e he => by
    simpa using (List.mem_filter.mp he).2
  unfold Hub.unqueued
  split
  · exact ⟨hdrop.trans (kept_logMove _ _ _), hgone⟩
  · exact ⟨hdrop, hgone⟩

/-- The move of port `p`, if it is in flight, is abandoned (R134 step 2). -/
def Hub.unramped (h : Hub) (p : PortId) : Hub :=
  match h.flightOf p with
  | some m => h.abandonMove m .abandonedReset
  | none => h

theorem unramped_spec (h : Hub) (p : PortId) :
    Kept h (h.unramped p) ∧ (h.unramped p).sbl.queue = h.sbl.queue
    ∧ (∀ x, (h.unramped p).flying = some x → x.port ≠ p)
    ∧ ∀ s, (h.flightOf p).map (fun m => m.entry.source) = some s → (h.unramped p).assignOf p = .one s := by
  unfold Hub.unramped
  split
  next m hm =>
    obtain ⟨hf, hport⟩ := Option.filter_eq_some_iff.mp hm
    obtain ⟨hnone, hland, -⟩ := abandonMove_spec h m .abandonedReset
    replace hport : m.entry.port = p := by simpa using hport
    refine ⟨kept_abandonMove h hf _, rfl, fun x hx => ?_, fun s hs => ?_⟩
    · simp [Hub.flying, hnone] at hx
    · rw [hm] at hs
      cases hs
      exact hport ▸ hland
  next hm =>
    refine ⟨.same h, rfl, fun x hx hxp => ?_, fun s hs => ?_⟩
    · have hsome := flightOf_isSome.mpr ⟨x, hx, hxp⟩
      rw [hm] at hsome
      cases hsome
    · rw [hm] at hs
      cases hs

theorem balanceReset_service {h : Hub} (hs : h.inService = true) (p : PortId) :
    ∃ g : Hub, g = (h.onBal p fun b => { b with holdOff := 0, returns := 0 }).unqueued p
      ∧ ∃ k : Hub, k = (g.unramped p).onBal p (fun b => { b with
          assign := (g.unramped p).resetPlace p ((g.flightOf p).map fun m => m.entry.source) })
      ∧ h.balanceReset p = if k.isQuiet p then k.wakePort p .reset else k.onBal p fun b => { b with quietCount := 0 } := by
  refine ⟨_, rfl, _, rfl, ?_⟩
  have hs' : (h.onBal p fun b => { b with holdOff := 0, returns := 0 }).inService = true := hs
  rw [Hub.balanceReset, if_neg (by simp [hs'])]
  rfl

/-- SBL's part of PORT_RESET (R134). -/
theorem kept_balanceReset (h : Hub) (p : PortId) : Kept h (h.balanceReset p) := by
  by_cases hs : h.inService = true
  · obtain ⟨g, hg, k, hk, he⟩ := balanceReset_service hs p
    obtain ⟨kg, hqueue⟩ := unqueued_spec (h.onBal p fun b => { b with holdOff := 0, returns := 0 }) p
    rw [← hg] at kg hqueue
    obtain ⟨ku, hsame, hfly, hland⟩ := unramped_spec g p
    have kgu : Kept h (g.unramped p) := (calm_onBal h p).kept.trans (kg.trans ku)
    have kk : Kept h k := by
      rw [hk]
      exact kgu.trans (kept_place _ (kgu.inService.trans hs) (resetPlace_placeable _ p hland)
        (fun e he => hqueue e (hsame ▸ he)) hfly)
    rw [he]
    exact kk.trans (.ite _ (fun _ => (calm_wakePort k p _).kept) fun _ => (calm_onBal k p).kept)
  · have hs' : (h.onBal p fun b => { b with holdOff := 0, returns := 0 }).inService ≠ true := hs
    rw [Hub.balanceReset, if_pos (by simpa using hs')]
    exact ((calm_onBal h p).trans (calm_onBal _ p)).kept

theorem kept_linkReset (h : Hub) (p : PortId) : Kept h (h.linkReset p) := by
  unfold Hub.linkReset
  refine .trans (.ite _ (fun _ => kept_exitRemote h p LinkCore.enterDown false) fun _ =>
    .ite _ (fun _ => (calm_onCore_remote h p _).kept) fun _ => .same h) (kept_onRemote _ p ?stop)
  case stop => exact fun _ _ hr => absurd hr Bool.false_ne_true

theorem calm_clearClips (h : Hub) (p : PortId) :
    Calm h { h with dlc := { h.dlc with clips := upd h.dlc.clips p fun _ => .replicate 4 0 } } := ⟨rfl, id, rfl, rfl⟩

theorem kept_resetPort (h : Hub) (p : PortId) : Kept h (h.resetPort p) := by
  unfold Hub.resetPort
  refine .trans ?_ ((calm_newIdentify _ p).trans (calm_onCte _ p _)).kept
  refine .trans ?_ ((calm_resetRecords _ p false).trans (calm_cteExit _ p)).kept
  refine .trans (.trans (.trans ?_ (kept_onEq _ p ?law ?full)) (calm_closeGates _ p).kept) (kept_onMeter _ p ?loop)
  refine .trans ?_ (kept_clearLimiter _ p false)
  refine .trans ?_ ((calm_clearClips _ p).trans (calm_setCombining _ p false)).kept
  exact (kept_takePortDue p h).trans ((kept_balanceReset _ p).trans (kept_linkReset _ p))
  case law => exact fun _ _ he => he
  case full => exact fun _ _ => ⟨zeroLine_length, zeroLine_length⟩
  case loop => exact fun _ hm => absurd rfl hm

/-- What a request does whose effect has come leaves the one response of the agent to be given. -/
theorem Kept.answers_waiting {h g : Hub} (k : Kept h g) {b : Busy} (hb : h.mga.busy = some b) (hw : b.waits = true)
    (hr : b ≠ .restart) (ha : h.answersBounded) : g.owesOne :=
  (k.laws.answers ha).owesOne (k.waits ha b hb hw) hr (fun _ he => by rw [he] at hw; cases hw)
    (fun _ he => by rw [he] at hw; cases hw)

theorem within_portResetEffect (h : Hub) : Within h h.portResetEffect := by
  unfold Hub.portResetEffect
  split
  next tag p hb =>
    dsimp only
    have k := kept_resetPort h p
    generalize h.resetPort p = g at k ⊢
    split
    · exact k.toWithin.answered (k.answers_waiting hb rfl nofun) tag .ok 0 _
    · exact .same h
  · exact .same h

theorem calm_shiftCarriers (h : Hub) (o : OperatorId) (a b : CarrierState) : Calm h (h.shiftCarriers o a b) :=
  ⟨rfl, id, rfl, rfl⟩

theorem within_holdEffect (h : Hub) : Within h h.holdEffect := by
  unfold Hub.holdEffect
  split
  next tag o hb =>
    have k := (calm_shiftCarriers h o .active .held).kept
    dsimp only
    split
    · exact k.toWithin.answered (k.answers_waiting hb rfl nofun) tag .ok 0 _
    · exact .same h
  · exact .same h

theorem within_releaseEffect (h : Hub) : Within h h.releaseEffect := by
  unfold Hub.releaseEffect
  split
  next tag o hb =>
    have k := (calm_shiftCarriers h o .held .active).kept
    dsimp only
    split
    · exact k.toWithin.answered (k.answers_waiting hb rfl nofun) tag .ok 0 _
    · exact .same h
  · exact .same h

/-! ## The entry to SERVICE -/

/-- Every port's turn changes SBL's state of the ports alone, and not where they are assigned. -/
theorem eachOnBal_frame (h : Hub) {f : PortBalance → PortBalance} (hf : ∀ b, (f b).assign = b.assign) :
    ∃ v, each (fun p g => g.onBal p f) h = { h with sbl := { h.sbl with ports := v } }
      ∧ ∀ p : PortId, v[p].assign = h.assignOf p := by
  refine each_keeps (P := fun g : Hub => ∃ v, g = { h with sbl := { h.sbl with ports := v } }
    ∧ ∀ p : PortId, v[p].assign = h.assignOf p) (fun p g ⟨v, hg, hv⟩ => ?_) ⟨_, rfl, fun _ => rfl⟩
  refine ⟨upd v p f, by rw [hg]; rfl, fun q => ?_⟩
  rw [upd_get]
  split
  · exact (hf _).trans (hv q)
  · exact hv q

/-- SBL's part of ENTER_SERVICE (R133) leaves every enabled port at its home, and no move. -/
theorem balanceService_frame (h : Hub) :
    ∃ b, h.balanceService = { h with sbl := b } ∧ b.log = [] ∧ b.advice = [] ∧ h.balanceService.allHome := by
  have hassign := assignOf_eachPlaceHome h
  unfold Hub.balanceService
  dsimp only
  obtain ⟨v, hv⟩ := eachPlaceHome_frame h
  rw [hv] at hassign ⊢
  obtain ⟨w, hw, hsame⟩ := eachOnBal_frame { h with sbl := { h.sbl with ports := v } }
    (f := fun b => { b with holdOff := 0, returns := 0, quiet := false, quietCount := 0, wakeCause := .none,
                            quietDue := false }) fun _ => rfl
  rw [hw]
  exact ⟨_, rfl, rfl, rfl, rfl, rfl, fun p => (hsame p).trans (hassign p)⟩

/-- The hub with its state set to SERVICE. -/
def Hub.asService (h : Hub) : Hub :=
  { h with mga := { h.mga with hubState := .service }, bd := { h.bd with serviceBegun := true } }

/-- The hub is in SERVICE with its ports at home (R133); the waiting ENTER_SERVICE has passed the cross checks (R168). -/
theorem lawful_balanceService {h : Hub} {tag : Byte} (hb : h.mga.busy = some (.enterService tag)) :
    Lawful h h.asService.balanceService := by
  obtain ⟨b, he, hlog, hadv, hhome⟩ := balanceService_frame h.asService
  have hmoves := hhome.moves
  have hplaces := hhome.places
  rw [he] at hmoves hplaces ⊢
  refine .of_parts (moves := fun _ => hmoves) (places := fun _ ⟨_, _, hwaits⟩ => ?_)
    (lists := fun ⟨hr, _, hh, _⟩ => ⟨hr, ?_, hh, ?_⟩)
  · obtain ⟨hsched, hcross⟩ := hwaits tag hb
    exact hplaces rfl hcross hsched
  · exact hlog ▸ Nat.zero_le 16
  · exact hadv ▸ Nat.zero_le 8

theorem balanceService_mga (h : Hub) : h.balanceService.mga = h.mga ∧ h.balanceService.lnk = h.lnk
    ∧ h.balanceService.bd = h.bd := by
  obtain ⟨b, he, -⟩ := balanceService_frame h
  rw [he]
  exact ⟨rfl, rfl, rfl⟩

theorem kept_fullFactor (h : Hub) : Kept h { h with plm := mapTab PortLimiter.fullFactor h.plm } :=
  kept_plm h fun _ p b => by
    rw [mapTab_get]
    simp [PortLimiter.fullFactor]

/-- What ENTER_SERVICE starts in LVM and PLM (R109, R65). -/
def Hub.serviceStarted (h : Hub) : Hub :=
  let h := { h with lvm := { h.lvm with ports := mapTab (fun m : PortMeter => { m with smoothed := 0 }) h.lvm.ports } }
  let h := h.restartWindow
  { h with plm := mapTab PortLimiter.fullFactor h.plm }

theorem kept_serviceStarted (h : Hub) : Kept h h.serviceStarted :=
  (calm_lvm h fun q => by rw [mapTab_get]).kept.trans ((kept_restartWindow _).trans (kept_fullFactor _))

theorem enterService_eq (h : Hub) : h.enterService = h.asService.balanceService.serviceStarted := rfl

/-- The entry to SERVICE keeps the laws, and its response is all that was owed. -/
theorem steady_serviceEntry (h : Hub) : Steady h h.serviceEntry := by
  unfold Hub.serviceEntry
  split
  next tag hb =>
    split
    · have kl := lawful_balanceService hb
      obtain ⟨hmga, hlnk, hbd⟩ := balanceService_mga h.asService
      have ks := kept_serviceStarted h.asService.balanceService
      have hnumber := ks.frameNumber.trans (congrArg Lnk.frameNumber hlnk)
      have hopen := ks.isOpen.trans (congrArg Boundary.isOpen hbd)
      have howes := fun ha => ks.answers_waiting ((congrArg Mga.busy hmga).trans hb) rfl nofun (kl.answers ha)
      have klaws := kl.trans ks.laws
      rw [enterService_eq]
      generalize h.asService.balanceService.serviceStarted = g at hnumber hopen howes klaws ⊢
      exact ⟨klaws.answered howes tag .ok 0 [], hnumber, hopen⟩
    · exact .same h
  · exact .same h

/-- The hub state stands but for a waiting ENTER_SERVICE, which leads to SERVICE (R168). -/
theorem serviceEntry_hubState (h : Hub) :
    (h.serviceEntry.mga.hubState = h.mga.hubState ∧ h.serviceEntry.mga.busy = h.mga.busy)
    ∨ (∃ tag, h.mga.busy = some (.enterService tag)) ∧ h.serviceEntry.mga.hubState = .service
      ∧ h.serviceEntry.mga.busy = none := by
  unfold Hub.serviceEntry
  split
  next tag hb =>
    split
    · obtain ⟨hmga, -⟩ := balanceService_mga h.asService
      have ks := kept_serviceStarted h.asService.balanceService
      have hstate := ks.hubState.trans (congrArg Mga.hubState hmga)
      rw [enterService_eq]
      generalize h.asService.balanceService.serviceStarted = g at hstate ⊢
      exact .inr ⟨⟨tag, hb⟩, hstate, rfl⟩
    · exact .inl ⟨rfl, rfl⟩
  · exact .inl ⟨rfl, rfl⟩

/-! ## Entries to CONFIG -/

/-- The blocks that the laws of every frame speak of, but for the links, in their power-on state. -/
structure Hub.fresh (h : Hub) : Prop where
  plm : h.plm = .replicate 24 .init
  deq : h.deq = .init
  lvm : h.lvm = .init
  sbl : h.sbl = .init
  history : h.fsv.history = []
  hubState : h.mga.hubState = .config
  requests : h.mga.requests = []
  busy : h.mga.busy = none
  measuring : ∀ p : PortId, h.lnk.remote[p].meas.running = false
  scheduled : h.tld.scheduled = none

section Fresh
variable {h : Hub} (hf : h.fresh)
include hf

theorem Hub.fresh.factorsInRange : h.factorsInRange := by
  intro p b
  simp [hf.plm, PortLimiter.init, LaneLimiter.init]

theorem Hub.fresh.equalized : h.equalized := by
  intro p
  have hp : h.deq.ports[p] = .init := by simp [hf.deq, Deq.init]
  rw [hp]
  simp [PortEq.lawful, PortEq.init]

theorem Hub.fresh.linesFull : h.linesFull := by
  intro p
  have hp : h.deq.ports[p] = .init := by simp [hf.deq, Deq.init]
  rw [hp]
  exact ⟨zeroLine_length, zeroLine_length⟩

theorem Hub.fresh.assignOf (p : PortId) : h.assignOf p = .none := by
  simp [Hub.assignOf, hf.sbl, Sbl.init, PortBalance.init]

theorem Hub.fresh.inService : h.inService = false := by simp [Hub.inService, hf.hubState]

theorem Hub.fresh.movesLawful : h.movesLawful := by
  have ha := hf.assignOf
  unfold Hub.movesLawful
  simp [ha, hf.sbl, Sbl.init]

theorem Hub.fresh.placesLawful : h.placesLawful :=
  ⟨fun _ => hf.assignOf, fun hs => absurd (hf.inService.symm.trans hs) (by decide),
    fun _ hb => nomatch hf.busy.symm.trans hb⟩

theorem Hub.fresh.listsBounded : h.listsBounded := by simp [Hub.listsBounded, hf.requests, hf.sbl, hf.history, Sbl.init]

theorem Hub.fresh.answersBounded (hr : h.mga.responses.length ≤ 8) : h.answersBounded := by
  refine ⟨?_, fun p hp => absurd ?_ hp, fun p t hr => absurd ((hf.measuring p).symm.trans hr) (by decide)⟩
  · simpa [Mga.owed, hf.busy] using hr
  · simp [hf.lvm, Lvm.init, PortMeter.init]

end Fresh

theorem Hub.fresh.lawful {h g : Hub} (hf : g.fresh) (hr : h.answersBounded → g.mga.responses.length ≤ 8)
    (hl : g.linksLegal) : Lawful h g where
  factors _ := hf.factorsInRange
  equalized _ := hf.equalized
  lines _ := hf.linesFull
  moves _ := hf.movesLawful
  places _ _ := hf.placesLawful
  lists _ := hf.listsBounded
  answers ha := hf.answersBounded (hr ha)
  links _ := hl

theorem LinkCore.start_ofDonor (c : LinkCore) : (c.start true).state.ofDonor := by
  unfold LinkCore.start LinkCore.init
  simp only [Bool.not_true, Bool.false_eq_true, if_false]
  split
  · exact .inr (.inl rfl)
  · exact .inl rfl

theorem fresh_powerOn (h : Hub) : h.powerOn.fresh where
  plm := rfl
  deq := rfl
  lvm := rfl
  sbl := rfl
  history := rfl
  hubState := rfl
  requests := rfl
  busy := rfl
  measuring p := by
    change (tab fun p => RemoteLink.init .disabled h.lnk.remote[p].core.signal)[p].meas.running = false
    rw [tab_get]
    rfl
  scheduled := rfl

theorem lawful_powerOn (h : Hub) : Lawful h h.powerOn := by
  refine (fresh_powerOn h).lawful (fun _ => Nat.zero_le 8) ⟨fun d => ?_, LinkCore.start_ofDonor _⟩
  change ((mapTab (LinkCore.start true) h.lnk.donor)[d].state).ofDonor
  rw [mapTab_get]
  exact LinkCore.start_ofDonor _

/-- The hub at a RESTART, before its carriers are judged and LOAD is raised. -/
theorem fresh_restart (h : Hub) : h.restart.fresh := by
  have hmeas (p : PortId) : (h.lnk.restart h.tables).remote[p].meas.running = false := by
    rw [Lnk.restart, tab_get]
    rfl
  unfold Hub.restart
  dsimp only
  split <;> exact ⟨rfl, rfl, rfl, rfl, rfl, rfl, rfl, rfl, hmeas, rfl⟩

theorem restart_frame (h : Hub) : h.restart.lnk = h.lnk.restart h.tables ∧ h.restart.bd.isOpen = h.bd.isOpen
    ∧ h.restart.mga.responses = h.mga.responses := by
  unfold Hub.restart
  dsimp only
  split <;> exact ⟨rfl, rfl, rfl⟩

theorem steady_restart (h : Hub) : Steady h h.restart := by
  obtain ⟨hlnk, hopen, hresp⟩ := restart_frame h
  refine ⟨(fresh_restart h).lawful (fun ⟨hlen, _⟩ => ?_) ⟨fun d => ?_, ?_⟩, by rw [hlnk]; rfl, hopen⟩
  · rw [hresp]
    exact (Nat.le_add_right _ _).trans hlen
  · rw [hlnk, Lnk.restart, mapTab_get]
    exact LinkCore.start_ofDonor _
  · rw [hlnk]
    exact LinkCore.start_ofDonor _

theorem steady_restartEffect (h : Hub) : Steady h h.restartEffect := by
  unfold Hub.restartEffect
  split
  · exact .ite _ (fun _ => steady_restart h) fun _ => .same h
  · exact .same h

/-- The hub state stands but for a waiting RESTART, which leads to CONFIG (R173). -/
theorem restartEffect_hubState (h : Hub) :
    h.restartEffect.mga.hubState = h.mga.hubState
    ∨ h.mga.busy = some .restart ∧ h.restartEffect.mga.hubState = .config := by
  unfold Hub.restartEffect
  split
  next hb =>
    split
    · exact .inr ⟨hb, (fresh_restart h).hubState⟩
    · exact .inl rfl
  · exact .inl rfl

end Sys2Proof.Machine
end

section
/-! Requests keep the laws of every frame: the agent takes one when it is free, with room for its response. -/

namespace Sys2Proof.Machine

/-! ## A request that is served -/

/-- An event that keeps the laws, runs no clock and leaves the hub state alone. -/
structure Served (h h' : Hub) : Prop extends Steady h h' where
  hubState : h'.mga.hubState = h.mga.hubState

theorem Served.same (h : Hub) : Served h h := ⟨.same h, rfl⟩

theorem Served.trans {a b c : Hub} (x : Served a b) (y : Served b c) : Served a c :=
  ⟨x.toSteady.trans y.toSteady, y.hubState.trans x.hubState⟩

theorem Served.ite (p : Prop) [Decidable p] {a b c : Hub} (x : p → Served a b) (y : ¬ p → Served a c) :
    Served a (if p then b else c) := by
  split
  next hp => exact x hp
  next hp => exact y hp

theorem Within.served {h h' : Hub} (k : Within h h') : Served h h' := ⟨k.toSteady, k.hubState⟩

theorem Calm.served {h h' : Hub} (k : Calm h h') : Served h h' := k.kept.served

/-- The agent is free, and the response queue has room. -/
def Hub.idle (h : Hub) : Prop := h.mga.busy = none ∧ h.mga.responses.length < 8

theorem Hub.idle.of_same {h g : Hub} (hi : h.idle) (hb : g.mga.busy = h.mga.busy)
    (hr : g.mga.responses = h.mga.responses) : g.idle := ⟨hb.trans hi.1, hr ▸ hi.2⟩

theorem Calm.idle {h g : Hub} (k : Calm h g) (hi : h.idle) : g.idle :=
  hi.of_same k.busy (congrArg Outline.responses k.outline)

/-- A free agent has no loop test, and no measurement that is to be answered. -/
theorem Hub.idle.nothing {h : Hub} (hi : h.idle) (ha : h.answersBounded) :
    (∀ p : PortId, h.lvm.ports[p].loop = .none)
    ∧ ∀ (p : PortId) (t : Byte), h.lnk.remote[p].meas.running = true → h.lnk.remote[p].meas.origin ≠ .request t := by
  obtain ⟨-, hloops, hmeas⟩ := ha
  obtain ⟨hb, -⟩ := hi
  exact ⟨fun p => not_not.mp fun hp => (nomatch hb.symm.trans (hloops p hp)),
    fun p t hr ho => (nomatch hb.symm.trans (hmeas p t hr ho))⟩

theorem Hub.idle.respond {h : Hub} (hi : h.idle) (tag : Byte) (st : Status) (reason : Byte) (x : List Byte) :
    Served h (h.respond tag st reason x) := by
  refine ⟨⟨.of_parts (answers := fun ⟨_, hloops, hmeas⟩ => ⟨?_, hloops, hmeas⟩), rfl, rfl⟩, rfl⟩
  obtain ⟨hb, hr⟩ := hi
  simpa [Hub.respond, Mga.owed, hb] using hr

theorem Hub.idle.answerOk {h : Hub} (hi : h.idle) (tag : Byte) (x : List Byte) : Served h (h.answerOk tag x) :=
  hi.respond tag .ok 0 x

theorem Hub.idle.refuse {h : Hub} (hi : h.idle) (tag : Byte) (w : Why) (x : List Byte) : Served h (h.refuse tag w x) :=
  hi.respond tag .refused w.code x

/-- The agent becomes busy with a request that it answers later (R170). -/
theorem Hub.idle.setBusy {h : Hub} (hi : h.idle) {b : Busy}
    (hs : h.placesLawful → ∀ tag, b = .enterService tag → h.tld.scheduled = none ∧ crossCheck h.tables = none) :
    Served h (h.setBusy b) := by
  refine ⟨⟨.of_parts (places := fun _ hp => ?_) (answers := fun ha => ?_), rfl, rfl⟩, rfl⟩
  · have ⟨hconfig, hservice, _⟩ := hp
    exact ⟨hconfig, hservice, fun tag hb => hs hp tag (Option.some.inj hb)⟩
  · obtain ⟨hloops, hmeas⟩ := hi.nothing ha
    refine ⟨?_, fun p hp => absurd (hloops p) hp, fun p t hr ho => absurd ho (hmeas p t hr)⟩
    obtain ⟨-, hr⟩ := hi
    have howed : (h.setBusy b).mga.owed ≤ 1 := by cases b <;> simp [Hub.setBusy, Mga.owed]
    exact (Nat.add_le_add_left howed _).trans hr

theorem Calm.answerOk {h g : Hub} (k : Calm h g) (hi : h.idle) (tag : Byte) (x : List Byte) :
    Served h (g.answerOk tag x) := k.served.trans ((k.idle hi).answerOk tag x)

theorem Calm.refuse {h g : Hub} (k : Calm h g) (hi : h.idle) (tag : Byte) (w : Why) (x : List Byte) :
    Served h (g.refuse tag w x) := k.served.trans ((k.idle hi).refuse tag w x)

section Requests
variable {h : Hub} (hi : h.idle) (c : Cell)
include hi

theorem served_withPort {act : PortId → Hub → Hub} (ha : ∀ p, Served h (act p h)) : Served h (h.withPort c act) := by
  unfold Hub.withPort
  split
  · exact ha _
  · exact hi.refuse _ _ _

/-! ## HELLO, TABLE_READ and READ -/

theorem served_actHello : Served h (h.actHello c) := hi.answerOk _ _

theorem served_actTableRead : Served h (h.actTableRead c) := by
  unfold Hub.actTableRead
  dsimp only
  split
  · exact hi.refuse _ _ _
  · exact .ite _ (fun _ => hi.refuse _ _ _) fun _ => hi.answerOk _ _

omit hi in
theorem calm_dropHistory (h : Hub) : Calm h h.dropHistory := by
  refine ⟨rfl, fun hl => ?_, rfl, rfl⟩
  change (h.fsv.history.drop 1).length ≤ 16
  rw [List.length_drop]
  omega

omit hi in
theorem calm_readEffect (h : Hub) (o : ReadObject) (i option : Nat) : Calm h (h.readEffect o i option) := by
  cases o with
  | faultHistory => exact calm_dropHistory h
  | extremes =>
    unfold Hub.readEffect
    simp only [ReadObject.clears]
    split
    · exact .ite _ (calm_onMeter h _) (.same h)
    · exact .same h
  | faults | counters | loadStatus | moveLog | linkSummary | advice | quietSummary => exact calm_unmark h _
  | _ => exact .same h

theorem served_actRead (o : ReadObject) : Served h (h.actRead o c) := by
  unfold Hub.actRead
  dsimp only
  exact .ite _ (fun _ => hi.refuse _ _ _) fun _ => (hi.answerOk _ _).trans (calm_readEffect _ o _ _).served

/-! ## Loading -/

theorem served_actLoadBegin : Served h (h.actLoadBegin c) := by
  unfold Hub.actLoadBegin
  split
  · exact hi.refuse _ _ _
  next id _ =>
    refine .ite _ (fun _ => hi.refuse _ _ _) fun _ => .ite _ (fun _ => hi.refuse _ _ _) fun _ => ?_
    exact (calm_tld h).answerOk hi _ _

omit hi in
/-- An image that passes LOAD_END in SERVICE passes the cross checks with it in place (R30, R163). -/
theorem judgeLoad_scheduled {h : Hub} {why : Option Why} (hj : h.judgeLoad = (.scheduled, why))
    (hs : h.inService = true) : crossCheck (h.tables.put h.tld.table h.tld.image) = none := by
  unfold Hub.judgeLoad at hj
  dsimp only at hj
  rw [if_pos hs] at hj
  split at hj
  · cases hj
  · split at hj
    · cases hj
    · split at hj
      · cases hj
      · split at hj
        · cases hj
        · split at hj
          · cases hj
          next hcross => exact hcross

omit hi in
/-- A scheduled image that would pass the cross checks in SERVICE; none waits while an ENTER_SERVICE does (R168). -/
theorem served_schedule (h : Hub) {x : Option (TableId × List Byte)} (r : Bool) (hb : h.mga.busy = none)
    (hx : h.inService = true → ∀ id img, x = some (id, img) →
      h.tld.scheduled = some (id, img) ∨ crossCheck (h.tables.put id img) = none) :
    Served h { h with tld := { h.tld with scheduled := x, scheduledRipe := r } } := by
  refine ⟨⟨.of_parts (moves := fun hm => ?_) (places := fun _ ⟨hconfig, hservice, _⟩ => ⟨hconfig, fun hs => ?_,
    fun _ hb' => nomatch hb.symm.trans hb'⟩), rfl, rfl⟩, rfl⟩
  · rw [movesLawful_iff] at hm ⊢
    exact hm
  · obtain ⟨hoff, hon, hcount, hqueue, hcross, hsched⟩ := hservice hs
    refine ⟨hoff, hon, hcount, hqueue, hcross, fun id img hi => ?_⟩
    rcases hx hs id img hi with hold | hnew
    · exact hsched id img hold
    · exact hnew

theorem served_actLoadEnd : Served h (h.actLoadEnd c) := by
  unfold Hub.actLoadEnd
  refine .ite _ (fun _ => hi.refuse _ _ _) fun _ => ?_
  rcases hj : h.judgeLoad with ⟨o, why⟩
  dsimp only
  have hend := calm_endLoad h o
  have hidle := hend.idle hi
  have hsched := hend.served.trans (served_schedule (h.endLoad o)
    (x := if o = .scheduled then some (h.tld.table, h.tld.image) else h.tld.scheduled)
    (if o = .scheduled then false else h.tld.scheduledRipe) hidle.1 fun hs id img hx => by
      split at hx
      next ho =>
        cases hx
        exact .inr (judgeLoad_scheduled (ho ▸ hj) hs)
      next => exact .inl hx)
  replace hidle := hidle.of_same (g := { h.endLoad o with tld := { (h.endLoad o).tld with
      scheduled := if o = .scheduled then some (h.tld.table, h.tld.image) else h.tld.scheduled
      scheduledRipe := if o = .scheduled then false else h.tld.scheduledRipe } }) rfl rfl
  split
  · exact hsched.trans (hidle.refuse _ _ _)
  · exact hsched.trans (hidle.answerOk _ _)

theorem served_actLoadAbort : Served h (h.actLoadAbort c) :=
  .ite _ (fun _ => hi.refuse _ _ _) fun _ => (calm_endLoad h _).answerOk hi _ _

/-! ## Hub requests -/

theorem served_actEnterService : Served h (h.actEnterService c) := by
  unfold Hub.actEnterService
  refine .ite _ (fun _ => hi.answerOk _ _) fun _ => .ite _ (fun _ => hi.refuse _ _ _) fun hsched => ?_
  split
  · exact hi.refuse _ _ _
  · split
    · exact hi.refuse _ _ _
    next hcross => exact hi.setBusy fun _ _ _ => ⟨by simpa using hsched, hcross⟩

theorem served_actRestart : Served h (h.actRestart c) := by
  refine ⟨⟨.of_parts (places := fun _ ⟨hconfig, hservice, _⟩ => ⟨hconfig, hservice, fun _ hb => nomatch hb⟩)
    (answers := fun ha => ?_), rfl, rfl⟩, rfl⟩
  obtain ⟨hloops, hmeas⟩ := hi.nothing ha
  refine ⟨?_, fun p hp => absurd (hloops p) hp, fun p t hr ho => absurd ho (hmeas p t hr)⟩
  obtain ⟨-, hr⟩ := hi
  simpa [Hub.actRestart, Hub.answerOk, Hub.respond, Hub.setBusy, Mga.owed] using hr

theorem served_actPortReset : Served h (h.actPortReset c) :=
  served_withPort hi c fun _ => hi.setBusy nofun

omit hi in
theorem served_clearCounters (h : Hub) : Served h h.clearCounters := by
  refine ⟨⟨.of_parts (factors := fun hl p b => ?_) (equalized := fun hl p => ?_) (lines := fun hl p => ?_)
    (answers := fun ⟨hlen, hloops, hmeas⟩ => ⟨hlen, hloops, fun p t => ?_⟩)
    (links := fun ⟨hl, ht⟩ => ⟨fun d => ?_, ht⟩), rfl, rfl⟩, rfl⟩
  all_goals simp only [Hub.clearCounters, mapTab_get, LinkCore.clearCounters]
  · exact hl p b
  · exact hl p
  · exact hl p
  · exact hmeas p t
  · exact hl d

theorem served_actClearCounters : Served h (h.actClearCounters c) :=
  (served_clearCounters h).trans (Hub.idle.answerOk (hi.of_same (g := h.clearCounters) rfl rfl) _ _)

omit hi in
theorem calm_setHold (h : Hub) (o : OperatorId) (b : Bool) : Calm h (h.setHold o b) := ⟨rfl, id, rfl, rfl⟩

theorem served_actOperatorHold : Served h (h.actOperatorHold c) := by
  unfold Hub.actOperatorHold
  split
  · exact (calm_setHold h _ _).served.trans (((calm_setHold h _ _).idle hi).setBusy nofun)
  · exact hi.refuse _ _ _

theorem served_actOperatorRelease : Served h (h.actOperatorRelease c) := by
  unfold Hub.actOperatorRelease
  split
  · exact (calm_setHold h _ _).served.trans (((calm_setHold h _ _).idle hi).setBusy nofun)
  · exact hi.refuse _ _ _

/-! ## Port requests -/

/-- MEASURE_DELAY attaches to a running measurement (R19). -/
theorem served_attach (p : PortId) (tag : Byte) :
    Served h ((h.onRemote p fun r => { r with meas := { r.meas with origin := .request tag } }).setBusy (.measuring p)) := by
  refine ⟨⟨.of_parts (places := fun _ ⟨hconfig, hservice, _⟩ => ⟨hconfig, hservice, fun _ hb => nomatch hb⟩)
    (answers := fun ha => ?_), rfl, rfl⟩, rfl⟩
  obtain ⟨hloops, hmeas⟩ := hi.nothing ha
  obtain ⟨-, hr⟩ := hi
  refine ⟨by simpa [Hub.setBusy, Mga.owed] using hr, fun q hq => absurd (hloops q) hq, fun q t hrun ho => ?_⟩
  by_cases hpq : p = q
  · rw [hpq]
    rfl
  · change (upd h.lnk.remote p _)[q].meas.running = true at hrun
    change (upd h.lnk.remote p _)[q].meas.origin = .request t at ho
    rw [upd_get_other _ _ hpq] at hrun ho
    exact absurd ho (hmeas q t hrun)

theorem served_actMeasureDelay : Served h (h.actMeasureDelay c) :=
  served_withPort hi c fun p => .ite _ (fun _ => hi.refuse _ _ _) fun _ =>
    .ite _ (fun _ => served_attach hi p c.tag) fun _ => hi.setBusy nofun

theorem served_beginLoopTest (p : PortId) (tag : Byte) :
    Served h ((h.onMeter p fun m => { m with loop := .pending tag }).setBusy (.loopTest p)) := by
  refine ⟨⟨.of_parts (places := fun _ ⟨hconfig, hservice, _⟩ => ⟨hconfig, hservice, fun _ hb => nomatch hb⟩)
    (answers := fun ha => ?_), rfl, rfl⟩, rfl⟩
  obtain ⟨hloops, hmeas⟩ := hi.nothing ha
  obtain ⟨-, hr⟩ := hi
  refine ⟨by simpa [Hub.setBusy, Mga.owed] using hr, fun q hq => ?_, fun q t hrun ho => absurd ho (hmeas q t hrun)⟩
  by_cases hpq : p = q
  · rw [hpq]
    rfl
  · refine absurd ?_ hq
    change (upd h.lvm.ports p _)[q].loop = .none
    rw [upd_get_other _ _ hpq]
    exact hloops q

theorem served_actLoopTest : Served h (h.actLoopTest c) :=
  served_withPort hi c fun p => .ite _ (fun _ => hi.respond _ _ _ _) fun _ =>
    .ite _ (fun _ => hi.refuse _ _ _) fun _ => served_beginLoopTest hi p c.tag

omit hi in
/-- A MANUAL entry joins the queue, or takes its port's place there (R121). -/
theorem kept_placeManual (h : Hub) {e : MoveEntry} (hs : h.inService = true) (ha : h.assignOf e.port = .one e.source)
    (hroom : h.queued e.port = true ∨ h.sbl.queue.length < 8) : Kept h (h.placeManual e) := by
  unfold Hub.placeManual
  refine .ite _ (fun _ => (kept_replaceQueue h ha).trans (calm_wakePort _ _ _).kept) fun hq => ?_
  refine kept_enqueue h ⟨hs, ha, fun q hq' he => hq ?_⟩ (hroom.resolve_left hq)
  exact List.any_eq_true.mpr ⟨q, hq', by simpa using he⟩

omit hi in
theorem placeManual_mga (h : Hub) (e : MoveEntry) :
    (h.placeManual e).mga.busy = h.mga.busy ∧ (h.placeManual e).mga.responses = h.mga.responses := by
  have hw (g : Hub) : (g.wakePort e.port .move).mga.busy = g.mga.busy
      ∧ (g.wakePort e.port .move).mga.responses = g.mga.responses :=
    ⟨(calm_wakePort g _ _).busy, congrArg Outline.responses (calm_wakePort g _ _).outline⟩
  unfold Hub.placeManual Hub.enqueue
  split <;> exact hw _

theorem served_actMove : Served h (h.actMove c) := by
  unfold Hub.actMove
  refine .ite _ (fun _ => hi.respond _ _ _ _) fun hs => ?_
  replace hs : h.inService = true := by simpa using hs
  split
  next p s _ _ =>
    refine .ite _ (fun _ => hi.refuse _ _ _) fun _ => .ite _ (fun _ => hi.refuse _ _ _) fun _ => ?_
    split
    · exact hi.refuse _ _ _
    next present hsole =>
      refine .ite _ (fun _ => hi.refuse _ _ _) fun _ => .ite _ (fun _ => hi.refuse _ _ _) fun _ =>
        .ite _ (fun _ => hi.refuse _ _ _) fun hroom => ?_
      have hassign : h.assignOf p = .one present := by
        cases ha : h.assignOf p <;> rw [ha] at hsole <;> cases hsole
        rfl
      have hk : Kept h (h.placeManual ⟨p, present, s, .manual⟩) :=
        kept_placeManual h hs hassign (by simp at hroom; grind)
      obtain ⟨hb, hr⟩ := placeManual_mga h ⟨p, present, s, .manual⟩
      exact hk.served.trans ((hi.of_same hb hr).answerOk _ _)
  · exact hi.refuse _ _ _

theorem served_actCancelMove : Served h (h.actCancelMove c) := by
  refine served_withPort hi c fun p => ?_
  split
  next e _ =>
    have hdrop : Kept h (h.dropEntry p) := kept_shrinkQueue h List.filter_sublist
    have hlog := hdrop.trans (kept_logMove (h.dropEntry p) e .cancelledRequest)
    exact hlog.served.trans ((hi.of_same (g := (h.dropEntry p).logMove e .cancelledRequest) rfl rfl).answerOk _ _)
  · exact .ite _ (fun _ => (calm_markMove h p _).answerOk hi _ _) fun _ => hi.refuse _ _ _

theorem served_actWake : Served h (h.actWake c) := by
  unfold Hub.actWake
  refine .ite _ (fun _ => hi.respond _ _ _ _) fun _ => served_withPort hi c fun p => ?_
  dsimp only
  exact Calm.answerOk (.ite _ (calm_wakePort h p _) (calm_onBal h p)) hi _ _

/-! ## Faults and polling -/

omit hi in
theorem calm_clearRecord {h : Hub} {x : Hub × Nat × Nat} (k : FaultKey) (hx : Calm h x.1) :
    Calm h (clearRecord x k).1 := by
  unfold clearRecord
  dsimp only
  split
  · exact hx.trans ((calm_changeRecord _ _ _).trans (calm_writeHistory _ _ _))
  · exact hx
  · exact hx

theorem served_actClearFaults : Served h (h.actClearFaults c) := by
  unfold Hub.actClearFaults
  split
  · exact hi.refuse _ _ _
  next keys _ =>
    have hk : Calm h (keys.foldl clearRecord (h, 0, 0)).1 :=
      foldl_keeps (P := fun x : Hub × Nat × Nat => Calm h x.1) (fun x k hx => calm_clearRecord k hx) keys _ (.same h)
    exact .ite _ (fun _ => hk.answerOk hi _ _) fun _ => hk.refuse hi _ _ _

theorem served_actPriorityPoll : Served h (h.actPriorityPoll c) := by
  unfold Hub.actPriorityPoll
  dsimp only
  exact .ite _ (fun _ => hi.refuse _ _ _) fun _ => (calm_cte h _).answerOk hi _ _

end Requests

/-! ## Taking a request -/

theorem served_dequeue (h : Hub) : Served h h.dequeue := by
  refine ⟨⟨.of_parts (lists := fun ⟨hr, hrest⟩ => ⟨?_, hrest⟩), rfl, rfl⟩, rfl⟩
  change (h.mga.requests.drop 1).length ≤ 4
  rw [List.length_drop]
  omega

theorem served_takeHead {is : Cell → Bool} {act : Cell → Hub → Hub}
    (ha : ∀ c {g : Hub}, g.idle → Served g (act c g)) (h : Hub) : Served h (h.takeHead is act) := by
  unfold Hub.takeHead
  split
  · exact .same h
  · refine .ite _ (fun ht => (served_dequeue h).trans (ha _ ?_)) fun _ => .same h
    simpa [Hub.canTake, Hub.idle, Hub.dequeue] using ht.1

theorem served_takeRequest {k : ReqKind} {act : Cell → Hub → Hub}
    (ha : ∀ {g : Hub}, g.idle → ∀ c, Served g (act c g)) (h : Hub) : Served h (Hub.takeRequest k act h) :=
  served_takeHead (fun c _ hi => .ite _ (fun _ => hi.refuse _ _ _) fun _ => ha hi c) h

theorem served_takeRead (o : ReadObject) (h : Hub) : Served h (h.takeRead o) :=
  served_takeHead (fun c _ hi => .ite _ (fun _ => hi.refuse _ _ _) fun _ =>
    .ite _ (fun _ => hi.refuse _ _ _) fun _ => served_actRead hi c o) h

theorem served_takeUnknown (h : Hub) : Served h h.takeUnknown :=
  served_takeHead (fun _ _ hi => hi.respond _ _ _ _) h

theorem served_serveHead (h : Hub) : Served h h.serveHead := by
  unfold Hub.serveHead
  split
  · exact .same h
  · split
    · exact served_takeUnknown h
    · exact served_takeRequest served_actHello h
    · exact served_takeRead _ h
    · exact served_takeRequest served_actTableRead h
    · exact served_takeRequest served_actLoadBegin h
    · exact served_takeRequest served_actLoadEnd h
    · exact served_takeRequest served_actLoadAbort h
    · exact served_takeRequest served_actEnterService h
    · exact served_takeRequest served_actRestart h
    · exact served_takeRequest served_actPortReset h
    · exact served_takeRequest served_actMove h
    · exact served_takeRequest served_actCancelMove h
    · exact served_takeRequest served_actClearFaults h
    · exact served_takeRequest served_actWake h
    · exact served_takeRequest served_actMeasureDelay h
    · exact served_takeRequest served_actLoopTest h
    · exact served_takeRequest served_actPriorityPoll h
    · exact served_takeRequest served_actOperatorHold h
    · exact served_takeRequest served_actOperatorRelease h
    · exact served_takeRequest served_actClearCounters h

theorem served_serve (n : Nat) (h : Hub) : Served h (h.serve n) := by
  induction n generalizing h with
  | zero => exact .same h
  | succ n ih => exact .ite _ (fun _ => (served_serveHead h).trans (ih _)) fun _ => .same h

end Sys2Proof.Machine
end

section
/-! The beginning of a boundary and of a frame keep the laws, and so does every command: the laws of every frame, the
hub state and the hub frame number. -/

namespace Sys2Proof.Machine

/-! ## The beginning of a boundary -/

theorem PortMeter.frameUpdate_loop (f : FrameInput) (m : PortMeter) : (m.frameUpdate f).loop = m.loop := by
  unfold PortMeter.frameUpdate
  split <;> rfl

theorem Measurement.age_running (m : Measurement) : m.age.running = m.running ∧ m.age.origin = m.origin := by
  unfold Measurement.age
  split <;> exact ⟨rfl, rfl⟩

theorem lawful_beginBoundary (h : Hub) : Lawful h h.beginBoundary := by
  refine .of_parts (factors := fun hl p b => ?_) (answers := fun ⟨hlen, hloops, hmeas⟩ => ⟨hlen, fun p hp => ?_,
    fun p t hr ho => ?_⟩) (links := fun ⟨hd, ht⟩ => ⟨fun d => ?_, ht⟩)
  · simp only [Hub.beginBoundary, mapTab_get]
    exact hl p b
  · simp only [Hub.beginBoundary, tab_get, PortMeter.frameUpdate_loop] at hp
    exact hloops p hp
  · simp only [Hub.beginBoundary, Lnk.boundary, mapTab_get, Measurement.age_running] at hr ho
    exact hmeas p t hr ho
  · simp only [Hub.beginBoundary, Lnk.boundary, mapTab_get, LinkCore.awaitFrame]
    exact hd d

theorem lawful_openBoundary (h : Hub) : Lawful h h.openBoundary := by
  unfold Hub.openBoundary
  split
  · exact .same h
  · exact lawful_beginBoundary h

theorem openBoundary_frameNumber (h : Hub) : h.openBoundary.lnk.frameNumber =
    if h.bd.isOpen then h.lnk.frameNumber else h.lnk.frameNumber + 1 := by
  unfold Hub.openBoundary
  split <;> rfl

theorem openBoundary_agent (h : Hub) :
    h.openBoundary.mga.hubState = h.mga.hubState ∧ h.openBoundary.mga.busy = h.mga.busy := by
  unfold Hub.openBoundary
  split <;> exact ⟨rfl, rfl⟩

/-! ## The frame that begins -/

theorem served_formDownlink (h : Hub) : Served h h.formDownlink := by
  refine ⟨⟨.of_parts (equalized := fun hl p => ?_) (lines := fun hl p => ?_), rfl, rfl⟩, rfl⟩
  all_goals
    simp only [Hub.formDownlink, tab_get]
    split
  · exact hl p
  · exact hl p
  · exact ⟨zeroLine_length, (hl p).2⟩
  · exact hl p

theorem served_formUplink (h : Hub) : Served h h.formUplink := Calm.served ⟨rfl, id, rfl, rfl⟩

theorem served_runFrame (h : Hub) : Served h h.runFrame := by
  refine ⟨⟨.of_parts (factors := fun hl p b => ?_) (equalized := fun hl p => ?_) (lines := fun hl p => ?_)
    (answers := fun ⟨hlen, hloops, hmeas⟩ => ⟨hlen, fun p hp => hloops p ?_, hmeas⟩), rfl, rfl⟩, rfl⟩
  · simp only [Hub.runFrame, tab_get, PortLimiter.addPower]
    exact hl p b
  · simp only [Hub.runFrame, tab_get]
    exact hl p
  · simp only [Hub.runFrame, tab_get]
    exact ⟨lineNext_length (hl p).1, lineNext_length (hl p).2⟩
  · simpa only [Hub.runFrame, tab_get, PortMeter.integrate] using hp

/-- What begins a frame, as an event within the boundary, and then the boundary's end. -/
theorem beginFrame_spec (h : Hub) : Lawful h h.beginFrame ∧ h.beginFrame.lnk.frameNumber = h.lnk.frameNumber
    ∧ h.beginFrame.mga.hubState = h.mga.hubState ∧ h.beginFrame.bd.isOpen = false := by
  have k := (served_formDownlink h).trans ((served_formUplink _).trans (served_runFrame _))
  unfold Hub.beginFrame
  dsimp only
  generalize h.formDownlink.formUplink.runFrame = g at k ⊢
  exact ⟨k.laws.trans .of_parts, k.frameNumber, k.hubState, rfl⟩

/-! ## What a boundary still has to do -/

/-- A request that the agent is busy with, but for a running measurement, was its business before. -/
theorem busy_of_within {h g : Hub} (k : Within h g) {b : Busy} (hb : g.mga.busy = some b)
    (hm : ∀ p, b ≠ .measuring p) : h.mga.busy = some b := by
  rcases k.busy with hs | hn | ⟨p, hp⟩
  · exact hs.symm.trans hb
  · cases hn.symm.trans hb
  · exact absurd (Option.some.inj (hb.symm.trans hp)) (hm p)

theorem kept_eachLink {f : LinkId → Hub → Hub} (hf : ∀ l h, Kept h (f l h)) (h : Hub) : Kept h (eachLink f h) :=
  (kept_each (fun p => hf (.remote p)) h).trans ((kept_each (fun d => hf (.donor d)) _).trans (hf .trunk _))

theorem calm_eachKey {f : FaultKey → Hub → Hub} (hf : ∀ k h, Calm h (f k h)) (h : Hub) : Calm h (eachKey f h) :=
  calm_foldl (fun h k => hf k h) _ h

theorem kept_settleLinks (h : Hub) : Kept h h.settleLinks := by
  unfold Hub.settleLinks
  have hframes := kept_eachLink (fun l g => (calm_receiveFrame l [] g).kept) h
  have haligned := (kept_eachLink kept_linkAligned (eachLink (fun l => Hub.receiveFrame l []) h)).trans
    (kept_eachLink kept_alignmentLost _)
  refine hframes.trans (haligned.trans ?_)
  refine .trans (kept_takeCell .idle (fun _ g => .same g) _) (.trans (kept_takeCell .request kept_acceptRequest _) ?_)
  refine .trans (kept_takeCell .data kept_data _) (.trans (kept_takeCell .check kept_check _) ?_)
  exact kept_takeCell .response kept_unexpectedCell _

theorem kept_settleRau (h : Hub) : Kept h h.settleRau := by
  unfold Hub.settleRau
  refine .trans ((kept_each kept_measurementDone h).trans (kept_each kept_measurementTimeout _)) ?_
  refine (kept_measurementStart _).trans (Calm.kept ?_)
  exact (calm_identifyReply _).trans ((calm_statusReply _).trans (calm_attemptMiss _))

theorem kept_settleLevels (h : Hub) : Kept h h.settleLevels := by
  unfold Hub.settleLevels
  refine .trans ((calm_each calm_cratePresent h).kept.trans (kept_limiterUpdate _)) ?_
  refine .trans (kept_each (fun p g => kept_each (kept_holdRestore p) g) _) ?_
  refine .trans ((kept_each kept_overdrivePresent _).trans (kept_each kept_overdriveClear _)) ?_
  refine .trans ((kept_windowEnd _).trans (calm_each calm_overloadPresent _).kept) (Calm.kept ?_)
  exact (calm_secondMark _).trans ((calm_each calm_silentPresent _).trans (calm_pollInterval _))

theorem kept_settleBalance (h : Hub) : Kept h h.settleBalance := by
  unfold Hub.settleBalance
  have hexpire : Calm h (eachKey (fun k g => g.settleExpiry k) (eachKey (fun k g => g.coolingExpiry k) h)) :=
    (calm_eachKey (fun k g => calm_coolingExpiry g k) h).trans (calm_eachKey (fun k g => calm_settleExpiry g k) _)
  refine hexpire.kept.trans (.trans ((kept_balanceInterval _).trans (calm_each calm_quietEntry _).kept) ?_)
  exact (kept_moveAbandon _).trans ((calm_rampStep _).kept.trans ((kept_moveCommit _).trans (kept_moveStart _)))

/-- What the boundary still has to do before a waiting ENTER_SERVICE takes effect. -/
def Hub.settleFirst (h : Hub) : Hub :=
  h.settleLinks.settleRau.settleLevels.settleBalance.loadTimeout.tableActivation.holdEffect.releaseEffect

theorem within_settleFirst (h : Hub) : Within h h.settleFirst :=
  .trans ((kept_settleLinks h).trans ((kept_settleRau _).trans ((kept_settleLevels _).trans ((kept_settleBalance _).trans
    ((calm_loadTimeout _).kept.trans (kept_tableActivation _)))))).toWithin
    ((within_holdEffect _).trans (within_releaseEffect _))

/-- The oldest response, if any is sent, leaves the queue (R171). -/
theorem served_trunkSupply (h : Hub) : Served h h.trunkSupply := by
  have hsent (x : List Byte) :
      Calm h { h with bd := { h.bd with supplyDone := true }, mga := { h.mga with sent := x } } := ⟨rfl, id, rfl, rfl⟩
  unfold Hub.trunkSupply
  refine .ite _ (fun _ => .same h) fun _ => ?_
  dsimp only
  split
  next r rest hr =>
    refine .ite _ (fun _ => ?_) fun _ => (hsent _).served
    refine ⟨⟨.of_parts (answers := fun ⟨hlen, hloops, hmeas⟩ => ⟨?_, hloops, hmeas⟩), rfl, rfl⟩, rfl⟩
    rw [hr, List.length_cons] at hlen
    change rest.length + h.mga.owed ≤ 8
    omega
  · exact (hsent _).served

/-- What the boundary still has to do once every effect has come. -/
def Hub.settleLast (h : Hub) : Hub :=
  let h := h.deqRecompute.cteSelect.join
  let h := (h.serve h.mga.requests.length).trunkSupply
  h.serve h.mga.requests.length

theorem served_settleLast (h : Hub) : Served h h.settleLast := by
  unfold Hub.settleLast
  dsimp only
  have hfirst := (kept_deqRecompute h).trans ((calm_cteSelect _).trans (calm_join _)).kept
  generalize h.deqRecompute.cteSelect.join = g at hfirst ⊢
  exact hfirst.served.trans ((served_serve _ g).trans ((served_trunkSupply _).trans (served_serve _ _)))

theorem settle_eq (h : Hub) :
    h.settle = h.settleFirst.serviceEntry.portResetEffect.restartEffect.settleLast := by
  rw [Hub.settle, Hub.settleLast, Hub.settleFirst, Hub.settleEffects]

theorem steady_settle (h : Hub) : Steady h h.settle := by
  rw [settle_eq]
  exact (within_settleFirst h).toSteady.trans ((steady_serviceEntry _).trans ((within_portResetEffect _).toSteady.trans
    ((steady_restartEffect _).trans (served_settleLast _).toSteady)))

/-- At the end of a boundary the hub state has changed by a waiting ENTER_SERVICE or RESTART at most. -/
theorem settle_hubState (h : Hub) :
    h.settle.mga.hubState = h.mga.hubState
    ∨ (∃ tag, h.mga.busy = some (.enterService tag)) ∧ h.settle.mga.hubState = .service
    ∨ h.mga.busy = some .restart ∧ h.settle.mga.hubState = .config := by
  rw [settle_eq]
  have kf := within_settleFirst h
  have kr := within_portResetEffect h.settleFirst.serviceEntry
  have hl := (served_settleLast h.settleFirst.serviceEntry.portResetEffect.restartEffect).hubState
  rcases restartEffect_hubState h.settleFirst.serviceEntry.portResetEffect with hr | ⟨hbusy, hr⟩
  · rcases serviceEntry_hubState h.settleFirst with ⟨hs, -⟩ | ⟨⟨tag, hbusy⟩, hs, -⟩
    · exact .inl (hl.trans (hr.trans (kr.hubState.trans (hs.trans kf.hubState))))
    · refine .inr (.inl ⟨⟨tag, ?_⟩, hl.trans (hr.trans (kr.hubState.trans hs))⟩)
      exact busy_of_within kf hbusy nofun
  · refine .inr (.inr ⟨?_, hl.trans hr⟩)
    have hservice := busy_of_within kr hbusy nofun
    rcases serviceEntry_hubState h.settleFirst with ⟨-, hb⟩ | ⟨-, -, hb⟩
    · exact busy_of_within kf (hb.symm.trans hservice) nofun
    · cases hb.symm.trans hservice

end Sys2Proof.Machine
end

section
/-! Every command keeps the laws of every frame. -/

namespace Sys2Proof.Machine

/-- The taking of a request is served on the hub as it stands. -/
theorem exec_request {c : Instr} (hc : c.isRequest = true) :
    ∃ f : Hub → Hub, (∀ s, exec c s = .next { s with hub := f s.hub }) ∧ ∀ h, Served h (f h) := by
  cases c with
  | hello => exact ⟨_, fun _ => rfl, served_takeRequest served_actHello⟩
  | readPortStatus | readSectorStatus | readCarrierStatus | readMeter | readExtremes | readDlPower | readFaults
  | readFaultHistory | readMoveQueue | readMoveLog | readAdvice | readCounters | readNotices | readLoadStatus
  | readLinkSummary | readQuietSummary => exact ⟨_, fun _ => rfl, served_takeRead _⟩
  | tableRead => exact ⟨_, fun _ => rfl, served_takeRequest served_actTableRead⟩
  | loadBegin => exact ⟨_, fun _ => rfl, served_takeRequest served_actLoadBegin⟩
  | loadEnd => exact ⟨_, fun _ => rfl, served_takeRequest served_actLoadEnd⟩
  | loadAbort => exact ⟨_, fun _ => rfl, served_takeRequest served_actLoadAbort⟩
  | enterService => exact ⟨_, fun _ => rfl, served_takeRequest served_actEnterService⟩
  | restart => exact ⟨_, fun _ => rfl, served_takeRequest served_actRestart⟩
  | portReset => exact ⟨_, fun _ => rfl, served_takeRequest served_actPortReset⟩
  | clearCounters => exact ⟨_, fun _ => rfl, served_takeRequest served_actClearCounters⟩
  | operatorHold => exact ⟨_, fun _ => rfl, served_takeRequest served_actOperatorHold⟩
  | operatorRelease => exact ⟨_, fun _ => rfl, served_takeRequest served_actOperatorRelease⟩
  | measureDelay => exact ⟨_, fun _ => rfl, served_takeRequest served_actMeasureDelay⟩
  | loopTest => exact ⟨_, fun _ => rfl, served_takeRequest served_actLoopTest⟩
  | move => exact ⟨_, fun _ => rfl, served_takeRequest served_actMove⟩
  | cancelMove => exact ⟨_, fun _ => rfl, served_takeRequest served_actCancelMove⟩
  | wake => exact ⟨_, fun _ => rfl, served_takeRequest served_actWake⟩
  | clearFaults => exact ⟨_, fun _ => rfl, served_takeRequest served_actClearFaults⟩
  | priorityPoll => exact ⟨_, fun _ => rfl, served_takeRequest served_actPriorityPoll⟩
  | unknownRequest => exact ⟨_, fun _ => rfl, served_takeUnknown⟩
  | _ => cases hc

/-- What an event does to the hub whose boundary is under way: it keeps the laws and runs no clock, and what it may do
to the hub state, and to the boundary, is the business of three commands. -/
structure Acts (c : Instr) (h h' : Hub) : Prop where
  laws : Lawful h h'
  frameNumber : h'.lnk.frameNumber = h.lnk.frameNumber
  isOpen : h'.bd.isOpen = if c = .frameBoundary .whole then false else h.bd.isOpen
  hubState : h'.mga.hubState = h.mga.hubState
    ∨ (∃ tag, h.mga.busy = some (.enterService tag)) ∧ h'.mga.hubState = .service
      ∧ (c = .serviceEntry ∨ c = .frameBoundary .whole)
    ∨ h.mga.busy = some .restart ∧ h'.mga.hubState = .config ∧ (c = .restartEffect ∨ c = .frameBoundary .whole)

theorem Within.acts {c : Instr} {h h' : Hub} (k : Within h h') (hc : c ≠ .frameBoundary .whole) : Acts c h h' :=
  ⟨k.laws, k.frameNumber, by rw [if_neg hc]; exact k.isOpen, .inl k.hubState⟩

theorem Kept.acts {c : Instr} {h h' : Hub} (k : Kept h h') (hc : c ≠ .frameBoundary .whole) : Acts c h h' :=
  k.toWithin.acts hc

theorem Calm.acts {c : Instr} {h h' : Hub} (k : Calm h h') (hc : c ≠ .frameBoundary .whole) : Acts c h h' :=
  k.kept.acts hc

theorem acts_serviceEntry (h : Hub) : Acts .serviceEntry h h.serviceEntry where
  laws := (steady_serviceEntry h).laws
  frameNumber := (steady_serviceEntry h).frameNumber
  isOpen := (steady_serviceEntry h).isOpen
  hubState := by
    rcases serviceEntry_hubState h with ⟨hs, -⟩ | ⟨hb, hs, -⟩
    · exact .inl hs
    · exact .inr (.inl ⟨hb, hs, .inl rfl⟩)

theorem acts_restartEffect (h : Hub) : Acts .restartEffect h h.restartEffect where
  laws := (steady_restartEffect h).laws
  frameNumber := (steady_restartEffect h).frameNumber
  isOpen := (steady_restartEffect h).isOpen
  hubState := by
    rcases restartEffect_hubState h with hs | ⟨hb, hs⟩
    · exact .inl hs
    · exact .inr (.inr ⟨hb, hs, .inl rfl⟩)

/-- FRAME_BOUNDARY does what is due and begins the next frame, or takes its part of the boundary's work. -/
theorem acts_frameBoundary (part : BoundaryPart) (h : Hub) : Acts (.frameBoundary part) h (h.frameBoundary part) := by
  cases part with
  | whole =>
    obtain ⟨hlaws, hnumber, hstate, hopen⟩ := beginFrame_spec h.settle
    have ks := steady_settle h
    refine ⟨ks.laws.trans hlaws, hnumber.trans ks.frameNumber, hopen, ?_⟩
    rcases settle_hubState h with hs | ⟨hb, hs⟩ | ⟨hb, hs⟩
    · exact .inl (hstate.trans hs)
    · exact .inr (.inl ⟨hb, hstate.trans hs, .inr rfl⟩)
    · exact .inr (.inr ⟨hb, hstate.trans hs, .inr rfl⟩)
  | frameEnd => exact (Calm.same h).acts nofun
  | limiterUpdate => exact (kept_limiterUpdate h).acts nofun
  | deqRecompute => exact (kept_deqRecompute h).acts nofun
  | combiningJoin => exact (calm_join h).acts nofun
  | trunkSupply =>
    have k := served_trunkSupply h
    exact ⟨k.laws, k.frameNumber, k.isOpen, .inl k.hubState⟩

/-- A boundary event acts on the hub whose boundary is under way. -/
theorem exec_event {c : Instr} (hc : c.isBoundaryEvent) :
    ∃ f : Hub → Hub, (∀ s, exec c s = .next { s with hub := f s.hub.openBoundary }) ∧ ∀ h, Acts c h (f h) := by
  obtain ⟨hp, hr⟩ := hc
  cases c with
  | powerOn => exact absurd rfl hp
  | frameBoundary part => exact ⟨_, fun _ => rfl, acts_frameBoundary part⟩
  | signalPresent l => exact ⟨_, fun _ => rfl, fun h => (kept_signalPresent l h).acts nofun⟩
  | signalAbsent l => exact ⟨_, fun _ => rfl, fun h => (kept_signalAbsent l h).acts nofun⟩
  | receiveFrame l done => exact ⟨_, fun _ => rfl, fun h => (calm_receiveFrame l done h).acts nofun⟩
  | linkAligned l => exact ⟨_, fun _ => rfl, fun h => (kept_linkAligned l h).acts nofun⟩
  | linkAlignmentLost l => exact ⟨_, fun _ => rfl, fun h => (kept_alignmentLost l h).acts nofun⟩
  | delayMeasurementStart => exact ⟨_, fun _ => rfl, fun h => (kept_measurementStart h).acts nofun⟩
  | measurementDone p => exact ⟨_, fun _ => rfl, fun h => (kept_measurementDone p h).acts nofun⟩
  | measurementTimeout p => exact ⟨_, fun _ => rfl, fun h => (kept_measurementTimeout p h).acts nofun⟩
  | identifyReply => exact ⟨_, fun _ => rfl, fun h => (calm_identifyReply h).acts nofun⟩
  | statusReply => exact ⟨_, fun _ => rfl, fun h => (calm_statusReply h).acts nofun⟩
  | cteSelect => exact ⟨_, fun _ => rfl, fun h => (calm_cteSelect h).acts nofun⟩
  | attemptMiss => exact ⟨_, fun _ => rfl, fun h => (calm_attemptMiss h).acts nofun⟩
  | pollInterval => exact ⟨_, fun _ => rfl, fun h => (calm_pollInterval h).acts nofun⟩
  | secondMark => exact ⟨_, fun _ => rfl, fun h => (calm_secondMark h).acts nofun⟩
  | crcRatePresent p => exact ⟨_, fun _ => rfl, fun h => (calm_cratePresent p h).acts nofun⟩
  | ulSilentPresent p => exact ⟨_, fun _ => rfl, fun h => (calm_silentPresent p h).acts nofun⟩
  | windowEnd => exact ⟨_, fun _ => rfl, fun h => (kept_windowEnd h).acts nofun⟩
  | ulOverloadPresent p => exact ⟨_, fun _ => rfl, fun h => (calm_overloadPresent p h).acts nofun⟩
  | holdRestore p b => exact ⟨_, fun _ => rfl, fun h => (kept_holdRestore p b h).acts nofun⟩
  | dlOverdrivePresent p => exact ⟨_, fun _ => rfl, fun h => (kept_overdrivePresent p h).acts nofun⟩
  | dlOverdriveClear p => exact ⟨_, fun _ => rfl, fun h => (kept_overdriveClear p h).acts nofun⟩
  | idleCell => exact ⟨_, fun _ => rfl, fun h => (kept_takeCell .idle (fun _ g => .same g) h).acts nofun⟩
  | requestCell => exact ⟨_, fun _ => rfl, fun h => (kept_takeCell .request kept_acceptRequest h).acts nofun⟩
  | dataCell => exact ⟨_, fun _ => rfl, fun h => (kept_takeCell .data kept_data h).acts nofun⟩
  | checkCell => exact ⟨_, fun _ => rfl, fun h => (kept_takeCell .check kept_check h).acts nofun⟩
  | responseCell => exact ⟨_, fun _ => rfl, fun h => (kept_takeCell .response kept_unexpectedCell h).acts nofun⟩
  | loadTimeout => exact ⟨_, fun _ => rfl, fun h => (calm_loadTimeout h).acts nofun⟩
  | tableActivation => exact ⟨_, fun _ => rfl, fun h => (kept_tableActivation h).acts nofun⟩
  | serviceEntry => exact ⟨_, fun _ => rfl, acts_serviceEntry⟩
  | restartEffect => exact ⟨_, fun _ => rfl, acts_restartEffect⟩
  | portResetEffect => exact ⟨_, fun _ => rfl, fun h => (within_portResetEffect h).acts nofun⟩
  | operatorHoldEffect => exact ⟨_, fun _ => rfl, fun h => (within_holdEffect h).acts nofun⟩
  | operatorReleaseEffect => exact ⟨_, fun _ => rfl, fun h => (within_releaseEffect h).acts nofun⟩
  | balanceInterval => exact ⟨_, fun _ => rfl, fun h => (kept_balanceInterval h).acts nofun⟩
  | quietEntry p => exact ⟨_, fun _ => rfl, fun h => (calm_quietEntry p h).acts nofun⟩
  | moveStart => exact ⟨_, fun _ => rfl, fun h => (kept_moveStart h).acts nofun⟩
  | rampStep => exact ⟨_, fun _ => rfl, fun h => (calm_rampStep h).acts nofun⟩
  | moveCommit => exact ⟨_, fun _ => rfl, fun h => (kept_moveCommit h).acts nofun⟩
  | moveAbandon => exact ⟨_, fun _ => rfl, fun h => (kept_moveAbandon h).acts nofun⟩
  | coolingExpiry k => exact ⟨_, fun _ => rfl, fun h => (calm_coolingExpiry h k).acts nofun⟩
  | settleExpiry k => exact ⟨_, fun _ => rfl, fun h => (calm_settleExpiry h k).acts nofun⟩
  | _ => cases hr

theorem exec_powerOn (s : State) : exec .powerOn s = .next { s with hub := s.hub.powerOn } := rfl

/-- Every command keeps the laws of every frame. -/
theorem exec_lawful {c : Instr} {s t : State} (he : exec c s = .next t) : Lawful s.hub t.hub := by
  by_cases hr : c.isRequest = true
  · obtain ⟨f, hf, hk⟩ := exec_request hr
    cases (hf s).symm.trans he
    exact (hk s.hub).laws
  · by_cases hp : c = .powerOn
    · subst hp
      cases (exec_powerOn s).symm.trans he
      exact lawful_powerOn s.hub
    · obtain ⟨f, hf, hk⟩ := exec_event ⟨hp, by simpa using hr⟩
      cases (hf s).symm.trans he
      exact (lawful_openBoundary s.hub).trans (hk _).laws

theorem step_lawful {s t : State} (hs : step s = .next t) : Lawful s.hub t.hub := by
  rcases step_cases hs with rfl | ⟨c, rest, -, he⟩
  · exact .same _
  · exact exec_lawful (s := { s with pending := rest }) he

end Sys2Proof.Machine

namespace Sys2Proof
open Machine

/-- Settles O7. -/
theorem factorsStayInRange : Obligations.FactorsStayInRange := fun _ _ hl hs => (step_lawful hs).factors hl

/-- Settles O8. -/
theorem compensationLawStays : Obligations.CompensationLawStays :=
  ⟨fun _ _ hl hs => (step_lawful hs).equalized hl, fun _ _ hl hs => (step_lawful hs).lines hl⟩

/-- Settles O9; the places rest on the laws of moves. -/
theorem moveLawsStay : Obligations.MoveLawsStay :=
  ⟨fun _ _ hl hs => (step_lawful hs).moves hl, fun _ _ hm hl hs => (step_lawful hs).places hm hl⟩

/-- Settles O10; the bound of the response queue is part of the law of answers. -/
theorem listBoundsStay : Obligations.ListBoundsStay := by
  refine ⟨fun _ _ hl hs => (step_lawful hs).lists hl, fun _ t hl hs => ?_⟩
  have ha := (step_lawful hs).answers hl
  have ⟨hlen, _⟩ := ha
  exact ⟨ha, (Nat.le_add_right _ _).trans hlen⟩

/-- Settles O11. -/
theorem donorAndTrunkStatesStayLegal : Obligations.DonorAndTrunkStatesStayLegal :=
  fun _ _ hl hs => (step_lawful hs).links hl

/-- Settles O12: the hub at power-on is fresh, and no link is aligned. -/
theorem resetMeetsTheInvariants : Obligations.ResetMeetsTheInvariants := by
  have hf : State.reset.hub.fresh :=
    ⟨rfl, rfl, rfl, rfl, rfl, rfl, rfl, rfl, fun p => by simp [State.reset, Hub.init, Lnk.init, RemoteLink.init, Measurement.init], rfl⟩
  refine ⟨hf.factorsInRange, hf.equalized, hf.linesFull, hf.movesLawful, hf.placesLawful, hf.listsBounded,
    hf.answersBounded (Nat.zero_le 8), fun d => .inl ?_, .inl rfl⟩
  simp [State.reset, Hub.init, Lnk.init, LinkCore.init]

theorem inService_eq_true {h : Hub} : h.inService = true ↔ h.mga.hubState = .service := by simp [Hub.inService]

theorem inService_eq_false {h : Hub} : h.inService = false ↔ h.mga.hubState = .config := by
  cases hs : h.mga.hubState <;> simp [Hub.inService, hs]

/-- Settles O13: requests leave the hub state alone, and an event of a boundary changes it by a waiting request. -/
theorem hubStateChangesOnlyByItsRequests : Obligations.HubStateChangesOnlyByItsRequests := by
  intro c s t he
  simp only [inService_eq_true, inService_eq_false]
  by_cases hr : c.isRequest = true
  · obtain ⟨f, hf, hk⟩ := exec_request hr
    cases (hf s).symm.trans he
    have hsame := (hk s.hub).hubState
    exact ⟨fun h1 h2 => (nomatch h1.symm.trans (hsame.symm.trans h2)),
      fun h1 h2 => (nomatch h1.symm.trans (hsame.symm.trans h2))⟩
  · by_cases hp : c = .powerOn
    · subst hp
      cases (exec_powerOn s).symm.trans he
      exact ⟨fun _ _ => .inl rfl, fun _ h2 => nomatch h2⟩
    · obtain ⟨f, hf, hk⟩ := exec_event ⟨hp, by simpa using hr⟩
      cases (hf s).symm.trans he
      obtain ⟨hstate, hbusy⟩ := openBoundary_agent s.hub
      have hacts := (hk s.hub.openBoundary).hubState
      rw [hstate, hbusy] at hacts
      rcases hacts with hsame | ⟨hb, hnew, hc⟩ | ⟨hb, hnew, hc⟩
      · exact ⟨fun h1 h2 => (nomatch h1.symm.trans (hsame.symm.trans h2)),
          fun h1 h2 => (nomatch h1.symm.trans (hsame.symm.trans h2))⟩
      · exact ⟨fun _ h2 => (nomatch hnew.symm.trans h2), fun _ _ => ⟨hb, hc⟩⟩
      · exact ⟨fun _ _ => .inr ⟨hb, hc⟩, fun _ h2 => (nomatch hnew.symm.trans h2)⟩

/-- Settles O6: no event of a boundary runs the clock of frames, so the beginning of the boundary alone does. -/
theorem frameNumberCountsBoundaries : Obligations.FrameNumberCountsBoundaries := by
  intro c s t he
  refine ⟨fun hc => ?_, fun hc => ?_, fun hc => ?_⟩
  · obtain ⟨f, hf, hk⟩ := exec_event hc
    cases (hf s).symm.trans he
    have ha := hk s.hub.openBoundary
    refine ⟨ha.frameNumber.trans (openBoundary_frameNumber s.hub), ?_⟩
    rw [ha.isOpen, openBoundary_isOpen, Instr.beginsFrame]
    split <;> simp_all
  · obtain ⟨f, hf, hk⟩ := exec_request hc
    cases (hf s).symm.trans he
    exact ⟨(hk s.hub).frameNumber, (hk s.hub).isOpen⟩
  · subst hc
    cases (exec_powerOn s).symm.trans he
    rfl

end Sys2Proof
end

section
/-! Steps and boundaries: power-on, the end of a frame, and the events that are not due (O1 to O5). -/

namespace Sys2Proof.Machine

/-! ## The tables at power-on -/

theorem replicate_get {α : Type} {n : Nat} (x : α) (i : Fin n) : (Vector.replicate n x)[i] = x :=
  Vector.getElem_replicate i.isLt

theorem replicate_get₂ {α : Type} {n m : Nat} (x : α) (i : Fin n) (j : Fin m) :
    (Vector.replicate n (Vector.replicate m x))[i][j] = x := by
  rw [replicate_get, replicate_get]

theorem reset_remote (p : PortId) : State.reset.hub.lnk.remote[p] = .init .disabled false := replicate_get _ p
theorem reset_donor (d : DonorId) : State.reset.hub.lnk.donor[d] = .init .down false := replicate_get _ d

theorem reset_core (l : LinkId) : ∃ st, State.reset.hub.core l = .init st false := by
  cases l with
  | remote p => exact ⟨_, congrArg RemoteLink.core (reset_remote p)⟩
  | donor d => exact ⟨_, reset_donor d⟩
  | trunk => exact ⟨_, rfl⟩

theorem reset_plm (p : PortId) : State.reset.hub.plm[p] = .init := replicate_get _ p
theorem reset_eq (p : PortId) : State.reset.hub.deq.ports[p] = .init := replicate_get _ p
theorem reset_meter (p : PortId) : State.reset.hub.lvm.ports[p] = .init := replicate_get _ p
theorem reset_balance (p : PortId) : State.reset.hub.sbl.ports[p] = .init := replicate_get _ p
theorem reset_cte (p : PortId) : State.reset.hub.cte.ports[p] = .init := replicate_get _ p
theorem reset_detectors (p : PortId) : State.reset.hub.fsv.detectors[p] = .init := replicate_get _ p

theorem reset_faultRecord (k : FaultKey) : State.reset.hub.faultRecord k = .init := by
  cases k with
  | port p c => exact (congrArg (fun v : Vector FaultRecord 8 => v[c.idx]) (replicate_get _ p)).trans (replicate_get _ _)
  | donor d => exact replicate_get _ d

end Sys2Proof.Machine

namespace Sys2Proof
open Machine

/-- Settles O1. -/
theorem stepTakesTheFrontCommand : Obligations.StepTakesTheFrontCommand := ⟨fun _ _ => rfl, fun _ => step_nil⟩

/-- Settles O2: every table of the power-on state is made of equal items. -/
theorem resetValues : Obligations.ResetValues := by
  unfold Obligations.ResetValues
  simp only [reset_faultRecord, Hub.linkOf, Hub.assignOf, reset_remote, reset_donor, reset_plm, reset_eq, reset_meter,
    reset_balance, reset_cte, reset_detectors]
  refine ⟨rfl, rfl, fun p => ⟨rfl, rfl, rfl, rfl, rfl, rfl, rfl⟩, fun d => rfl, rfl, fun l => ?core, fun p => replicate_get _ p,
    fun p b => replicate_get₂ _ p b, fun c => ⟨replicate_get _ c, replicate_get _ c⟩, fun o => replicate_get _ o,
    fun p b => ?lane, fun p => ⟨rfl, rfl⟩, fun z => replicate_get _ z,
    fun p => ⟨rfl, rfl, rfl, rfl, rfl, rfl, rfl, rfl, rfl⟩, fun p b => replicate_get₂ _ p b, fun p b z => ?reason, fun z b => ?record,
    fun p b => replicate_get _ b,
    fun p => ⟨rfl, rfl, rfl, rfl⟩, rfl, rfl, fun p => ⟨rfl, rfl, rfl, rfl, rfl, rfl⟩, fun z => replicate_get _ z,
    rfl, rfl, rfl, rfl, rfl, rfl, rfl, fun k => ⟨rfl, rfl, rfl, rfl, rfl⟩, fun p => ⟨rfl, rfl, rfl⟩,
    rfl, rfl, rfl, rfl, rfl, rfl, rfl, rfl, fun p => ⟨replicate_get _ p, rfl, rfl, rfl, rfl, rfl, rfl⟩,
    rfl, rfl, rfl, rfl, rfl, rfl, rfl, rfl, rfl, rfl, rfl, rfl, rfl, rfl, rfl,
    rfl, rfl, rfl, rfl, rfl, rfl, rfl, rfl, rfl, rfl, rfl, rfl, rfl, fun n => replicate_get _ n⟩
  case core =>
    obtain ⟨st, hl⟩ := reset_core l
    rw [hl]
    exact ⟨rfl, rfl, rfl, rfl, rfl, rfl, rfl⟩
  case lane =>
    have hl : PortLimiter.init.lanes[b] = .init 0 := replicate_get _ b
    rw [hl]
    exact ⟨rfl, rfl, rfl, rfl, rfl, rfl, rfl⟩
  case reason =>
    have hr : State.reset.hub.ulc.reasons[p][b] = .replicate 12 (some .link) := replicate_get₂ _ p b
    rw [hr]
    exact replicate_get _ z
  case record =>
    have hr : State.reset.hub.ulc.records[z][b] = .init := replicate_get₂ _ z b
    rw [hr]
    exact ⟨rfl, rfl, rfl⟩

end Sys2Proof

namespace Sys2Proof.Machine

/-! ## The end of a frame -/

theorem exec_frameEnd {s : State} (ho : s.hub.bd.isOpen = false) :
    exec (.frameBoundary .frameEnd) s = .next { s with hub := s.hub.beginBoundary } := by
  rw [← openBoundary_of_closed ho]
  rfl

theorem beginBoundary_core (h : Hub) (l : LinkId) : h.beginBoundary.core l = (h.core l).awaitFrame := by
  cases l <;> simp [Hub.beginBoundary, Lnk.boundary, Hub.core]

theorem beginBoundary_faultRecord (h : Hub) (k : FaultKey) :
    h.beginBoundary.faultRecord k = { h.faultRecord k with fresh := false } := by
  cases k <;> simp [Hub.beginBoundary, Hub.faultRecord]

theorem beginBoundary_remote (h : Hub) (p : PortId) : h.beginBoundary.lnk.remote[p] =
    { h.lnk.remote[p] with core := h.lnk.remote[p].core.awaitFrame, meas := h.lnk.remote[p].meas.age } := by
  simp [Hub.beginBoundary, Lnk.boundary]

theorem beginBoundary_meter (h : Hub) (p : PortId) :
    h.beginBoundary.lvm.ports[p] = h.lvm.ports[p].frameUpdate h.frame[p] := by
  simp [Hub.beginBoundary]

theorem Measurement.age_eq (m : Measurement) :
    m.age = { m with elapsed := if m.running then min (m.elapsed + 1) 16 else m.elapsed } := by
  unfold Measurement.age bump
  split <;> rfl

theorem PortMeter.frameUpdate_frame (f : FrameInput) (m : PortMeter) : m.frameUpdate f =
    { m with meters := (m.frameUpdate f).meters, void := (m.frameUpdate f).void, cleared := false } := by
  unfold PortMeter.frameUpdate
  split <;> rfl

end Sys2Proof.Machine

namespace Sys2Proof
open Machine

/-- Settles O3. -/
theorem frameEndBeginsABoundary : Obligations.FrameEndBeginsABoundary := by
  intro s ho
  refine ⟨_, exec_frameEnd ho, rfl, rfl, rfl, rfl, beginBoundary_core s.hub, fun p => ?_, fun p => ?_, rfl, rfl,
    beginBoundary_faultRecord s.hub, fun p => ⟨?_, ?_, ?_⟩, rfl⟩
  · rw [beginBoundary_remote, Measurement.age_eq]
  · have hc : s.hub.beginBoundary.core (.remote p) = s.hub.lnk.remote[p].core.awaitFrame := beginBoundary_core s.hub _
    simp only [hc]
    rw [beginBoundary_remote, Measurement.age_eq]
  · simp [Hub.beginBoundary]
  · simp [Hub.beginBoundary]
  · rw [beginBoundary_meter]
    exact PortMeter.frameUpdate_frame _ _

/-- Settles O4: the classes of R97 in the order of its cases. -/
theorem metersClassTheEndedFrame : Obligations.MetersClassTheEndedFrame := by
  intro s p b ho
  refine ⟨_, exec_frameEnd ho, ?_⟩
  dsimp only
  rw [beginBoundary_meter]
  generalize s.hub.lvm.ports[p] = m
  generalize s.hub.frame[p] = f
  unfold PortMeter.frameUpdate
  split
  · simp [Meter.loopUpdate]
  · simp only [tab_get, Meter.frameUpdate]
    by_cases hg : f.verdict = some .good
    all_goals
      cases f.link with
      | up => cases f.mask.getLsbD b.val <;> simp [hg, LinkState.aligned, bump]
      | disabled | down | hunt | proving => simp [hg, LinkState.aligned, bump]

end Sys2Proof
end

section
/-! Events of a boundary that are not due change nothing (O5). -/

namespace Sys2Proof.Machine

section NotDue
variable {h : Hub}

theorem receiveFrame_of_not {l : LinkId} (done : List Arrival) (hn : ¬ (h.core l).handed = false) :
    h.receiveFrame l done = h := by
  unfold Hub.receiveFrame
  simp only [Bool.not_eq_false] at hn
  exact if_pos hn

theorem measurementStart_of_not (hn : ¬ ∃ tag p, h.mga.busy = some (.measureStart tag p) ∧ h.mga.busyRipe = true) :
    h.measurementStart = h := by
  unfold Hub.measurementStart
  split
  next tag p hb => exact if_neg fun hr => hn ⟨tag, p, hb, hr⟩
  · rfl

theorem measurementTimeout_of_not {p : PortId} (hn : ¬ (h.lnk.remote[p].meas.running = true
    ∧ 16 ≤ h.lnk.remote[p].meas.elapsed ∧ h.lnk.remote[p].meas.taken < 4 ∧ h.lnk.remote[p].core.handed = true)) :
    h.measurementTimeout p = h := by
  unfold Hub.measurementTimeout
  exact if_neg fun hc => hn ⟨by tauto, by tauto, by tauto, by tauto⟩

theorem identifyReply_of_not
    (hn : ¬ ∃ x f, h.cte.transaction = some x ∧ x.kind = .identify ∧ h.replyOf x = some f) : h.identifyReply = h := by
  unfold Hub.identifyReply
  split
  · rfl
  next t ht =>
    split
    next f hk hf => exact absurd ⟨t, f, ht, hk, hf⟩ hn
    · rfl

theorem statusReply_of_not
    (hn : ¬ ∃ x f, h.cte.transaction = some x ∧ x.kind = .status ∧ h.replyOf x = some f) : h.statusReply = h := by
  unfold Hub.statusReply
  split
  · rfl
  next t ht =>
    split
    next f hk hf => exact absurd ⟨t, f, ht, hk, hf⟩ hn
    · rfl

theorem cteSelect_of_not (hn : ¬ (h.cte.transaction = none ∧ h.bd.selectDone = false)) : h.cteSelect = h := by
  unfold Hub.cteSelect
  refine if_pos ?_
  rw [Option.isSome_iff_ne_none]
  by_cases ht : h.cte.transaction = none
  · exact .inr (by simpa [ht] using hn)
  · exact .inl ht

theorem attemptMiss_of_not (hn : ¬ ∃ x, h.cte.transaction = some x ∧ x.remaining = 0
    ∧ h.lnk.remote[x.port].core.handed = true ∧ h.replyOf x = none) : h.attemptMiss = h := by
  unfold Hub.attemptMiss
  split
  · rfl
  next t ht =>
    refine if_pos ?_
    by_contra hc
    push Not at hc
    obtain ⟨hr, hh, hf⟩ := hc
    exact hn ⟨t, ht, hr, by simpa using hh, by simpa using hf⟩

theorem pollInterval_of_not (hn : ¬ h.cte.pollDue = true) : h.pollInterval = h := if_neg hn

theorem secondMark_of_not (ho : h.bd.isOpen = true) (hn : ¬ 16000 ≤ h.mga.frameCount) : h.secondMark = h := by
  unfold Hub.secondMark
  exact if_pos (by simp [Hub.markDue, ho, hn])

theorem windowEnd_of_not (hn : ¬ h.tables.window ≤ h.lvm.windowCount) : h.windowEnd = h :=
  if_pos (Nat.lt_of_not_le hn)

theorem limiterUpdate_of_done (hd : h.bd.limiterDone = true) : h.limiterUpdate = h := if_pos hd

theorem holdRestore_of_not {p : PortId} {b : Lane}
    (hn : ¬ (h.bd.limiterDone = false ∨ h.plm[p].lanes[b].restoreDue = true)) : h.holdRestore p b = h := by
  rw [not_or, Bool.not_eq_false] at hn
  unfold Hub.holdRestore
  rw [limiterUpdate_of_done hn.1]
  exact if_neg hn.2

theorem overdrivePresent_of_not {p : PortId} (hn : ¬ (h.bd.limiterDone = false
    ∨ h.plm[p].flag = false ∧ ∃ b : Lane, h.plm[p].lanes[b].overdrive = 16)) : h.overdrivePresent p = h := by
  rw [not_or, Bool.not_eq_false] at hn
  unfold Hub.overdrivePresent
  rw [limiterUpdate_of_done hn.1]
  exact if_neg fun hc => hn.2 (by simpa using hc)

theorem overdriveClear_of_not {p : PortId}
    (hn : ¬ (h.bd.limiterDone = false ∨ h.plm[p].flag = true ∧ h.plm[p].clean = 16)) : h.overdriveClear p = h := by
  rw [not_or, Bool.not_eq_false] at hn
  unfold Hub.overdriveClear
  rw [limiterUpdate_of_done hn.1]
  exact if_neg hn.2

theorem takeCell_of_not {k : CellType} (act : Cell → Hub → Hub) (hn : ¬ ∃ x, h.mga.cell = some x ∧ x.kind = k) :
    h.takeCell k act = h := by
  unfold Hub.takeCell
  split
  · rfl
  next c hc => exact if_neg fun hk => hn ⟨c, hc, hk⟩

theorem loadTimeout_of_not (hn : ¬ (h.tld.phase = .opened ∧ 16000 ≤ h.tld.silence)) : h.loadTimeout = h := if_neg hn

theorem tableActivation_of_not (hn : ¬ (h.tld.scheduled ≠ none ∧ h.tld.scheduledRipe = true)) :
    h.tableActivation = h := by
  unfold Hub.tableActivation
  split
  · rfl
  next id img hs => exact if_neg fun hr => hn ⟨by simp [hs], hr⟩

theorem serviceEntry_of_not (hn : ¬ ∃ tag, h.mga.busy = some (.enterService tag) ∧ h.mga.busyRipe = true) :
    h.serviceEntry = h := by
  unfold Hub.serviceEntry
  split
  next tag hb => exact if_neg fun hr => hn ⟨tag, hb, hr⟩
  · rfl

theorem restartEffect_of_not (hn : ¬ (h.mga.busy = some .restart ∧ h.mga.busyRipe = true)) : h.restartEffect = h := by
  unfold Hub.restartEffect
  split
  next hb => exact if_neg fun hr => hn ⟨hb, hr⟩
  · rfl

theorem portResetEffect_of_not (hn : ¬ ∃ tag p, h.mga.busy = some (.portReset tag p) ∧ h.mga.busyRipe = true) :
    h.portResetEffect = h := by
  unfold Hub.portResetEffect
  split
  next tag p hb => exact if_neg fun hr => hn ⟨tag, p, hb, hr⟩
  · rfl

theorem holdEffect_of_not (hn : ¬ ∃ tag o, h.mga.busy = some (.operatorHold tag o) ∧ h.mga.busyRipe = true) :
    h.holdEffect = h := by
  unfold Hub.holdEffect
  split
  next tag o hb => exact if_neg fun hr => hn ⟨tag, o, hb, hr⟩
  · rfl

theorem releaseEffect_of_not (hn : ¬ ∃ tag o, h.mga.busy = some (.operatorRelease tag o) ∧ h.mga.busyRipe = true) :
    h.releaseEffect = h := by
  unfold Hub.releaseEffect
  split
  next tag o hb => exact if_neg fun hr => hn ⟨tag, o, hb, hr⟩
  · rfl

theorem balanceInterval_of_not (hn : ¬ (h.inService = true ∧ h.sbl.intervalDue = true)) : h.balanceInterval = h :=
  if_neg hn

theorem quietEntry_of_not {p : PortId} (hn : ¬ h.sbl.ports[p].quietDue = true) : h.quietEntry p = h := if_neg hn

theorem moveStart_of_not (hn : ¬ (h.sbl.flight = none ∧ h.bd.headSeen = false)) : h.moveStart = h := by
  unfold Hub.moveStart
  split
  next e rest hf _ => exact if_pos (by simpa [hf] using hn)
  next hf _ =>
    have hs : h.bd.headSeen = true := by simpa [hf] using hn
    rw [← hs]
  · rfl

theorem rampStep_of_not (hn : ¬ ∃ m, h.sbl.flight = some m ∧ h.bd.rampDue = true ∧ m.ending = none
    ∧ m.step + 1 < m.length) : h.rampStep = h := by
  unfold Hub.rampStep
  split
  · rfl
  next m hf => exact if_neg fun hc => hn ⟨m, hf, hc⟩

theorem moveCommit_of_not (hn : ¬ ∃ m, h.sbl.flight = some m ∧ h.bd.rampDue = true ∧ m.ending = none
    ∧ m.length ≤ m.step + 1) : h.moveCommit = h := by
  unfold Hub.moveCommit
  split
  · rfl
  next m hf => exact if_neg fun hc => hn ⟨m, hf, hc⟩

theorem moveAbandon_of_not (hn : ¬ ∃ m, h.sbl.flight = some m ∧ h.bd.abandonDue = true ∧ m.ending ≠ none) :
    h.moveAbandon = h := by
  unfold Hub.moveAbandon
  split
  · rfl
  next m hf =>
    split
    next c hc => exact if_neg fun hd => hn ⟨m, hf, hd, by simp [hc]⟩
    · rfl

theorem coolingExpiry_of_not {k : FaultKey}
    (hn : ¬ ((h.faultRecord k).state = .cooling ∧ h.timerOut (h.faultRecord k) = true)) : h.coolingExpiry k = h := by
  unfold Hub.coolingExpiry
  refine if_pos ?_
  by_contra hc
  exact hn (by simpa [not_or] using hc)

theorem settleExpiry_of_not {k : FaultKey} (hn : ¬ ((h.faultRecord k).state = .idle ∧ 0 < (h.faultRecord k).retries
    ∧ h.timerOut (h.faultRecord k) = true)) : h.settleExpiry k = h := if_neg hn

theorem deqRecompute_of_done (hd : h.bd.deqDone = true) : h.deqRecompute = h := if_pos hd
theorem join_of_done (hd : h.bd.joinDone = true) : h.join = h := if_pos hd
theorem trunkSupply_of_done (hd : h.bd.supplyDone = true) : h.trunkSupply = h := if_pos hd

/-- A part of FRAME_BOUNDARY that has been done changes nothing more. -/
theorem frameBoundary_of_not {part : BoundaryPart} (hn : ¬ h.due (.frameBoundary part)) : h.frameBoundary part = h := by
  cases part with
  | whole => exact absurd trivial hn
  | frameEnd => rfl
  | limiterUpdate => exact limiterUpdate_of_done (Bool.eq_true_of_not_eq_false hn)
  | deqRecompute => exact deqRecompute_of_done (Bool.eq_true_of_not_eq_false hn)
  | combiningJoin => exact join_of_done (Bool.eq_true_of_not_eq_false hn)
  | trunkSupply => exact trunkSupply_of_done (Bool.eq_true_of_not_eq_false hn)

theorem cratePresent_of_not {p : PortId} (hn : ¬ h.fsv.detectors[p].crcDue = true) : h.cratePresent p = h := if_neg hn
theorem overloadPresent_of_not {p : PortId} (hn : ¬ h.fsv.detectors[p].overloadDue = true) :
    h.overloadPresent p = h := if_neg hn
theorem silentPresent_of_not {p : PortId} (hn : ¬ h.fsv.detectors[p].silentDue = true) : h.silentPresent p = h :=
  if_neg hn

end NotDue

theorem exec_of_unchanged {c : Instr} {s : State} {f : Hub → Hub}
    (he : exec c s = .next { s with hub := f s.hub.openBoundary }) (hf : f s.hub.openBoundary = s.hub.openBoundary) :
    exec c s = .next { s with hub := s.hub.openBoundary } := hf ▸ he

/-- An event that is not due at the boundary under way changes nothing more. -/
theorem exec_of_not_due {c : Instr} {s : State} (hc : c.isBoundaryEvent) (hn : ¬ s.hub.openBoundary.due c) :
    exec c s = .next { s with hub := s.hub.openBoundary } := by
  obtain ⟨hp, hr⟩ := hc
  cases c with
  | powerOn => exact absurd rfl hp
  | signalPresent | signalAbsent => exact absurd trivial hn
  | frameBoundary part => exact exec_of_unchanged rfl (frameBoundary_of_not hn)
  | receiveFrame l done => exact exec_of_unchanged rfl (receiveFrame_of_not done hn)
  | linkAligned l => exact exec_of_unchanged rfl (linkAligned_of_not hn)
  | linkAlignmentLost l => exact exec_of_unchanged rfl (alignmentLost_of_not hn)
  | delayMeasurementStart => exact exec_of_unchanged rfl (measurementStart_of_not hn)
  | measurementDone p => exact exec_of_unchanged rfl (measurementDone_of_not hn)
  | measurementTimeout p => exact exec_of_unchanged rfl (measurementTimeout_of_not hn)
  | identifyReply => exact exec_of_unchanged rfl (identifyReply_of_not hn)
  | statusReply => exact exec_of_unchanged rfl (statusReply_of_not hn)
  | cteSelect => exact exec_of_unchanged rfl (cteSelect_of_not hn)
  | attemptMiss => exact exec_of_unchanged rfl (attemptMiss_of_not hn)
  | pollInterval => exact exec_of_unchanged rfl (pollInterval_of_not hn)
  | secondMark => exact exec_of_unchanged rfl (secondMark_of_not (openBoundary_isOpen _) hn)
  | crcRatePresent p => exact exec_of_unchanged rfl (cratePresent_of_not hn)
  | ulSilentPresent p => exact exec_of_unchanged rfl (silentPresent_of_not hn)
  | windowEnd => exact exec_of_unchanged rfl (windowEnd_of_not hn)
  | ulOverloadPresent p => exact exec_of_unchanged rfl (overloadPresent_of_not hn)
  | holdRestore p b => exact exec_of_unchanged rfl (holdRestore_of_not hn)
  | dlOverdrivePresent p => exact exec_of_unchanged rfl (overdrivePresent_of_not hn)
  | dlOverdriveClear p => exact exec_of_unchanged rfl (overdriveClear_of_not hn)
  | idleCell | requestCell | dataCell | checkCell | responseCell => exact exec_of_unchanged rfl (takeCell_of_not _ hn)
  | loadTimeout => exact exec_of_unchanged rfl (loadTimeout_of_not hn)
  | tableActivation => exact exec_of_unchanged rfl (tableActivation_of_not hn)
  | serviceEntry => exact exec_of_unchanged rfl (serviceEntry_of_not hn)
  | restartEffect => exact exec_of_unchanged rfl (restartEffect_of_not hn)
  | portResetEffect => exact exec_of_unchanged rfl (portResetEffect_of_not hn)
  | operatorHoldEffect => exact exec_of_unchanged rfl (holdEffect_of_not hn)
  | operatorReleaseEffect => exact exec_of_unchanged rfl (releaseEffect_of_not hn)
  | balanceInterval => exact exec_of_unchanged rfl (balanceInterval_of_not hn)
  | quietEntry p => exact exec_of_unchanged rfl (quietEntry_of_not hn)
  | moveStart => exact exec_of_unchanged rfl (moveStart_of_not hn)
  | rampStep => exact exec_of_unchanged rfl (rampStep_of_not hn)
  | moveCommit => exact exec_of_unchanged rfl (moveCommit_of_not hn)
  | moveAbandon => exact exec_of_unchanged rfl (moveAbandon_of_not hn)
  | coolingExpiry k => exact exec_of_unchanged rfl (coolingExpiry_of_not hn)
  | settleExpiry k => exact exec_of_unchanged rfl (settleExpiry_of_not hn)
  | _ => cases hr

end Sys2Proof.Machine

namespace Sys2Proof
open Machine

/-- Settles O5. -/
theorem boundaryEventsShareOneBoundary : Obligations.BoundaryEventsShareOneBoundary := by
  refine ⟨fun c s hc ho => ?_, fun c s hc hn => exec_of_not_due hc hn⟩
  obtain ⟨f, hf⟩ := exec_boundaryEvent hc
  rw [hf, hf, openBoundary_of_closed ho, openBoundary_of_isOpen (beginBoundary_isOpen _)]

end Sys2Proof
end

section
/-! What a presentation and a clearing of a fault condition do, in the terms of the statements: the record, the history,
the quiet state and the move of the port, and the notices (R126, R131, R137, R142, R143, R146 to R148). -/

namespace Sys2Proof.Machine

/-! ## The history -/

theorem written_iff {f g : Fsv} {xs : List HistoryEntry} : f.written g xs ↔ (f.history.length ≤ 16 →
    g.history = lastSixteen (f.history ++ xs)
    ∧ g.lost = if f.history.length + xs.length - 16 = 0 then f.lost
        else min (f.lost + (f.history.length + xs.length - 16)) (2 ^ 32 - 1)) := Iff.rfl

theorem Fsv.written.trans {f g k : Fsv} {xs ys : List HistoryEntry} (x : f.written g xs) (y : g.written k ys) :
    f.written k (xs ++ ys) := by
  rw [written_iff] at *
  intro hf
  obtain ⟨hg, hlost⟩ := x hf
  obtain ⟨hk, hlost'⟩ := y (hg ▸ lastSixteen_length _)
  have hlen : g.history.length = min 16 (f.history.length + xs.length) := by
    rw [hg, lastSixteen, List.length_drop, List.length_append]
    omega
  refine ⟨by rw [hk, hg, lastSixteen_append, List.append_assoc], ?_⟩
  rw [hlost', hlost, hlen, List.length_append]
  split_ifs <;> omega

theorem Fsv.written.nil {f g : Fsv} (hh : g.history = f.history) (hl : g.lost = f.lost) : f.written g [] := by
  rw [written_iff]
  intro hf
  rw [hh, hl, List.append_nil, lastSixteen, List.length_nil, Nat.add_zero, Nat.sub_eq_zero_of_le hf]
  exact ⟨rfl, rfl⟩

theorem written_writeHistory (h : Hub) (k : FaultKey) (t : Transition) :
    h.fsv.written (h.writeHistory k t).fsv [⟨k, t, h.mga.seconds⟩] := by
  rw [written_iff]
  intro hf
  refine ⟨history_writeHistory h k t hf, ?_⟩
  simp only [Hub.writeHistory, sat32, List.length_singleton]
  split_ifs <;> omega

/-! ## Actions in effect -/

theorem actionsOf_congr (t : Tables) {v w : Vector FaultRecord 8}
    (hv : ∀ c : PortClass, (v[c.idx]).acts (t.responseMode c.idx.val) = (w[c.idx]).acts (t.responseMode c.idx.val)) :
    actionsOf t v = actionsOf t w := by
  unfold actionsOf
  simp only [hv]

theorem actions_congr {h h' : Hub} (ht : h'.tables = h.tables) {p : PortId}
    (hv : ∀ c : PortClass, (h'.faultRecord (.port p c)).acts (h.tables.responseMode c.idx.val)
      = (h.faultRecord (.port p c)).acts (h.tables.responseMode c.idx.val)) : h'.actions p = h.actions p := by
  unfold Hub.actions
  rw [ht]
  exact actionsOf_congr _ hv

theorem actions_of_records {h g : Hub} {p : PortId} (ht : h.tables = g.tables)
    (hr : ∀ c, h.faultRecord (.port p c) = g.faultRecord (.port p c)) : h.actions p = g.actions p :=
  actions_congr ht fun c => by rw [hr c]

theorem tables_putRecord (h : Hub) (k : FaultKey) (r : FaultRecord) : (h.putRecord k r).tables = h.tables := by
  cases k <;> rfl

theorem fsv_putRecord_rest (h : Hub) (k : FaultKey) (r : FaultRecord) :
    (h.putRecord k r).fsv.history = h.fsv.history ∧ (h.putRecord k r).fsv.lost = h.fsv.lost
    ∧ (h.putRecord k r).fsv.detectors = h.fsv.detectors := by
  cases k <;> exact ⟨rfl, rfl, rfl⟩

/-- A record that puts its class's actions in effect as before leaves every action set as it was. -/
theorem actions_putRecord_of_acts {h : Hub} {k : FaultKey} {r : FaultRecord}
    (hr : r.acts (h.tables.responseMode k.row) = (h.faultRecord k).acts (h.tables.responseMode k.row)) (q : PortId) :
    (h.putRecord k r).actions q = h.actions q := by
  refine actions_congr (tables_putRecord h k r) fun c => ?_
  rw [faultRecord_putRecord]
  split
  next he =>
    subst he
    exact hr
  next => rfl

theorem actions_putRecord_other {h : Hub} {p q : PortId} {c : PortClass} {r : FaultRecord} (hq : q ≠ p) :
    (h.putRecord (.port p c) r).actions q = h.actions q := by
  refine actions_congr (tables_putRecord h _ r) fun e => ?_
  rw [faultRecord_putRecord, if_neg fun he => hq (FaultKey.port.inj he).1]

/-! ## Moves and quiet states -/

theorem markMove_eq (h : Hub) (p : PortId) (c : EndingCause) : h.markMove p c =
    { h with sbl := { h.sbl with flight := h.sbl.flight.map fun m =>
      if m.entry.port = p ∧ m.ending = none then { m with ending := some c } else m } } := by
  unfold Hub.markMove
  cases hf : h.sbl.flight with
  | none =>
    change h = { h with sbl := { h.sbl with flight := none } }
    rw [← hf]
  | some m =>
    rw [Option.map_some]
    dsimp only
    split
    · rfl
    · rw [← hf]

/-- What a record that leaves IDLE, or puts actions in effect, does in SBL (R126, R131, R146). -/
def Sbl.acted (b : Sbl) (p : PortId) (wakes marks : Bool) : Sbl :=
  { b with
    ports := if wakes then upd b.ports p fun x =>
        { x with quiet := false, quietDue := false, quietCount := 0, wakeCause := .fault } else b.ports
    flight := b.flight.map fun m =>
      if marks ∧ m.entry.port = p ∧ m.ending = none then { m with ending := some .action } else m }

theorem Sbl.acted_nothing (b : Sbl) (p : PortId) : b.acted p false false = b := by
  simp [Sbl.acted]

/-- A change of a port's record in closed form, a RAU_NO_REPLY record that returns to IDLE apart (R155). -/
theorem changeRecord_eq (h : Hub) (p : PortId) (c : PortClass) (r : FaultRecord)
    (hi : ¬ (c = .rauNoReply ∧ (h.faultRecord (.port p c)).state ≠ .idle ∧ r.state = .idle)) :
    h.changeRecord (.port p c) r =
      let wakes := decide ((h.faultRecord (.port p c)).state = .idle ∧ r.state ≠ .idle) && h.isQuiet p
      { h with
        fsv := (h.putRecord (.port p c) r).fsv
        sbl := h.sbl.acted p wakes (((h.putRecord (.port p c) r).actions p).minus (h.actions p)).silences
        mga := if wakes then h.mga.raised .quiet else h.mga } := by
  unfold Hub.changeRecord
  dsimp only
  rw [if_neg hi]
  unfold Hub.actionsEntered
  rw [markMove_eq]
  generalize (((h.putRecord (.port p c) r).actions p).minus (h.actions p)).silences = marks
  have hmark (g : Hub) : (if marks = true then { g with sbl := { g.sbl with flight := g.sbl.flight.map fun m =>
        if m.entry.port = p ∧ m.ending = none then { m with ending := some .action } else m } } else g)
      = { g with sbl := { g.sbl with flight := g.sbl.flight.map fun m =>
        if marks = true ∧ m.entry.port = p ∧ m.ending = none then { m with ending := some .action } else m } } := by
    cases marks <;> simp
  rw [hmark]
  by_cases hw : (h.faultRecord (.port p c)).state = .idle ∧ r.state ≠ .idle
  · rw [if_pos hw, decide_eq_true hw, Bool.true_and, wakePort_eq]
    cases hq : h.isQuiet p
    · exact if_neg (show ¬ h.isQuiet p = true by simp [hq])
    · exact if_pos (show h.isQuiet p = true from hq)
  · rw [if_neg hw, decide_eq_false hw, Bool.false_and]
    rfl

/-! ## Pending marks -/

theorem Notice.idx_inj {a b : Notice} : a.idx = b.idx ↔ a = b := by
  cases a <;> cases b <;> simp [Notice.idx]

theorem Mga.marked.same {m m' : Mga} (hm : m'.marks = m.marks) : m.marked m' fun _ => False := by
  intro n
  rw [hm]
  simp

theorem Mga.marked_raised (m : Mga) (n : Notice) : m.marked (m.raised n) fun k => k = n := by
  intro k
  simp only [Mga.raised, Fin.getElem_fin, Vector.getElem_set, ← Fin.ext_iff, Notice.idx_inj]
  by_cases hk : n = k
  · simp [hk]
  · simp [hk, Ne.symm hk]

theorem Mga.marked.trans {a b c : Mga} {P Q : Notice → Prop} (x : a.marked b P) (y : b.marked c Q) :
    a.marked c fun n => P n ∨ Q n := by
  intro n
  rw [y n, x n, or_assoc]

theorem Mga.marked.congr {a b : Mga} {P Q : Notice → Prop} (x : a.marked b P) (hpq : ∀ n, P n ↔ Q n) : a.marked b Q := by
  intro n
  rw [x n, hpq]

theorem Mga.marked.raise_if {m m' : Mga} {P : Notice → Prop} (x : m.marked m' P) (b : Bool) (n : Notice) :
    m.marked (if b then m'.raised n else m') fun k => P k ∨ k = n ∧ b = true := by
  cases b with
  | true => simpa using x.trans (m'.marked_raised n)
  | false => simpa using x

/-! ## A presentation -/

/-- A detection in closed form. -/
theorem detect_eq (h : Hub) (k : FaultKey) (hp : (h.faultRecord k).present = false) : h.detect k =
    let r := h.faultRecord k
    let g := h.changeRecord k (r.presented h.tables k.row)
    if r.detects h.tables k.row then
      if r.enters h.tables k.row then (g.writeHistory k .detected).raise .fault else g.writeHistory k .detected
    else g := by
  unfold Hub.detect FaultRecord.presented FaultRecord.enters FaultRecord.detects
  dsimp only
  generalize h.faultRecord k = r at hp ⊢
  obtain ⟨st, present, occurrences, retries, timer, fresh⟩ := r
  obtain rfl : present = false := hp
  cases hm : h.tables.responseMode k.row <;> cases st <;> simp [detectedState, bump]

theorem supervises_acted {h h' : Hub} {p : PortId} {leaves : Prop} [Decidable leaves]
    (hs : h'.sbl = h.sbl.acted p (decide leaves && h.isQuiet p) (((h'.actions p).minus (h.actions p)).silences))
    (ho : ∀ q, q ≠ p → h'.actions q = h.actions q) :
    h.supervises h' fun q => if q = p ∧ leaves then some .fault else none := by
  unfold Hub.supervises
  rw [hs, Sbl.acted]
  congr 1
  · refine Vector.ext fun i hi => ?_
    rw [tab_getElem]
    by_cases hl : leaves
    · by_cases hip : (⟨i, hi⟩ : PortId) = p
      · subst hip
        cases h.isQuiet ⟨i, hi⟩ <;> simp [hl, upd_getElem]
      · have hne : p.val ≠ i := fun he => hip (Fin.ext he.symm)
        cases h.isQuiet p <;> simp [hl, hip, upd_getElem, hne]
    · simp [hl]
  · refine congrArg (fun f => Option.map f h.sbl.flight) (funext fun m => ?_)
    by_cases hm : m.entry.port = p
    · subst hm
      simp [ActionSet.minus, ActionSet.silences, and_comm]
    · simp [hm, ho _ hm]

theorem FaultRecord.presented_of_present {r : FaultRecord} (hp : r.present = true) (t : Tables) (row : Nat) :
    r.presented t row = r := if_pos hp

theorem FaultRecord.presented_state {r : FaultRecord} (hp : r.present = false) (t : Tables) (row : Nat) :
    (r.presented t row).state = if r.enters t row then
      if t.responseMode row = .retry ∧ r.state = .idle then .cooling else .active else r.state := by
  simp [FaultRecord.presented, hp]

/-- A detection takes a record out of IDLE, and none into it. -/
theorem FaultRecord.presented_idle (r : FaultRecord) (t : Tables) (row : Nat) :
    (r.state = .idle ∧ (r.presented t row).state ≠ .idle) ↔ r.detects t row = true ∧ r.state = .idle := by
  cases hp : r.present with
  | true => simp [FaultRecord.presented_of_present hp, FaultRecord.detects, hp]
  | false =>
    rw [FaultRecord.presented_state hp]
    simp only [FaultRecord.enters, FaultRecord.detects, hp]
    by_cases hi : r.state = .idle
    · simp only [hi]
      split_ifs <;> simp_all
    · simp [hi]

theorem FaultRecord.presented_not_idle {r : FaultRecord} (t : Tables) (row : Nat) (hs : r.state ≠ .idle) :
    (r.presented t row).state ≠ .idle := by
  cases hp : r.present with
  | true => rwa [FaultRecord.presented_of_present hp]
  | false =>
    rw [FaultRecord.presented_state hp]
    split_ifs <;> simp_all

/-- Nothing but FSV, SBL and MGA differs. -/
def Hub.frames (h h' : Hub) : Prop := h' = { h with fsv := h'.fsv, sbl := h'.sbl, mga := h'.mga }

/-- A detection on a port in closed form. -/
theorem detect_port_eq (h : Hub) (p : PortId) (c : PortClass) (hp : (h.faultRecord (.port p c)).present = false) :
    h.detect (.port p c) =
      let k := FaultKey.port p c
      let r := h.faultRecord k
      let put := h.putRecord k (r.presented h.tables k.row)
      let wakes := decide (r.detects h.tables k.row = true ∧ r.state = .idle) && h.isQuiet p
      { h with
        fsv := if r.detects h.tables k.row then (put.writeHistory k .detected).fsv else put.fsv
        sbl := h.sbl.acted p wakes ((put.actions p).minus (h.actions p)).silences
        mga := if r.enters h.tables k.row then (if wakes then h.mga.raised .quiet else h.mga).raised .fault
          else if wakes then h.mga.raised .quiet else h.mga } := by
  have hent : (h.faultRecord (.port p c)).enters h.tables (FaultKey.port p c).row = true →
      (h.faultRecord (.port p c)).detects h.tables (FaultKey.port p c).row = true := fun he => by
    simp only [FaultRecord.enters, Bool.and_eq_true] at he
    exact he.1
  rw [detect_eq h _ hp]
  dsimp only
  rw [changeRecord_eq h p c _ fun hi => FaultRecord.presented_not_idle _ _ hi.2.1 hi.2.2]
  simp only [FaultRecord.presented_idle]
  generalize (decide ((h.faultRecord (.port p c)).detects h.tables (FaultKey.port p c).row = true
    ∧ (h.faultRecord (.port p c)).state = .idle) && h.isQuiet p) = wakes
  cases hd : (h.faultRecord (.port p c)).detects h.tables (FaultKey.port p c).row
  · have he : (h.faultRecord (.port p c)).enters h.tables (FaultKey.port p c).row = false := by
      simpa [hd] using hent
    simp [he]
  · cases (h.faultRecord (.port p c)).enters h.tables (FaultKey.port p c).row <;> cases wakes <;> rfl

/-- What a presentation does in FSV. -/
theorem present_fsv (h : Hub) (k : FaultKey) :
    (∀ k' : FaultKey, (h.present k).faultRecord k' =
      if k' = k then (h.faultRecord k).presented h.tables k.row else h.faultRecord k')
    ∧ h.fsv.written (h.present k).fsv ((h.faultRecord k).presentEntries h.tables k h.mga.seconds)
    ∧ (h.present k).fsv.detectors = h.fsv.detectors := by
  cases hp : (h.faultRecord k).present with
  | true =>
    have hsame : h.present k = h := if_pos hp
    rw [hsame]
    refine ⟨fun k' => ?_, ?_, rfl⟩
    · split
      next he => rw [he, FaultRecord.presented_of_present hp]
      next => rfl
    · simpa [FaultRecord.presentEntries, FaultRecord.detects, hp] using Fsv.written.nil (f := h.fsv) rfl rfl
  | false =>
    have hdet : h.present k = h.detect k := if_neg (by simp [hp])
    rw [hdet, detect_eq h k hp]
    dsimp only
    have hrec := fun k' => faultRecord_changeRecord h k k' ((h.faultRecord k).presented h.tables k.row)
    have hfsv := fsv_changeRecord h k ((h.faultRecord k).presented h.tables k.row)
    obtain ⟨hhist, hlost, hdets⟩ := fsv_putRecord_rest h k ((h.faultRecord k).presented h.tables k.row)
    have hsec := congrArg Mga.seconds (supervised_changeRecord h k ((h.faultRecord k).presented h.tables k.row)).mga
    rw [← hfsv] at hhist hlost hdets
    generalize h.changeRecord k ((h.faultRecord k).presented h.tables k.row) = g at hrec hhist hlost hdets hsec ⊢
    replace hsec : g.mga.seconds = h.mga.seconds := hsec
    have hwritten := written_writeHistory g k .detected
    rw [hsec] at hwritten
    replace hwritten := (Fsv.written.nil hhist hlost).trans hwritten
    simp only [FaultRecord.presentEntries]
    cases hd : (h.faultRecord k).detects h.tables k.row
    · exact ⟨hrec, .nil hhist hlost, hdets⟩
    · cases (h.faultRecord k).enters h.tables k.row <;>
        exact ⟨fun k' => (faultRecord_of_fsv rfl rfl k').trans (hrec k'), hwritten, hdets⟩

/-- What a presentation of a port's condition does. -/
theorem present_spec (h : Hub) (p : PortId) (c : PortClass) :
    h.presents (h.present (.port p c)) p c
    ∧ (h.present (.port p c)).fsv.detectors = h.fsv.detectors ∧ h.frames (h.present (.port p c)) := by
  obtain ⟨hrec, hwritten, hdets⟩ := present_fsv h (.port p c)
  have hothers (q : PortId) (hq : q ≠ p) : (h.present (.port p c)).actions q = h.actions q :=
    actions_congr (congrArg Tld.tables (supervised_present h _).tld) fun e => by
      rw [hrec, if_neg fun he => hq (FaultKey.port.inj he).1]
  cases hp : (h.faultRecord (.port p c)).present with
  | true =>
    have hsame : h.present (.port p c) = h := if_pos hp
    have hd : (h.faultRecord (.port p c)).detects h.tables (FaultKey.port p c).row = false := by
      simp [FaultRecord.detects, hp]
    rw [hsame] at hrec hwritten ⊢
    refine ⟨⟨hrec, hwritten, supervises_acted ?_ fun _ _ => rfl, rfl, ?_⟩, rfl, rfl⟩
    · have hz : ((h.actions p).minus (h.actions p)).silences = false := by simp [ActionSet.minus, ActionSet.silences]
      simp [hz, hd, Sbl.acted_nothing]
    · exact (Mga.marked.same rfl).congr fun n => by simp [FaultRecord.enters, hd]
  | false =>
    have hdet : h.present (.port p c) = h.detect (.port p c) := if_neg (by simp [hp])
    have he := hdet.trans (detect_port_eq h p c hp)
    have hact : (h.putRecord (.port p c) ((h.faultRecord (.port p c)).presented h.tables
        (FaultKey.port p c).row)).actions p = (h.present (.port p c)).actions p := by
      refine actions_of_records ((tables_putRecord h _ _).trans ?_) fun e => ?_
      · exact (congrArg Tld.tables (supervised_present h _).tld).symm
      · rw [hrec, faultRecord_putRecord]
    have hsbl := congrArg Hub.sbl he
    dsimp only at hsbl
    rw [hact] at hsbl
    have hmga := congrArg Hub.mga he
    dsimp only at hmga
    refine ⟨⟨hrec, hwritten, supervises_acted hsbl hothers, ?mga, ?marks⟩, hdets, ?frame⟩
    case mga =>
      rw [hmga]
      split_ifs <;> rfl
    case marks =>
      rw [hmga]
      refine ((Mga.marked.same (m := h.mga) rfl).raise_if _ .quiet |>.raise_if _ .fault).congr fun n => ?_
      simp only [Bool.and_eq_true, decide_eq_true_eq, false_or, and_assoc]
      tauto
    case frame =>
      unfold Hub.frames
      rw [he]

/-- What a presentation of DONOR_LOSS does. -/
theorem present_donor_spec (h : Hub) (d : DonorId) :
    let k := FaultKey.donor d
    let r := h.faultRecord k
    let g := h.present k
    h.mga.marked g.mga (fun n => n = .fault ∧ r.enters h.tables k.row = true)
    ∧ g.mga = { h.mga with marks := g.mga.marks } ∧ g = { h with fsv := g.fsv, mga := g.mga } := by
  dsimp only
  cases hp : (h.faultRecord (.donor d)).present with
  | true =>
    have hsame : h.present (.donor d) = h := if_pos hp
    rw [hsame]
    exact ⟨(Mga.marked.same rfl).congr fun n => by simp [FaultRecord.enters, FaultRecord.detects, hp], rfl, rfl⟩
  | false =>
    have hdet : h.present (.donor d) = h.detect (.donor d) := if_neg (by simp [hp])
    rw [hdet, detect_eq h _ hp]
    dsimp only
    cases hd : (h.faultRecord (.donor d)).detects h.tables (FaultKey.donor d).row
    · exact ⟨(Mga.marked.same rfl).congr fun n => by simp [FaultRecord.enters, hd], rfl, rfl⟩
    · cases (h.faultRecord (.donor d)).enters h.tables (FaultKey.donor d).row
      · exact ⟨(Mga.marked.same rfl).congr fun n => by simp, rfl, rfl⟩
      · exact ⟨((h.mga).marked_raised .fault).congr fun n => by simp, rfl, rfl⟩

/-! ## A clearing -/

/-- A record that goes from ACTIVE to LATCHED keeps its actions, and no port wakes. -/
theorem changeRecord_latched {h : Hub} {k : FaultKey} {r : FaultRecord} (ha : (h.faultRecord k).state = .active)
    (hr : r.state = .latched) : h.changeRecord k r = h.putRecord k r := by
  cases k with
  | donor d => rfl
  | port p c =>
    rw [changeRecord_eq h p c r fun hi => by rw [hr] at hi; exact absurd hi.2.2 (by decide)]
    have hact : (h.putRecord (.port p c) r).actions p = h.actions p :=
      actions_putRecord_of_acts (by simp [FaultRecord.acts, ha, hr]) p
    have hz : ((h.actions p).minus (h.actions p)).silences = false := by simp [ActionSet.minus, ActionSet.silences]
    rw [hact, hz]
    simp only [ha, reduceCtorEq, false_and, decide_false, Bool.false_and, Sbl.acted_nothing]
    rfl

/-- A clearing in closed form: it touches FSV alone. -/
theorem clearCondition_eq (h : Hub) (k : FaultKey) : h.clearCondition k =
    if (h.faultRecord k).present then
      if (h.faultRecord k).latches then (h.putRecord k (h.faultRecord k).cleared).writeHistory k .latched
      else h.putRecord k (h.faultRecord k).cleared
    else h := by
  unfold Hub.clearCondition FaultRecord.latches FaultRecord.cleared
  dsimp only
  cases hp : (h.faultRecord k).present
  · rfl
  · by_cases ha : (h.faultRecord k).state = .active
    · simp only [ha, Bool.not_true, Bool.false_eq_true, if_false, if_true, decide_true, Bool.and_true, and_self]
      rw [changeRecord_latched ha rfl]
    · simp [ha]

/-- What a clearing does: it touches FSV alone. -/
theorem clear_spec (h : Hub) (k : FaultKey) :
    (∀ k' : FaultKey, (h.clearCondition k).faultRecord k' =
      if k' = k then (h.faultRecord k).cleared else h.faultRecord k')
    ∧ h.fsv.written (h.clearCondition k).fsv ((h.faultRecord k).clearEntries k h.mga.seconds)
    ∧ (h.clearCondition k).fsv.detectors = h.fsv.detectors
    ∧ h.clearCondition k = { h with fsv := (h.clearCondition k).fsv } := by
  rw [clearCondition_eq]
  obtain ⟨hhist, hlost, hdets⟩ := fsv_putRecord_rest h k (h.faultRecord k).cleared
  have hrec := fun k' => faultRecord_putRecord h k k' (h.faultRecord k).cleared
  have hmga : (h.putRecord k (h.faultRecord k).cleared).mga = h.mga := by cases k <;> rfl
  have hhub : h.putRecord k (h.faultRecord k).cleared = { h with fsv := (h.putRecord k (h.faultRecord k).cleared).fsv } := by
    cases k <;> rfl
  cases hp : (h.faultRecord k).present
  · have hsame : (h.faultRecord k).cleared = h.faultRecord k := by
      rw [FaultRecord.cleared, if_neg (by simp [hp]), ← hp]
    rw [if_neg Bool.false_ne_true]
    refine ⟨fun k' => ?_, ?_, rfl, rfl⟩
    · split
      next he => rw [he, hsame]
      next => rfl
    · simpa [FaultRecord.clearEntries, FaultRecord.latches, hp] using Fsv.written.nil (f := h.fsv) rfl rfl
  · rw [if_pos rfl, FaultRecord.clearEntries]
    cases (h.faultRecord k).latches
    · exact ⟨hrec, .nil hhist hlost, hdets, hhub⟩
    · refine ⟨fun k' => (faultRecord_of_fsv rfl rfl k').trans (hrec k'), ?_, hdets, ?_⟩
      · rw [← hmga]
        exact (Fsv.written.nil hhist hlost).trans (written_writeHistory _ k .latched)
      · rw [if_pos rfl, hhub]
        rfl

end Sys2Proof.Machine
end

section
/-! Power and links (O14, O15, O17 to O20, O22, O23). -/

namespace Sys2Proof.Machine

/-- Two hubs that are the same are answered as the same next state. -/
theorem next_congr {s : State} {g h : Hub} (e : g = h) :
    (.next { s with hub := g } : Host.Outcome State Fault Refusal) = .next { s with hub := h } := e ▸ rfl

/-! ## Alignment -/

/-- A delivery moves the link's own core by its verdict (R5). -/
theorem deliver_core (h : Hub) (l : LinkId) (a : Arrival) :
    (h.deliver l a).core l = (h.core l).delivered l (verdictOf l (h.core l).cand a) a := by
  cases l with
  | remote p =>
    rw [deliver_remote]
    exact congrArg RemoteLink.core (upd_get_same _ p _)
  | donor d =>
    rw [deliver_donor]
    exact Hub.onCore_core_same h (.donor d) _
  | trunk =>
    rw [deliver_trunk]
    rfl

theorem enterAligned_state (h : Hub) (l : LinkId) : ((h.enterAligned l).core l).state.aligned = true := by
  unfold Hub.enterAligned
  cases l with
  | remote p => simp [Hub.core, Hub.newIdentify, Hub.startMeasurement, Hub.onCte, Hub.onCore, Hub.onRemote,
      LinkCore.enterAligned, LinkState.aligned]
  | donor d =>
    obtain ⟨-, -, -, he⟩ := clear_spec (((h.onCore (.donor d) (LinkCore.enterAligned .up)).donorCarriers d).raise .link)
      (.donor d)
    dsimp only
    rw [he]
    simp [Hub.core, Hub.raise, Hub.donorCarriers, Hub.onCore, LinkCore.enterAligned, LinkState.aligned]
  | trunk => rfl

theorem linkAligned_eq {h : Hub} {l : LinkId} {a : Arrival} (hs : (h.core l).state = .hunt) (hg : 4 ≤ (h.core l).good)
    (ha : (h.core l).arrival = some a) : h.linkAligned l = (h.enterAligned l).deliver l a := by
  unfold Hub.linkAligned
  dsimp only
  rw [ha]
  exact if_pos ⟨hs, hg⟩

/-- A link that aligns is aligned, and does not align again. -/
theorem linkAligned_linkAligned {h : Hub} {l : LinkId} {a : Arrival} (hs : (h.core l).state = .hunt)
    (hg : 4 ≤ (h.core l).good) (ha : (h.core l).arrival = some a) :
    (h.linkAligned l).linkAligned l = h.linkAligned l := by
  refine linkAligned_of_not fun hn => ?_
  have hst := enterAligned_state h l
  rw [linkAligned_eq hs hg ha, deliver_core] at hn
  rw [show ((h.enterAligned l).core l).state = .hunt from hn.1] at hst
  cases hst

theorem takeLinkDue_linkAligned {h : Hub} {l : LinkId} {a : Arrival} (hs : (h.core l).state = .hunt)
    (hg : 4 ≤ (h.core l).good) (ha : (h.core l).arrival = some a) :
    (h.linkAligned l).takeLinkDue l = h.takeLinkDue l := by
  have hsame := linkAligned_linkAligned hs hg ha
  cases l with
  | remote p =>
    unfold Hub.takeLinkDue Hub.takeDue
    dsimp only
    rw [hsame]
  | donor d => exact hsame
  | trunk => exact hsame

theorem takeLinkDue_of_unaligned {h : Hub} {l : LinkId} (hs : (h.core l).state.aligned = false)
    (hn : ¬ ((h.core l).state = .hunt ∧ 4 ≤ (h.core l).good ∧ (h.core l).arrival ≠ none)) : h.takeLinkDue l = h := by
  have hsame := linkAligned_of_not hn
  cases l with
  | remote p =>
    unfold Hub.takeLinkDue Hub.takeDue
    dsimp only
    rw [hsame]
    exact if_neg fun ha => absurd (ha.symm.trans hs) (by decide)
  | donor d => exact hsame
  | trunk => exact hsame

theorem onCore_onCore (h : Hub) (l : LinkId) (f g : LinkCore → LinkCore) :
    (h.onCore l f).onCore l g = h.onCore l fun c => g (f c) := by
  cases l with
  | remote p => simp only [Hub.onCore, Hub.onRemote, upd_upd]
  | donor d => simp only [Hub.onCore, upd_upd]
  | trunk => rfl

theorem signalAbsent_of_unaligned {h : Hub} {l : LinkId} (hs : (h.core l).state.aligned = false)
    (hn : ¬ ((h.core l).state = .hunt ∧ 4 ≤ (h.core l).good ∧ (h.core l).arrival ≠ none)) :
    h.signalAbsent l = h.onCore l fun c =>
      if c.state = .disabled then { c with signal := false }
      else { c with signal := false, state := .down, good := 0, bad := 0, cand := none, last := none } := by
  unfold Hub.signalAbsent
  rw [takeLinkDue_of_unaligned hs hn]
  dsimp only
  rw [Hub.onCore_core_same]
  dsimp only
  by_cases hd : (h.core l).state = .disabled
  · rw [if_pos hd]
    exact onCore_congr (by simp [hd])
  · rw [if_neg hd, if_neg (by simp [hs]), onCore_onCore]
    exact onCore_congr (by simp [hd, LinkCore.enterDown])

end Sys2Proof.Machine

namespace Sys2Proof
open Machine

/-- Settles O14. -/
theorem powerOnStartsEveryBlock : Obligations.PowerOnStartsEveryBlock := by
  intro s
  refine ⟨_, exec_powerOn s, rfl, rfl, rfl, fun p => ?_, fun d => ?_, rfl⟩
  · exact tab_get _ p
  · exact mapTab_get _ _ d

theorem exec_signalAbsent (l : LinkId) (s : State) :
    exec (.signalAbsent l) s = .next { s with hub := s.hub.openBoundary.signalAbsent l } := rfl

/-- Settles O15. -/
theorem signalsOfUnalignedLinks : Obligations.SignalsOfUnalignedLinks := by
  refine ⟨fun l s => next_congr (onCore_congr ?_), fun l s hs => ⟨fun hn => ?_, fun hh hg ha => ?_⟩⟩
  · split <;> rfl
  · exact next_congr (signalAbsent_of_unaligned hs hn)
  · obtain ⟨a, ha⟩ := Option.ne_none_iff_exists'.mp ha
    have ho : (s.hub.openBoundary.linkAligned l).openBoundary = s.hub.openBoundary.linkAligned l :=
      openBoundary_of_isOpen ((kept_linkAligned l _).isOpen.trans (openBoundary_isOpen _))
    refine ⟨{ s with hub := s.hub.openBoundary.linkAligned l }, rfl, ?_⟩
    rw [exec_signalAbsent, exec_signalAbsent, ho]
    refine next_congr ?_
    unfold Hub.signalAbsent
    rw [takeLinkDue_linkAligned hh hg ha]

end Sys2Proof

namespace Sys2Proof.Machine

/-! ## Exits of donors and of the trunk -/

theorem takeLinkDue_of_aligned {h : Hub} {l : LinkId} (hr : ∀ p, l ≠ .remote p) (hs : (h.core l).state = .up) :
    h.takeLinkDue l = h := by
  have hsame : h.linkAligned l = h := linkAligned_of_not fun hn => by
    rw [hs] at hn
    exact absurd hn.1 (by decide)
  cases l with
  | remote p => exact absurd rfl (hr p)
  | donor d => exact hsame
  | trunk => exact hsame

theorem signalAbsent_of_up {h : Hub} {l : LinkId} (hr : ∀ p, l ≠ .remote p) (hs : (h.core l).state = .up) :
    h.signalAbsent l = (h.onCore l fun c => { c with signal := false }).loseLink l LinkCore.enterDown := by
  unfold Hub.signalAbsent
  rw [takeLinkDue_of_aligned hr hs]
  dsimp only
  rw [Hub.onCore_core_same]
  dsimp only
  rw [hs]
  rfl

theorem alignmentLost_of_up {h : Hub} {l : LinkId} (hr : ∀ p, l ≠ .remote p) (hs : (h.core l).state = .up)
    (hb : 8 ≤ (h.core l).bad) : h.alignmentLost l = h.loseLink l LinkCore.enterHunt := by
  unfold Hub.alignmentLost
  rw [takeLinkDue_of_aligned hr hs]
  exact if_pos ⟨by rw [hs]; rfl, hb⟩

/-- What a carrier becomes as donor `d` leaves UP (R37). -/
def Hub.lostCarrier (h : Hub) (d : DonorId) (k : CarrierId) : CarrierState :=
  if carrierDonor k = d ∧ h.dlc.carriers[k] ≠ .absent then .lost else h.dlc.carriers[k]

theorem donorCarriers_of_lost {h : Hub} {d : DonorId} (hs : h.lnk.donor[d].state ≠ .up) :
    h.donorCarriers d = { h with dlc := { h.dlc with carriers := tab (h.lostCarrier d) } } := by
  unfold Hub.donorCarriers
  simp only [if_pos hs]
  rfl

/-- The exit of a donor up to the presentation of DONOR_LOSS (R14, R37). -/
def Hub.donorLost (h : Hub) (d : DonorId) (leave : LinkCore → LinkCore) : Hub :=
  { h with
    lnk := { h.lnk with donor := upd h.lnk.donor d fun c => leave c.countDrop }
    dlc := { h.dlc with carriers := tab (h.lostCarrier d) }
    mga := h.mga.raised .link }

theorem exitDonor_eq {h : Hub} {d : DonorId} {leave : LinkCore → LinkCore}
    (hl : (leave (h.lnk.donor[d]).countDrop).state ≠ .up) :
    h.exitDonor d leave = (h.donorLost d leave).present (.donor d) := by
  have hlost : (h.onCore (.donor d) fun c => leave c.countDrop).lnk.donor[d].state ≠ .up := by
    change (upd h.lnk.donor d fun c => leave c.countDrop)[d].state ≠ .up
    rwa [upd_get_same]
  unfold Hub.exitDonor
  dsimp only
  rw [donorCarriers_of_lost hlost]
  rfl

theorem LinkCore.enterDown_of_noSignal {c : LinkCore} (hs : c.signal = false) : c.enterDown =
    { c with state := .down, good := 0, bad := 0, cand := none, last := none } := by
  simp [LinkCore.enterDown, hs]

end Sys2Proof.Machine

namespace Sys2Proof
open Machine

/-- Settles O17: either way the donor's link is lost with its carriers, and DONOR_LOSS is presented. -/
theorem donorLeavesUp : Obligations.DonorLeavesUp := by
  intro d c s h hs hc
  have hup : (h.core (.donor d)).state = .up := hs
  obtain ⟨leave, hst, hexec, hcore⟩ : ∃ leave : LinkCore → LinkCore,
      (leave (h.lnk.donor[d]).countDrop).state ≠ .up
      ∧ exec c s = .next { s with hub := (h.donorLost d leave).present (.donor d) }
      ∧ ∀ r : LinkCore, leave r.countDrop = { r with
          state := if c = .signalAbsent (.donor d) then .down else .hunt
          signal := if c = .signalAbsent (.donor d) then false else r.signal
          good := 0, cand := none, last := none
          bad := if c = .signalAbsent (.donor d) then 0 else r.bad
          drops := min (r.drops + 1) (2 ^ 32 - 1) } := by
    rcases hc with rfl | ⟨rfl, hbad⟩
    · refine ⟨fun c => LinkCore.enterDown { c with signal := false }, by simp [LinkCore.enterDown], ?_, fun r => ?_⟩
      · rw [exec_signalAbsent, signalAbsent_of_up (fun _ he => by cases he) hup]
        refine next_congr ((exitDonor_eq ?_).trans ?_)
        · simp [Hub.onCore, LinkCore.enterDown, LinkCore.countDrop]
        · simp only [Hub.donorLost, Hub.onCore, upd_upd]
          rfl
      · simp [LinkCore.enterDown, LinkCore.countDrop, sat32]
    · refine ⟨LinkCore.enterHunt, by simp [LinkCore.enterHunt], ?_, fun r => ?_⟩
      · refine next_congr ((alignmentLost_of_up (fun _ he => by cases he) hup hbad).trans ?_)
        exact exitDonor_eq (by simp [LinkCore.enterHunt])
      · simp [LinkCore.enterHunt, LinkCore.countDrop, sat32]
  obtain ⟨hrec, hwritten, hdets⟩ := present_fsv (h.donorLost d leave) (.donor d)
  obtain ⟨hmarks, hmga, he⟩ := present_donor_spec (h.donorLost d leave) d
  have hlink : h.mga.marked (h.donorLost d leave).mga (· = .link) := h.mga.marked_raised .link
  refine ⟨_, hexec, rfl, ?_, fun k => ?_, ?_, ⟨hrec, hwritten, hdets, hmga, ?_⟩, ?_⟩
  · rw [he]
    simp only [Hub.donorLost, hcore]
  · rw [he]
    show (tab (h.lostCarrier d))[k] = _
    exact tab_get _ k
  · rw [he]
    rfl
  · exact hlink.trans hmarks
  · rw [he]
    rfl

end Sys2Proof
end

section
/-! Links that leave or reach alignment, the search of a link in HUNT, and delay measurements (O18 to O20, O22, O23). -/

namespace Sys2Proof.Machine

/-! ## The trunk's exit -/

theorem exitTrunk_eq (h : Hub) (leave : LinkCore → LinkCore) : h.exitTrunk leave = { h with
    lnk := { h.lnk with trunk := leave h.lnk.trunk.countDrop }
    tld := if h.tld.phase = .none then h.tld else
      { h.tld with
        phase := .none, image := []
        last := some { table := h.tld.table, outcome := .abandoned .trunk, stamp := h.mga.seconds } }
    mga := if h.tld.phase = .none then h.mga.raised .link else (h.mga.raised .link).raised .load } := by
  unfold Hub.exitTrunk Hub.abandonLoad
  dsimp only
  have hphase : ((h.onCore .trunk fun c => leave c.countDrop).raise .link).tld.phase = h.tld.phase := rfl
  rw [hphase]
  by_cases hp : h.tld.phase = .none
  · simp only [if_pos hp]
    rfl
  · simp only [if_neg hp]
    rfl

/-! ## Alignment of each kind of link -/

theorem enterAligned_remote {h : Hub} {p : PortId} : h.enterAligned (.remote p) = { h with
    lnk := { h.lnk with remote := upd h.lnk.remote p fun r => { r with
      core := { r.core with state := .proving, bad := 0 }
      meas := { running := true, origin := .entry, taken := 0, minimum := none, elapsed := 0 } } }
    cte := { h.cte with ports := upd h.cte.ports p fun c =>
      { c with hold := false, nextAttempt := 1, pending := true } } } := by
  unfold Hub.enterAligned Hub.newIdentify Hub.startMeasurement
  dsimp only [Hub.onCore, Hub.onRemote, Hub.onCte, Hub.linkOf]
  rw [upd_upd, upd_get_same]
  simp only [LinkCore.enterAligned, LinkState.aligned, Bool.or_true]

/-- A donor that aligns, up to the clearing of DONOR_LOSS (R14, R37). -/
def Hub.donorJoined (h : Hub) (d : DonorId) : Hub :=
  { h with
    lnk := { h.lnk with donor := upd h.lnk.donor d fun c => { c with state := .up, bad := 0 } }
    dlc := { h.dlc with
      carriers := tab fun k =>
        if carrierDonor k = d ∧ h.dlc.carriers[k] ≠ .absent then
          if h.dlc.holds[h.tables.operator k] then .held else .active
        else h.dlc.carriers[k] }
    mga := h.mga.raised .link }

theorem enterAligned_donor (h : Hub) (d : DonorId) :
    h.enterAligned (.donor d) = (h.donorJoined d).clearCondition (.donor d) := by
  have hup : (h.onCore (.donor d) (LinkCore.enterAligned .up)).lnk.donor[d].state = .up :=
    congrArg LinkCore.state (upd_get_same h.lnk.donor d (LinkCore.enterAligned .up))
  unfold Hub.enterAligned
  dsimp only
  unfold Hub.donorCarriers
  simp only [hup, ne_eq, not_true_eq_false, if_false]
  rfl

/-! ## The end of a measurement -/

theorem endMeasurement_entry {h : Hub} {p : PortId} {st : Status} (ho : (h.lnk.remote[p]).meas.origin = .entry) :
    h.endMeasurement p st = h.onRemote p fun r => { r with meas := { r.meas with running := false } } := by
  unfold Hub.endMeasurement
  dsimp only
  rw [ho]

/-- The end of a measurement that a request waits for (R18, R19): its report is of the record as it stands. -/
theorem endMeasurement_request {h : Hub} {p : PortId} {st : Status} {tag : Byte}
    (ho : (h.lnk.remote[p]).meas.origin = .request tag) : h.endMeasurement p st =
      let report := measureReport h.lnk.remote[p] (h.lnk.remote[p]).meas.taken
      { h with
        lnk := { h.lnk with remote := upd h.lnk.remote p fun r => { r with meas := { r.meas with running := false } } }
        mga := { h.mga with
          busy := none, busyRipe := false
          responses := h.mga.responses ++ [if st = .ok then okResponse tag report else badResponse tag st 0 report] } } := by
  unfold Hub.endMeasurement
  dsimp only
  rw [ho]
  dsimp only [Hub.onRemote, Hub.free, Hub.respond]
  rw [upd_get_same]
  by_cases hst : st = .ok
  · subst hst
    rfl
  · simp only [if_neg hst]
    rfl

theorem measurementStart_eq {h : Hub} {p : PortId} {tag : Byte} (hb : h.mga.busy = some (.measureStart tag p))
    (hr : h.mga.busyRipe = true) : h.measurementStart =
      { h.startMeasurement p (.request tag) with mga := { h.mga with busy := some (.measuring p) } } := by
  unfold Hub.measurementStart
  rw [hb]
  exact if_pos hr

theorem measurementDone_eq {h : Hub} {p : PortId} {rt : Nat} {out : Bool} (hr : (h.lnk.remote[p]).meas.running = true)
    (ht : (h.lnk.remote[p]).meas.taken = 4) (hm : (h.lnk.remote[p]).meas.minimum = some (rt, out)) :
    h.measurementDone p = (h.onRemote p fun r =>
      { r with lastRT := rt, delay := (rt + 1) / 2, rtRange := out }).endMeasurement p .ok := by
  unfold Hub.measurementDone
  dsimp only
  rw [if_pos ⟨hr, ht⟩, hm]
  rfl

/-! ## Frames of a link that is not aligned -/

theorem receiveFrame_of_idle {h : Hub} {l : LinkId} {done : List Arrival} (hh : (h.core l).handed = false)
    (hs : (h.core l).state = .disabled ∨ (h.core l).state = .down) :
    h.receiveFrame l done = h.onCore l fun c => { c with handed := true } := by
  unfold Hub.receiveFrame
  rw [hh]
  simp only [Bool.false_eq_true, if_false, Hub.onCore_core_same]
  rcases hs with hs | hs <;> rw [hs]

theorem receiveFrame_of_hunt {h : Hub} {l : LinkId} (hh : (h.core l).handed = false) (hs : (h.core l).state = .hunt)
    (done : List Arrival) : h.receiveFrame l done = h.onCore l fun c =>
      if done = [] then { c with handed := true }.searchNothing
      else done.foldl (LinkCore.search l) { c with handed := true } := by
  unfold Hub.receiveFrame
  rw [hh]
  simp only [Bool.false_eq_true, if_false, Hub.onCore_core_same]
  rw [hs]
  exact onCore_onCore _ _ _ _

end Sys2Proof.Machine

namespace Sys2Proof
open Machine

/-- Settles O18: either way the trunk leaves by `exitTrunk`. -/
theorem trunkLeavesUp : Obligations.TrunkLeavesUp := by
  intro c s h hs hc
  have hup : (h.core .trunk).state = .up := hs
  obtain ⟨leave, g, hexec, hg, hcore⟩ : ∃ (leave : LinkCore → LinkCore) (g : Hub),
      exec c s = .next { s with hub := g.exitTrunk leave }
      ∧ g = { h with lnk := { h.lnk with trunk := g.lnk.trunk } }
      ∧ leave g.lnk.trunk.countDrop = { h.lnk.trunk with
          state := if c = .signalAbsent .trunk then .down else .hunt
          signal := if c = .signalAbsent .trunk then false else h.lnk.trunk.signal
          good := 0, cand := none, last := none
          bad := if c = .signalAbsent .trunk then 0 else h.lnk.trunk.bad
          drops := min (h.lnk.trunk.drops + 1) (2 ^ 32 - 1) } := by
    rcases hc with rfl | ⟨rfl, hbad⟩
    · refine ⟨LinkCore.enterDown, h.onCore .trunk fun c => { c with signal := false }, ?_, rfl, ?_⟩
      · exact next_congr (signalAbsent_of_up (fun _ he => by cases he) hup)
      · simp [Hub.onCore, LinkCore.enterDown, LinkCore.countDrop, sat32]
    · refine ⟨LinkCore.enterHunt, h, ?_, rfl, ?_⟩
      · exact next_congr (alignmentLost_of_up (fun _ he => by cases he) hup hbad)
      · simp [LinkCore.enterHunt, LinkCore.countDrop, sat32]
  refine ⟨_, hexec, rfl, ?_⟩
  dsimp only
  rw [exitTrunk_eq, hcore, hg]
  exact ⟨rfl, rfl, rfl, rfl⟩

/-- Settles O19: the delivery finds the port in PROVING, with a measurement whose boundary this is. -/
theorem remotePortAligns : Obligations.RemotePortAligns := by
  intro p a s h r verdict errored hs hg ha
  refine next_congr ((linkAligned_eq (l := .remote p) hs hg ha).trans ?_)
  rw [enterAligned_remote, deliver_remote]
  simp only [upd_upd, upd_get_same, Nat.lt_irrefl, false_and, and_false, if_false, Hub.isUp, Hub.linkOf,
    Bool.false_eq_true, reduceCtorEq, decide_false, Bool.or_false]
  rfl

/-- Settles O20. -/
theorem donorAndTrunkAlign : Obligations.DonorAndTrunkAlign := by
  constructor
  · intro d a s h c hs hg ha
    obtain ⟨hrec, hwritten, hdets, he⟩ := clear_spec (h.donorJoined d) (.donor d)
    have hexec : exec (.linkAligned (.donor d)) s = .next { s with
        hub := (((h.donorJoined d).clearCondition (.donor d)).onCore (.donor d) fun c =>
          c.delivered (.donor d) (verdictOf (.donor d) c.cand a) a) } :=
      next_congr ((linkAligned_eq (l := .donor d) hs hg ha).trans ((enterAligned_donor h d).symm ▸ deliver_donor _ d a))
    refine ⟨_, hexec, rfl, fun k => (hrec k).trans ?_, hwritten, hdets, ?_⟩
    · split
      next hk => rw [hk]; rfl
      next => rfl
    · dsimp only
      rw [he]
      simp only [Hub.onCore, Hub.donorJoined, upd_upd]
  · intro a s h c verdict hs hg ha
    refine next_congr ((linkAligned_eq (l := .trunk) hs hg ha).trans ?_)
    rw [deliver_trunk]
    rfl

/-- Settles O22: the search of a stretch, case by case as `LinkCore.search` takes them. -/
theorem framesOfAnUnalignedLink : Obligations.FramesOfAnUnalignedLink := by
  refine ⟨fun bs i => ⟨length_bitsOf bs, getElem?_bitsOf bs i⟩, fun l done s => ?_⟩
  intro h c period look
  have hlook : look = LinkCore.search l := by
    funext c a
    by_cases hg : 4 ≤ c.good
    · exact (if_pos hg).trans (if_pos hg).symm
    · have hb : bump 4 c.good = c.good + 1 := by
        unfold bump
        omega
      simp only [look, LinkCore.search, LinkCore.searchFrom, firstMarker_drop, LinkCore.lead, length_bitsOf, hb, hg,
        if_false]
      rfl
  refine ⟨fun hh => next_congr (if_pos hh), fun hh hs => next_congr ?_, fun hh hs hd => next_congr ?_,
    fun hh hs hd => next_congr ?_⟩
  · exact receiveFrame_of_idle hh hs
  · rw [hd]
    exact receiveFrame_of_hunt hh hs []
  · refine (receiveFrame_of_hunt hh hs done).trans (onCore_congr ?_)
    rw [hlook]
    exact if_neg hd

/-- Settles O23. -/
theorem measurementsStartAndEnd : Obligations.MeasurementsStartAndEnd := by
  refine ⟨?_, ?_, ?_⟩
  · intro p tag s h hb hr
    exact next_congr (measurementStart_eq hb hr)
  · intro p rt out s h m lnk hr ht hm
    refine ⟨fun ho => next_congr ((measurementDone_eq hr ht hm).trans ?_),
      fun tag ho => next_congr ((measurementDone_eq hr ht hm).trans ?_)⟩
    · rw [endMeasurement_entry ((congrArg (fun r : RemoteLink => r.meas.origin) (upd_get_same h.lnk.remote p _)).trans ho)]
      simp only [Hub.onRemote, upd_upd]
      rfl
    · rw [endMeasurement_request ((congrArg (fun r : RemoteLink => r.meas.origin) (upd_get_same h.lnk.remote p _)).trans ho)]
      simp only [Hub.onRemote, upd_upd, upd_get_same, if_true, measureReport]
      rw [ht]
      rfl
  · intro p s h r lnk hr he ht hh
    have hend : h.measurementTimeout p = h.endMeasurement p .timeout := if_pos ⟨hr, he, ht, hh⟩
    refine ⟨fun ho => next_congr (hend.trans (endMeasurement_entry ho)),
      fun tag ho => next_congr (hend.trans (endMeasurement_request ho))⟩

end Sys2Proof
end

section
/-! Cells and table loading (O36 to O38, O40), and requests as they are taken (O42, O43). -/

namespace Sys2Proof.Machine

/-! ## Cells -/

/-- The hub with the cell of the boundary taken (R169). -/
abbrev Hub.cellTaken (h : Hub) : Hub := { h with mga := { h.mga with cell := none } }

theorem takeCell_handed {h : Hub} {c : Cell} {k : CellType} (act : Cell → Hub → Hub) (hc : h.mga.cell = some c)
    (hk : c.kind = k) : h.takeCell k act = act c h.cellTaken := by
  unfold Hub.takeCell
  rw [hc]
  exact if_pos hk

/-- The kind of a cell by the number of its type (R179). -/
theorem kind_of_type {c : Cell} {n : Nat} : c.type.toNat = n →
    c.kind = match n with | 0 => .idle | 1 => .request | 3 => .data | 4 => .check | _ => .response := by
  rintro rfl
  rfl

/-- A cell whose type is 2 or above 4 is none that MGA expects (R179). -/
theorem kind_of_unexpected {c : Cell} (ht : c.type = 2 ∨ 5 ≤ c.type.toNat) : c.kind = .response := by
  rcases ht with ht | ht
  · exact kind_of_type (n := 2) (congrArg BitVec.toNat ht)
  · obtain ⟨k, hk⟩ := Nat.exists_eq_add_of_le' ht
    exact kind_of_type hk

theorem reqKind_eq_some {c : Cell} {k : ReqKind} : c.reqKind = some k ↔ byteAt c.payload 0 = k.code := by
  constructor
  · intro h
    exact (of_decide_eq_true
      (List.find?_some (p := fun k : ReqKind => decide (k.code = byteAt c.payload 0)) h)).symm
  · intro h
    unfold Cell.reqKind
    rw [h]
    cases k <;> rfl

theorem reqKind_eq_none {c : Cell} (h : byteAt c.payload 0 = 0 ∨ 20 ≤ byteAt c.payload 0) : c.reqKind = none := by
  cases hk : c.reqKind with
  | none => rfl
  | some k =>
    have hc := reqKind_eq_some.mp hk
    have hrange : 1 ≤ k.code ∧ k.code ≤ 19 := by cases k <;> decide
    omega

theorem loadTimeout_silent {h : Hub} (hp : h.tld.phase = .opened) (hs : 16000 ≤ h.tld.silence) :
    h.loadTimeout = h.endLoad .timeout := if_pos ⟨hp, hs⟩

/-- The hub when a REQUEST cell has joined the queue (R169). -/
abbrev Hub.requestJoined (h : Hub) (c : Cell) : Hub :=
  { h with mga := { h.mga with requests := h.mga.requests ++ [c] } }

theorem acceptRequest_full {h : Hub} {c : Cell} (hl : 4 ≤ h.mga.requests.length) : h.acceptRequest c =
    { h with mga := { h.mga with overrun := sat32 h.mga.overrun 1 } }.raise .overrun := if_pos hl

theorem acceptRequest_joins {h : Hub} {c : Cell} (hl : h.mga.requests.length < 4) : h.acceptRequest c =
    if byteAt c.payload 0 = 5 then
      if (h.requestJoined c).loadTimeout.tld.phase = .opened then
        { (h.requestJoined c).loadTimeout with tld := { (h.requestJoined c).loadTimeout.tld with phase := .closing } }
      else (h.requestJoined c).loadTimeout
    else h.requestJoined c := by
  have hk : c.reqKind = some .loadEnd ↔ byteAt c.payload 0 = 5 := reqKind_eq_some
  unfold Hub.acceptRequest
  rw [if_neg (by omega)]
  exact if_congr hk rfl rfl

theorem acceptRequest_other {h : Hub} {c : Cell} (hl : h.mga.requests.length < 4)
    (hn : byteAt c.payload 0 ≠ 5 ∨ h.tld.phase ≠ .opened) : h.acceptRequest c = h.requestJoined c := by
  rw [acceptRequest_joins hl]
  split
  next hb =>
    have hp := hn.resolve_left (not_not_intro hb)
    have hsame : (h.requestJoined c).loadTimeout = h.requestJoined c := if_neg fun hop => hp hop.1
    rw [hsame]
    exact if_neg hp
  · rfl

theorem acceptRequest_closes {h : Hub} {c : Cell} (hl : h.mga.requests.length < 4) (hb : byteAt c.payload 0 = 5)
    (hp : h.tld.phase = .opened) (hs : h.tld.silence < 16000) :
    h.acceptRequest c = { h.requestJoined c with tld := { h.tld with phase := .closing } } := by
  have hsame : (h.requestJoined c).loadTimeout = h.requestJoined c := if_neg fun hop => absurd hop.2 (Nat.not_le.mpr hs)
  rw [acceptRequest_joins hl, if_pos hb, hsame]
  exact if_pos hp

theorem acceptRequest_timesOut {h : Hub} {c : Cell} (hl : h.mga.requests.length < 4) (hb : byteAt c.payload 0 = 5)
    (hp : h.tld.phase = .opened) (hs : 16000 ≤ h.tld.silence) :
    h.acceptRequest c = (h.requestJoined c).endLoad .timeout := by
  have hend : (h.requestJoined c).loadTimeout = (h.requestJoined c).endLoad .timeout := if_pos ⟨hp, hs⟩
  rw [acceptRequest_joins hl, if_pos hb, hend]
  rfl

theorem Tld.fail_eq (t : Tld) (k : LoadErrorKind) :
    t.fail k = { t with firstError := t.firstError.or (some (t.burstsClosed + 1, k)) } := by
  unfold Tld.fail
  cases he : t.firstError with
  | none => rfl
  | some e =>
    exact congrArg (fun e => { t with firstError := e }) he

theorem tld_data_eq (d : Tld) (c : Cell) : d.data c = match d.phase with
    | .none => { d with stray := min (d.stray + 1) (2 ^ 32 - 1) }
    | .closing => { d with firstError := d.firstError.or (some (d.burstsClosed + 1, .lateCell)) }
    | .opened => { d with
        silence := 0
        firstError := if c.tag = d.expectedTag then d.firstError
          else d.firstError.or (some (d.burstsClosed + 1, .sequence))
        expectedTag := c.tag + 1
        burstCrc := c.payload.foldl crcByte d.burstCrc
        burstCells := min (d.burstCells + 1) 255
        image := d.image ++ c.payload.take (d.declared - d.image.length)
        received := min (d.received + 12) 3060 } := by
  unfold Tld.data
  cases hp : d.phase with
  | none => simp only [← hp]; rfl
  | closing => simp only [← hp]; exact d.fail_eq _
  | opened =>
    dsimp only
    rw [← hp]
    by_cases ht : c.tag = d.expectedTag
    · simp only [if_pos ht]
      rfl
    · simp only [if_neg ht, Tld.fail_eq]
      rfl

theorem tld_check_eq (d : Tld) (c : Cell) : d.check c = match d.phase with
    | .none => { d with stray := min (d.stray + 1) (2 ^ 32 - 1) }
    | .closing => { d with firstError := d.firstError.or (some (d.burstsClosed + 1, .lateCell)) }
    | .opened => { d with
        silence := 0
        firstError := if word16At c.payload 0 = d.burstCrc.toNat then d.firstError
          else d.firstError.or (some (d.burstsClosed + 1, .crcMismatch))
        burstsClosed := min (d.burstsClosed + 1) 255
        burstCells := 0
        burstCrc := 0x5A3C } := by
  unfold Tld.check
  cases hp : d.phase with
  | none => simp only [← hp]; rfl
  | closing => simp only [← hp]; exact d.fail_eq _
  | opened =>
    dsimp only
    rw [← hp]
    by_cases ht : word16At c.payload 0 = d.burstCrc.toNat
    · simp only [if_pos ht]
      rfl
    · simp only [if_neg ht, Tld.fail_eq]
      rfl

/-! ## Requests that are offered -/

theorem tableOf_code (id : TableId) : tableOf id.code.toNat = some id := by cases id <;> rfl

theorem tableOf_eq_none {n : Nat} (h : 5 ≤ n) : tableOf n = none := by
  obtain ⟨k, rfl⟩ := Nat.exists_eq_add_of_le' h
  rfl

/-- The hub with the head of the request queue taken, `rest` waiting (R170). -/
abbrev Hub.asked (h : Hub) (rest : List Cell) : Hub := { h with mga := { h.mga with requests := rest } }

/-- A command that takes a request of kind `k`, where one is offered (R170). -/
theorem asked_next {s : State} {c : Cell} {rest : List Cell} {k : ReqKind} {act : Cell → Hub → Hub} {g : Hub}
    (ho : s.hub.offersKind c rest k) (hg : act c (s.hub.asked rest) = g) :
    s.onHub (Hub.takeRequest k act) = .next { s with hub := g } :=
  next_congr ((takeRequest_offered act ho).trans hg)

theorem actLoadBegin_eq (c : Cell) (h : Hub) : h.actLoadBegin c =
    match tableOf (c.arg 0) with
    | none => h.refuse c.tag .badArgument []
    | some id =>
      if h.tld.phase ≠ .none then h.refuse c.tag .busy []
      else if c.arg16 1 ≠ id.size then h.refuse c.tag .badLength []
      else { h with tld := { h.tld with
        phase := .opened, table := id, declared := id.size, image := [], received := 0,
        expectedTag := 0, burstsClosed := 0, burstCells := 0, burstCrc := 0x5A3C,
        firstError := none, silence := 0 } }.answerOk c.tag [] := rfl

/-- A request of the wrong length is refused (R170). -/
theorem takeRequest_badLength {h : Hub} {c : Cell} {rest : List Cell} {k : ReqKind} (act : Cell → Hub → Hub)
    (ho : h.offers c rest) (hk : c.reqKind = some k) (hl : c.length.toNat ≠ k.length) :
    h.takeRequest k act = { h with mga := h.mga.answered rest (badResponse c.tag .refused 8 []) } := by
  obtain ⟨hq, hb, hr⟩ := ho
  have htake : h.canTake ∧ (c.reqKind = some k : Bool) := ⟨by simp [Hub.canTake, hb, hr], by simp [hk]⟩
  unfold Hub.takeRequest Hub.takeHead
  rw [hq]
  dsimp only
  rw [if_pos htake, if_pos hl, refuse_eq]
  simp only [Hub.dequeue, hq]
  rfl

/-- A request of no kind is answered BAD_REQUEST (R170). -/
theorem takeUnknown_offered {h : Hub} {c : Cell} {rest : List Cell} (ho : h.offers c rest) (hk : c.reqKind = none) :
    h.takeUnknown = { h with mga := h.mga.answered rest (badResponse c.tag .badRequest 0 []) } := by
  obtain ⟨hq, hb, hr⟩ := ho
  have htake : h.canTake ∧ (c.reqKind = none : Bool) := ⟨by simp [Hub.canTake, hb, hr], by simp [hk]⟩
  unfold Hub.takeUnknown Hub.takeHead
  rw [hq]
  dsimp only
  rw [if_pos htake, respond_eq (by decide)]
  simp only [Hub.dequeue, hq]
  rfl

/-- The command of a request takes a head of its own kind, and does nothing else. -/
theorem exec_takeHead {c : Instr} (hc : c.isRequest = true) : ∃ (is : Cell → Bool) (act : Cell → Hub → Hub),
    ∀ s, exec c s = .next { s with hub := s.hub.takeHead is act } := by
  cases c with
  | hello | readPortStatus | readSectorStatus | readCarrierStatus | readMeter | readExtremes | readDlPower | readFaults
  | readFaultHistory | readMoveQueue | readMoveLog | readAdvice | readCounters | readNotices | readLoadStatus
  | readLinkSummary | readQuietSummary | tableRead | loadBegin | loadEnd | loadAbort | enterService | restart
  | portReset | clearCounters | operatorHold | operatorRelease | measureDelay | loopTest | move | cancelMove | wake
  | clearFaults | priorityPoll | unknownRequest => exact ⟨_, _, fun _ => rfl⟩
  | _ => cases hc

end Sys2Proof.Machine

namespace Sys2Proof
open Machine

/-- Settles O36. -/
theorem cellsActByTheirType : Obligations.CellsActByTheirType := by
  intro c s h mga hc
  refine ⟨fun ht => ?_, fun ht => ?_, fun ht hl => ?_, fun ht hl => ?_⟩
  · exact next_congr (takeCell_handed _ hc (kind_of_type (congrArg BitVec.toNat ht)))
  · exact next_congr (takeCell_handed _ hc (kind_of_unexpected ht))
  · exact next_congr ((takeCell_handed _ hc (kind_of_type (congrArg BitVec.toNat ht))).trans (acceptRequest_full hl))
  · have htake : Hub.takeCell .request Hub.acceptRequest h = h.cellTaken.acceptRequest c :=
      takeCell_handed _ hc (kind_of_type (congrArg BitVec.toNat ht))
    exact ⟨fun hn => next_congr (htake.trans (acceptRequest_other hl hn)),
      fun hb hp hs => next_congr (htake.trans (acceptRequest_closes hl hb hp hs)),
      fun hb hp hs => next_congr (htake.trans (acceptRequest_timesOut hl hb hp hs))⟩

/-- Settles O37. -/
theorem dataAndCheckCellsFillTheImage : Obligations.DataAndCheckCellsFillTheImage := by
  intro c s h d late stray hc
  refine ⟨fun ht => ?_, fun ht => ?_⟩
  · refine next_congr ((takeCell_handed _ hc (kind_of_type (congrArg BitVec.toNat ht))).trans ?_)
    refine congrArg (fun t => { h.cellTaken with tld := t }) ?_
    exact tld_data_eq h.tld c
  · refine next_congr ((takeCell_handed _ hc (kind_of_type (congrArg BitVec.toNat ht))).trans ?_)
    refine congrArg (fun t => { h.cellTaken with tld := t }) ?_
    exact tld_check_eq h.tld c

/-- Settles O38. -/
theorem loadBeginOpensALoad : Obligations.LoadBeginOpensALoad := by
  intro c rest s h refused ho
  refine ⟨fun ha => asked_next ho ?_, fun id ha => ⟨fun hp => asked_next ho ?_, fun hp hl => asked_next ho ?_,
    fun hp hl => asked_next ho ?_⟩⟩
  · rw [actLoadBegin_eq, tableOf_eq_none ha]
    rfl
  · rw [actLoadBegin_eq, ha, tableOf_code]
    exact if_pos hp
  · rw [actLoadBegin_eq, ha, tableOf_code]
    exact (if_neg (not_not_intro hp)).trans (if_pos hl)
  · rw [actLoadBegin_eq, ha, tableOf_code]
    exact (if_neg (not_not_intro hp)).trans (if_neg (not_not_intro hl))

/-- Settles O40. -/
theorem loadsEndWithoutLoadEnd : Obligations.LoadsEndWithoutLoadEnd := by
  constructor
  · intro c rest s h ho
    exact ⟨fun hp => asked_next ho (if_pos hp), fun hp => asked_next ho (if_neg hp)⟩
  · intro s h hp hs
    exact next_congr (loadTimeout_silent hp hs)

/-- Settles O43. -/
theorem helloAndTableReadAnswer : Obligations.HelloAndTableReadAnswer := by
  refine ⟨fun c rest s ho => asked_next ho ?_, fun c rest s ho => ⟨fun ha => asked_next ho ?_,
    fun id ha => asked_next ho ?_⟩⟩
  · unfold Hub.actHello
    rw [answerOk_eq]
    rfl
  · unfold Hub.actTableRead
    rw [tableOf_eq_none ha]
    rfl
  · unfold Hub.actTableRead
    rw [ha, tableOf_code]
    dsimp only
    split <;> rfl

/-- Settles O42. -/
theorem requestsAreTakenAndJudged : Obligations.RequestsAreTakenAndJudged := by
  refine ⟨fun c s hc hn => ?_, fun c rest s ho hb => ?_, fun k c rest s ho hb hl hk => ?_⟩
  · obtain ⟨is, act, he⟩ := exec_takeHead hc
    rw [he, takeHead_hindered is act hn]
  · exact next_congr (takeUnknown_offered ho (reqKind_eq_none hb))
  · have hr := fun act => takeRequest_badLength act ho (reqKind_eq_some.mpr hb) hl
    cases k with
    | read => exact absurd rfl hk
    | _ => exact next_congr (hr _)

end Sys2Proof
end

section
/-! Requests of the hub and of its ports (O49 to O52). -/

namespace Sys2Proof.Machine

theorem b1_eq (n : Nat) : b1 n = [BitVec.ofNat 8 n] := by
  simp [b1, toBytes]

theorem withPort_of {h : Hub} {c : Cell} {p : PortId} (hp : c.arg 0 = p.val) (act : PortId → Hub → Hub) :
    h.withPort c act = act p h := by
  unfold Hub.withPort
  rw [hp, fin?_val]

theorem withPort_outside {h : Hub} {c : Cell} (hc : 24 ≤ c.arg 0) (act : PortId → Hub → Hub) :
    h.withPort c act = h.refuse c.tag .badArgument [] := by
  unfold Hub.withPort
  rw [fin?_eq_none hc]

/-! ## CLEAR_COUNTERS -/

theorem clearCounters_remote (h : Hub) (p : PortId) : h.clearCounters.lnk.remote[p] =
    { h.lnk.remote[p] with core := (h.lnk.remote[p].core).clearCounters } := mapTab_get _ h.lnk.remote p

theorem clearCounters_plm (h : Hub) (p : PortId) : h.clearCounters.plm[p] =
    { h.plm[p] with lanes := mapTab (fun l : LaneLimiter => { l with attack := 0 }) h.plm[p].lanes } :=
  mapTab_get _ h.plm p

/-! ## Operators -/

theorem shiftCarriers_eq (h : Hub) (o : OperatorId) (was now : CarrierState) : h.shiftCarriers o was now =
    { h with dlc := { h.dlc with carriers := tab fun k =>
        if (decide (h.tables.operator k = o) && decide (h.dlc.carriers[k] = was)) = true then now
        else h.dlc.carriers[k] } } := by
  unfold Hub.shiftCarriers
  simp only [Bool.and_eq_true, decide_eq_true_eq]

theorem holdEffect_eq {h : Hub} {tag : Byte} {o : OperatorId} (hb : h.mga.busy = some (.operatorHold tag o))
    (hr : h.mga.busyRipe = true) : h.holdEffect =
      ((h.shiftCarriers o .active .held).answerOk tag [BitVec.ofNat 8 (h.carrierCount o .active)]).free := by
  unfold Hub.holdEffect
  rw [hb]
  exact if_pos hr

theorem releaseEffect_eq {h : Hub} {tag : Byte} {o : OperatorId} (hb : h.mga.busy = some (.operatorRelease tag o))
    (hr : h.mga.busyRipe = true) : h.releaseEffect =
      ((h.shiftCarriers o .held .active).answerOk tag [BitVec.ofNat 8 (h.carrierCount o .held)]).free := by
  unfold Hub.releaseEffect
  rw [hb]
  exact if_pos hr

/-! ## MEASURE_DELAY and LOOP_TEST -/

theorem actMeasureDelay_eq {h : Hub} {c : Cell} {p : PortId} (hp : c.arg 0 = p.val) : h.actMeasureDelay c =
    if (h.linkOf p).aligned = false then h.refuse c.tag .badArgument []
    else if (h.lnk.remote[p]).meas.running = true then
      (h.onRemote p fun r => { r with meas := { r.meas with origin := .request c.tag } }).setBusy (.measuring p)
    else h.setBusy (.measureStart c.tag p) := by
  unfold Hub.actMeasureDelay
  rw [withPort_of hp]
  simp only [Bool.not_eq_true']

theorem actLoopTest_eq {h : Hub} {c : Cell} {p : PortId} (hp : c.arg 0 = p.val) : h.actLoopTest c =
    if h.inService = false then h.respond c.tag .notInService 0 []
    else if h.isUp p = false ∨ h.ramping p = true ∨ h.queued p = true ∨ h.isQuiet p = true then
      h.refuse c.tag .busy []
    else (h.onMeter p fun m => { m with loop := .pending c.tag }).setBusy (.loopTest p) := by
  unfold Hub.actLoopTest
  rw [withPort_of hp]
  simp only [Bool.not_eq_true']

/-! ## MOVE -/

/-- MOVE of a port and a sector that are in range, in SERVICE (R121). -/
theorem actMove_eq {h : Hub} {c : Cell} {p : PortId} {z : SectorId} (hp : c.arg 0 = p.val) (hz : c.arg 1 = z.val)
    (hs : h.inService = true) : h.actMove c =
      if h.tables.portOn p = false ∨ h.tables.sectorOn z = false then h.refuse c.tag .badArgument []
      else if h.ramping p = true then h.refuse c.tag .inFlight []
      else match (h.assignOf p).sole with
        | none => h.refuse c.tag .badArgument []
        | some present =>
          if present = z then h.refuse c.tag .badArgument []
          else if h.inLoopTest p = true then h.refuse c.tag .busy []
          else if 8 ≤ h.sbl.queue.length ∧ h.queued p = false then h.refuse c.tag .full []
          else (h.placeManual ⟨p, present, z, .manual⟩).answerOk c.tag
            (b1 ((h.placeManual ⟨p, present, z, .manual⟩).queuePlace p)) := by
  unfold Hub.actMove
  rw [hp, hz, fin?_val, fin?_val, hs]
  simp only [Bool.not_true, Bool.false_eq_true, if_false, Bool.not_eq_true'] <;> rfl

theorem match_sole_one {h : Hub} {p : PortId} {z : SectorId} (ha : h.assignOf p = .one z) (x : Hub)
    (f : SectorId → Hub) : (match (h.assignOf p).sole with | none => x | some present => f present) = f z := by
  rw [ha]
  rfl

theorem actMove_config {h : Hub} {c : Cell} (hs : h.inService = false) :
    h.actMove c = h.respond c.tag .notInService 0 [] := if_pos (by rw [hs]; rfl)

theorem actMove_outside {h : Hub} {c : Cell} (hs : h.inService = true) (ha : 24 ≤ c.arg 0 ∨ 12 ≤ c.arg 1) :
    h.actMove c = h.refuse c.tag .badArgument [] := by
  unfold Hub.actMove
  rw [hs]
  rcases ha with ha | ha <;> rw [fin?_eq_none ha]
  · rfl
  · cases fin? 24 (c.arg 0) <;> rfl

/-- The queue when a MANUAL entry has taken the place of its port's, or joined the tail (R121). -/
def Hub.manualQueue (h : Hub) (e : MoveEntry) : List MoveEntry :=
  if h.queued e.port then h.sbl.queue.map fun q => if q.port = e.port then e else q else h.sbl.queue ++ [e]

theorem placeManual_eq (h : Hub) (e : MoveEntry) : h.placeManual e = { h with
    mga := if h.isQuiet e.port then h.mga.raised .quiet else h.mga
    sbl := { h.sbl with
      queue := h.manualQueue e
      ports := upd h.sbl.ports e.port fun b =>
        if h.isQuiet e.port then { b with quiet := false, quietDue := false, quietCount := 0, wakeCause := .move }
        else b } } := by
  have hwake := fun q : List MoveEntry => wakePort_eq { h with sbl := { h.sbl with queue := q } } e.port .move
  have hplace : h.placeManual e = { h with sbl := { h.sbl with queue := h.manualQueue e } }.wakePort e.port .move := by
    unfold Hub.placeManual Hub.manualQueue Hub.enqueue
    split <;> rfl
  have hquiet : { h with sbl := { h.sbl with queue := h.manualQueue e } }.isQuiet e.port = h.isQuiet e.port := rfl
  rw [hplace, hwake, hquiet]
  cases h.isQuiet e.port
  · simp only [Bool.false_eq_true, if_false, upd_id]
  · rfl

/-- Every entry of the port in the queue is the new one. -/
theorem eq_of_mem_manualQueue {h : Hub} {e q : MoveEntry} (hq : q ∈ h.manualQueue e) (hp : q.port = e.port) : q = e := by
  unfold Hub.manualQueue at hq
  split at hq
  · obtain ⟨r, -, hr⟩ := List.mem_map.mp hq
    by_cases hrp : r.port = e.port
    · rw [if_pos hrp] at hr
      exact hr.symm
    · rw [if_neg hrp] at hr
      exact absurd (hr ▸ hp) hrp
  next hn =>
    rcases List.mem_append.mp hq with hq | hq
    · exact absurd (List.any_eq_true.mpr ⟨q, hq, decide_eq_true hp⟩) hn
    · exact List.mem_singleton.mp hq

theorem mem_manualQueue (h : Hub) (e : MoveEntry) : e ∈ h.manualQueue e := by
  unfold Hub.manualQueue
  split
  next hn =>
    obtain ⟨q, hq, hp⟩ := List.any_eq_true.mp hn
    exact List.mem_map.mpr ⟨q, hq, if_pos (of_decide_eq_true hp)⟩
  · exact List.mem_append_right _ (List.mem_singleton.mpr rfl)

/-- The place reported is that of the new entry (R121). -/
theorem getElem?_manualQueue (h : Hub) (e : MoveEntry) :
    (h.manualQueue e)[(h.manualQueue e).findIdx fun q => q.port = e.port]? = some e := by
  have hlt : (h.manualQueue e).findIdx (fun q => q.port = e.port) < (h.manualQueue e).length :=
    List.findIdx_lt_length.mpr ⟨e, mem_manualQueue h e, decide_eq_true rfl⟩
  have hp := List.findIdx_getElem (w := hlt)
  rw [List.getElem?_eq_getElem hlt]
  exact congrArg some (eq_of_mem_manualQueue (List.getElem_mem hlt) (of_decide_eq_true hp))

end Sys2Proof.Machine

namespace Sys2Proof
open Machine

/-- Settles O49. -/
theorem clearCountersZeroesTheCounters : Obligations.ClearCountersZeroesTheCounters := by
  intro c rest s h ho
  refine ⟨_, asked_next ho rfl, rfl, rfl, fun l => ?_, fun p => ?_, rfl, fun p b => ?_, rfl, fun k => ?_, rfl,
    fun p b => ?_, fun p => ?_, fun p => ?_, rfl, rfl, rfl, rfl, rfl, rfl, rfl, rfl⟩
  · cases l with
    | remote p => exact congrArg RemoteLink.core (clearCounters_remote h p)
    | donor d => exact mapTab_get _ h.lnk.donor d
    | trunk => rfl
  · show h.clearCounters.lnk.remote[p] = { h.lnk.remote[p] with core := (h.clearCounters.lnk.remote[p]).core }
    rw [clearCounters_remote]
  · exact replicate_get₂ _ p b
  · exact replicate_get _ k
  · show (h.clearCounters.plm[p]).lanes[b] = { h.plm[p].lanes[b] with attack := 0 }
    rw [clearCounters_plm]
    exact mapTab_get _ _ b
  · show h.clearCounters.plm[p] = { h.plm[p] with lanes := (h.clearCounters.plm[p]).lanes }
    rw [clearCounters_plm]
  · exact mapTab_get _ h.deq.ports p

/-- Settles O50. -/
theorem operatorsHoldAndRelease : Obligations.OperatorsHoldAndRelease := by
  constructor
  · intro k v c rest s h hk ho
    rcases hk with ⟨rfl, rfl⟩ | ⟨rfl, rfl⟩
    · refine ⟨fun ha => asked_next ho ?_, fun o ha => asked_next ho ?_⟩
      · unfold Hub.actOperatorHold
        rw [fin?_eq_none ha]
        rfl
      · unfold Hub.actOperatorHold
        rw [ha, fin?_val]
        rfl
    · refine ⟨fun ha => asked_next ho ?_, fun o ha => asked_next ho ?_⟩
      · unfold Hub.actOperatorRelease
        rw [fin?_eq_none ha]
        rfl
      · unfold Hub.actOperatorRelease
        rw [ha, fin?_val]
        rfl
  · intro v tag o s h was now changes hb hr
    cases v with
    | true =>
      refine next_congr ((holdEffect_eq hb hr).trans ?_)
      rw [shiftCarriers_eq]
      rfl
    | false =>
      refine next_congr ((releaseEffect_eq hb hr).trans ?_)
      rw [shiftCarriers_eq]
      rfl

/-- Settles O51. -/
theorem measureDelayAndLoopTestAreJudged : Obligations.MeasureDelayAndLoopTestAreJudged := by
  constructor
  · intro c rest s h refused busy ho
    refine ⟨fun ha => asked_next ho (withPort_outside ha _), fun p ha => ⟨fun hn => ?_, fun hl hm => ?_, fun hl hm => ?_⟩⟩
    · exact asked_next ho ((actMeasureDelay_eq ha).trans (if_pos hn))
    · exact asked_next ho ((actMeasureDelay_eq ha).trans
        ((if_neg (ne_false_of_eq_true hl)).trans (if_neg (ne_true_of_eq_false hm))))
    · exact asked_next ho ((actMeasureDelay_eq ha).trans ((if_neg (ne_false_of_eq_true hl)).trans (if_pos hm)))
  · intro c rest s h answered ho
    refine ⟨fun ha => asked_next ho (withPort_outside ha _), fun p ha => ?_⟩
    intro hindered
    refine ⟨fun hs => ?_, fun hs hh => ?_, fun hs hh => ?_⟩
    · exact asked_next ho ((actLoopTest_eq ha).trans ((if_pos hs).trans (respond_eq (by decide) _ _ _ _)))
    · exact asked_next ho ((actLoopTest_eq ha).trans ((if_neg (ne_false_of_eq_true hs)).trans (if_pos hh)))
    · exact asked_next ho ((actLoopTest_eq ha).trans ((if_neg (ne_false_of_eq_true hs)).trans (if_neg hh)))

/-- Settles O52. -/
theorem moveIsJudged : Obligations.MoveIsJudged := by
  intro c rest s h refused ho
  refine ⟨fun hs => asked_next ho ((actMove_config (h := h.asked rest) hs).trans (respond_eq (by decide) _ _ _ _)),
    fun hs ha => asked_next ho (actMove_outside (h := h.asked rest) hs ha), fun p z hp hz hs => ?_⟩
  have hact := actMove_eq (h := h.asked rest) hp hz hs
  refine ⟨fun hn => asked_next ho (hact.trans (if_pos hn)), fun hpo hzo => ?_⟩
  have hon : ¬ (h.tables.portOn p = false ∨ h.tables.sectorOn z = false) := by simp [hpo, hzo]
  refine ⟨fun hr => asked_next ho (hact.trans ((if_neg hon).trans (if_pos hr))), fun present hr hat => ?_⟩
  have hact := (hact.trans ((if_neg hon).trans (if_neg (ne_true_of_eq_false hr)))).trans
    (match_sole_one (h := h.asked rest) hat _ _)
  refine ⟨fun hz => asked_next ho (hact.trans (if_pos hz)), fun hz hl => asked_next ho ?_,
    fun hz hl hf hq => asked_next ho ?_, fun hz hl hroom => ?_⟩
  · exact hact.trans ((if_neg hz).trans (if_pos hl))
  · exact hact.trans ((if_neg hz).trans ((if_neg (ne_true_of_eq_false hl)).trans (if_pos ⟨hf, hq⟩)))
  · intro entry queue
    have hfull : ¬ (8 ≤ h.sbl.queue.length ∧ h.queued p = false) := by
      rintro ⟨hf, hq⟩
      rcases hroom with hroom | hroom
      · omega
      · exact absurd hq (ne_false_of_eq_true hroom)
    have hact := hact.trans ((if_neg hz).trans ((if_neg (ne_true_of_eq_false hl)).trans (if_neg hfull)))
    refine ⟨_, getElem?_manualQueue h entry, asked_next ho (hact.trans ?_)⟩
    rw [placeManual_eq, b1_eq]
    have hquiet : (h.asked rest).isQuiet p = h.isQuiet p := rfl
    simp only [hquiet]
    cases h.isQuiet p <;> rfl

end Sys2Proof
end

section
/-! Updates of a whole table, port by port; the entry to SERVICE, the moves, the recomputation and the trunk cell
(O46, O57, O59, O60). -/

namespace Sys2Proof

/-- Every item of a table updated in turn, each by what the rest of the state makes of it. -/
theorem each_upd {α : Type} {n : Nat} (f : Fin n → α → α) (v : Vector α n) :
    each (fun i w => upd w i (f i)) v = tab fun i => f i v[i] := by
  refine Vector.ext fun j hj => ?_
  rw [tab_getElem]
  refine each_at (g := fun w : Vector α n => w[j]) (P := fun _ => True) (F := f ⟨j, hj⟩) ⟨j, hj⟩ (fun _ _ h => h)
    (fun i w hne _ => ?_) (fun w _ => ?_) trivial
  · rw [upd_getElem, if_neg fun he => hne (Fin.ext he)]
  · exact upd_get_same w ⟨j, hj⟩ _

theorem each_congr_of {σ : Type} {n : Nat} {f g : Fin n → σ → σ} {P : σ → Prop} (hP : ∀ i s, P s → P (g i s))
    (hfg : ∀ i s, P s → f i s = g i s) {s : σ} (hs : P s) : each f s = each g s := by
  unfold each
  induction List.finRange n generalizing s with
  | nil => rfl
  | cons x xs ih => rw [List.foldl_cons, List.foldl_cons, hfg x s hs, ih (hP x s hs)]

section Lens
variable {σ α : Type} {n : Nat} {read : σ → Vector α n} {write : σ → Vector α n → σ}

/-- A table of the state updated item by item, each item by what the rest of the state makes of it. -/
theorem each_write (hrw : ∀ s v, read (write s v) = v) (hww : ∀ s v w, write (write s v) w = write s w)
    (hwr : ∀ s, write s (read s) = s) {f : σ → Fin n → α → α} (hf : ∀ s v, f (write s v) = f s) (s : σ) :
    each (fun i t => write t (upd (read t) i (f t i))) s = write s (tab fun i => f s i (read s)[i]) := by
  have hfold (xs : List (Fin n)) (v : Vector α n) :
      xs.foldl (fun t i => write t (upd (read t) i (f t i))) (write s v)
        = write s (xs.foldl (fun w i => upd w i (f s i)) v) := by
    induction xs generalizing v with
    | nil => rfl
    | cons x xs ih => rw [List.foldl_cons, hrw, hww, hf, ih, List.foldl_cons]
  have hstart := hfold (List.finRange n) (read s)
  rw [hwr] at hstart
  exact hstart.trans (congrArg (write s) (each_upd (f s) (read s)))

end Lens

end Sys2Proof

namespace Sys2Proof.Machine

theorem each_onBal {f : Hub → PortId → PortBalance → PortBalance}
    (hf : ∀ h v, f { h with sbl := { h.sbl with ports := v } } = f h) (h : Hub) :
    each (fun p g => g.onBal p (f g p)) h = { h with sbl := { h.sbl with ports := tab fun p => f h p h.sbl.ports[p] } } :=
  each_write (read := fun h : Hub => h.sbl.ports) (write := fun h v => { h with sbl := { h.sbl with ports := v } })
    (fun _ _ => rfl) (fun _ _ _ => rfl) (fun _ => rfl) hf h

theorem each_onMeter {f : Hub → PortId → PortMeter → PortMeter}
    (hf : ∀ h v, f { h with lvm := { h.lvm with ports := v } } = f h) (h : Hub) :
    each (fun p g => g.onMeter p (f g p)) h = { h with lvm := { h.lvm with ports := tab fun p => f h p h.lvm.ports[p] } } :=
  each_write (read := fun h : Hub => h.lvm.ports) (write := fun h v => { h with lvm := { h.lvm with ports := v } })
    (fun _ _ => rfl) (fun _ _ _ => rfl) (fun _ => rfl) hf h

theorem each_onDet {f : Hub → PortId → Detectors → Detectors}
    (hf : ∀ h v, f { h with fsv := { h.fsv with detectors := v } } = f h) (h : Hub) :
    each (fun p g => g.onDet p (f g p)) h = { h with fsv := { h.fsv with detectors := tab fun p => f h p h.fsv.detectors[p] } } :=
  each_write (read := fun h : Hub => h.fsv.detectors) (write := fun h v => { h with fsv := { h.fsv with detectors := v } })
    (fun _ _ => rfl) (fun _ _ _ => rfl) (fun _ => rfl) hf h

/-! ## The trunk cell -/

/-- The first index that satisfies a test: it does, and none below it does. -/
theorem find?_finRange_eq_some {n : Nat} {p : Fin n → Bool} {i : Fin n} :
    (List.finRange n).find? p = some i ↔ p i = true ∧ ∀ j, j < i → p j = false := by
  rw [List.find?_eq_some_iff_getElem]
  refine and_congr_right fun _ => ⟨?_, fun hlt => ⟨i, by simp, by simp, fun j hj => ?_⟩⟩
  · rintro ⟨k, hk, rfl, hlt⟩ j hj
    simpa using hlt j.val (by simpa [Fin.lt_def] using hj)
  · simpa using hlt ⟨j, by omega⟩ hj

theorem attention_of_none {h : Hub} (hn : ∀ n : Fin 7, ¬ (h.mga.marks[n] = true ∧ h.tables.attends n = true)) :
    h.attention = 0 := by
  unfold Hub.attention
  rw [List.find?_eq_none.mpr fun n _ => by simpa using hn n]

theorem attention_of_first {h : Hub} {n : Fin 7} (hn : h.mga.marks[n] = true ∧ h.tables.attends n = true)
    (hm : ∀ m : Fin 7, m < n → ¬ (h.mga.marks[m] = true ∧ h.tables.attends m = true)) : h.attention = n.val + 1 := by
  have hfind : (List.finRange 7).find? (fun n => h.mga.marks[n] && h.tables.attends n) = some n := by
    refine (find?_finRange_eq_some).mpr ⟨?_, fun m hlt => ?_⟩
    · simpa using hn
    · simpa using hm m hlt
  unfold Hub.attention
  rw [hfind]

theorem cellBytes_eq (r : Response) (attention : Nat) : r.cellBytes attention =
    [2, r.tag, BitVec.ofNat 8 attention,
      BitVec.ofNat 8 ((match r.status with
        | .ok => 0 | .refused => 16 | .notInService => 32 | .badRequest => 48 | .timeout => 64) + r.used)]
      ++ r.payload.take 12 ++ List.replicate (12 - r.payload.length) 0 := by
  have hpad : 12 - (r.payload.take 12).length = 12 - r.payload.length := by
    rw [List.length_take]
    omega
  unfold Response.cellBytes sliceZ
  dsimp only
  rw [List.drop_zero, hpad, ← List.append_assoc]
  cases r.status <;> rfl

theorem trunkSupply_eq {h : Hub} (hd : h.bd.supplyDone = false) : h.trunkSupply = { h with
    bd := { h.bd with supplyDone := true }
    mga := match h.mga.responses with
      | r :: rest => if h.lnk.trunk.state = .up then { h.mga with responses := rest, sent := r.cellBytes h.attention }
          else { h.mga with sent := idleCellBytes h.attention }
      | [] => { h.mga with sent := idleCellBytes h.attention } } := by
  unfold Hub.trunkSupply
  rw [if_neg (ne_true_of_eq_false hd)]
  dsimp only
  cases h.mga.responses with
  | nil => rfl
  | cons r rest =>
    dsimp only
    split <;> rfl

/-! ## The entry to SERVICE -/

theorem balanceService_eq (h : Hub) : h.balanceService = { h with sbl := { h.sbl with
    ports := tab fun p =>
      { assign := if h.tables.portOn p then .one (h.tables.home p) else .none
        holdOff := 0, returns := 0, quiet := false, quietCount := 0, wakeCause := .none, quietDue := false }
    flight := none, queue := [], log := [], logSequence := 0, advice := [], intervalCount := 0
    intervalDue := false } } := by
  unfold Hub.balanceService
  have h1 : each Hub.placeHome h = _ := each_onBal (f := fun h p b =>
    { b with assign := if h.tables.portOn p then .one (h.tables.home p) else .none }) (fun _ _ => rfl) h
  dsimp only
  rw [h1, each_onBal (f := fun _ _ b => { b with
    holdOff := 0, returns := 0, quiet := false, quietCount := 0, wakeCause := .none, quietDue := false })
    (fun _ _ => rfl)]
  simp only [tab_get]

theorem restartWindow_of_noTest {h : Hub} (hl : ∀ p : PortId, h.lvm.ports[p].loop = .none) : h.restartWindow =
    { h with lvm := { windowCount := 0, windowNumber := 0, ports := tab fun p => { h.lvm.ports[p] with
        void := false
        meters := mapTab (fun x => { x with acc := 0, held := 0 }) h.lvm.ports[p].meters } } } := by
  have hdrop (m : PortMeter) (hm : m.loop = .none) : { m.dropWindow.startTest with void := false } =
      { m.dropWindow with void := false } := by
    have hl : m.dropWindow.loop = .none := hm
    unfold PortMeter.startTest
    rw [hl]
  have heach : each Hub.restartPort h = each (fun p g => g.onMeter p fun m => { m.dropWindow with void := false }) h := by
    refine each_congr_of (P := fun g : Hub => ∀ p : PortId, g.lvm.ports[p].loop = .none) (fun p g hg q => ?_)
      (fun p g hg => ?_) hl
    · simp only [Hub.onMeter]
      rw [upd_get]
      split
      · exact hg q
      · exact hg q
    · unfold Hub.restartPort
      rw [hg p]
      exact congrArg (fun v => { g with lvm := { g.lvm with ports := v } }) (upd_congr (v := g.lvm.ports) (i := p)
        (f := fun m => { m.dropWindow.startTest with void := false }) (g := fun m => { m.dropWindow with void := false })
        (hdrop _ (hg p)))
  unfold Hub.restartWindow
  rw [heach, each_onMeter (f := fun _ _ m => { m.dropWindow with void := false }) (fun _ _ => rfl)]
  rfl

end Sys2Proof.Machine

namespace Sys2Proof
open Machine

/-- Settles O60. -/
theorem trunkCellCarriesAttention : Obligations.TrunkCellCarriesAttention := by
  refine ⟨fun s hd => next_congr (trunkSupply_of_done hd), fun attention s => ?_⟩
  intro h calls bd idle hd hatt
  have hvalue : h.attention = attention := by
    rcases hatt with ⟨rfl, hn⟩ | ⟨n, rfl, hn, hm⟩
    · exact attention_of_none hn
    · exact attention_of_first hn hm
  have hsupply := trunkSupply_eq hd
  rw [hvalue] at hsupply
  refine ⟨fun hu => next_congr (hsupply.trans ?_), fun r rest hu hr => next_congr (hsupply.trans ?_)⟩
  · cases hq : h.mga.responses with
    | nil => rfl
    | cons r rest =>
      have hnup := hu.resolve_right (hq ▸ List.cons_ne_nil r rest)
      exact congrArg (fun m => { h with bd := bd, mga := m }) (if_neg hnup)
  · rw [hr]
    refine congrArg (fun m => { h with bd := bd, mga := m }) ((if_pos hu).trans ?_)
    exact congrArg (fun b => { h.mga with responses := rest, sent := b }) (cellBytes_eq r attention)

/-- Settles O46: no loop test runs, for the agent owes an ENTER_SERVICE. -/
theorem serviceEntryStartsService : Obligations.ServiceEntryStartsService := by
  intro tag s h hb hr hans
  obtain ⟨-, hloops, -⟩ := hans
  have hnone : ∀ p : PortId, h.lvm.ports[p].loop = .none := fun p => by
    by_contra hp
    exact nomatch hb.symm.trans (hloops p hp)
  refine next_congr (?_ : h.serviceEntry = _)
  unfold Hub.serviceEntry
  rw [hb]
  dsimp only
  rw [if_pos hr]
  unfold Hub.enterService
  dsimp only
  rw [balanceService_eq, restartWindow_of_noTest fun p => ?_]
  · simp only [mapTab_get]
    rfl
  · exact (congrArg PortMeter.loop (mapTab_get _ _ p)).trans (hnone p)

end Sys2Proof
end

section
/-! The recomputation of the delay equalizer, and moves (O57, O59). -/

namespace Sys2Proof.Machine

/-! ## Targets -/

theorem mem_countedPorts {h : Hub} {z : SectorId} {p : PortId} :
    p ∈ h.countedPorts z ↔ h.frame[p].countedIn = some z := by
  simp [Hub.countedPorts]

/-- What the target of a sector is (R70). -/
theorem sectorTarget_spec (h : Hub) (z : SectorId) :
    let e := h.sectorTarget z
    let counted := fun p : PortId => h.frame[p].countedIn = some z
    e.counted = (List.finRange 24).countP (fun p => h.frame[p].countedIn = some z)
    ∧ (∀ p : PortId, counted p → h.frame[p].delay ≤ e.target ∧ e.least ≤ h.frame[p].delay ∧ 0 < e.counted)
    ∧ (∀ p : PortId, counted p → (∃ q : PortId, counted q ∧ h.frame[q].delay = e.target)
        ∧ ∃ q : PortId, counted q ∧ h.frame[q].delay = e.least)
    ∧ ((∀ p : PortId, ¬ counted p) → e = { target := 0, counted := 0, least := 0 }) := by
  intro e counted
  have hmem (p : PortId) (hp : counted p) :
      h.frame[p].delay ∈ (h.countedPorts z).map fun p => h.frame[p].delay :=
    List.mem_map.mpr ⟨p, mem_countedPorts.mpr hp, rfl⟩
  have hof {d : Nat} (hd : d ∈ (h.countedPorts z).map fun p => h.frame[p].delay) :
      ∃ q, counted q ∧ h.frame[q].delay = d := by
    obtain ⟨q, hq, he⟩ := List.mem_map.mp hd
    exact ⟨q, mem_countedPorts.mp hq, he⟩
  obtain ⟨hgmem, hgle⟩ := greatest_spec ((h.countedPorts z).map fun p => h.frame[p].delay)
  obtain ⟨hsmem, hsle⟩ := smallest_spec ((h.countedPorts z).map fun p => h.frame[p].delay)
  refine ⟨?_, fun p hp => ⟨hgle _ (hmem p hp), hsle _ (hmem p hp), List.length_pos_of_mem (hmem p hp)⟩,
    fun p hp => ⟨hof (hgmem (List.ne_nil_of_mem (hmem p hp))), hof (hsmem (List.ne_nil_of_mem (hmem p hp)))⟩,
    fun hn => ?_⟩
  · rw [List.countP_eq_length_filter]
    exact List.length_map _
  · have hnil : h.countedPorts z = [] := List.filter_eq_nil_iff.mpr fun p _ hp => hn p (of_decide_eq_true hp)
    unfold e Hub.sectorTarget
    rw [hnil]
    rfl

theorem sectorTarget_le {h : Hub} {z : SectorId} {d : Nat} (hd : ∀ p : PortId, h.frame[p].delay ≤ d) :
    (h.sectorTarget z).target ≤ d := by
  obtain ⟨-, -, hatt, hnone⟩ := sectorTarget_spec h z
  by_cases hc : ∃ p : PortId, h.frame[p].countedIn = some z
  · obtain ⟨p, hp⟩ := hc
    obtain ⟨⟨q, -, hq⟩, -⟩ := hatt p hp
    exact hq ▸ hd q
  · rw [hnone fun p hp => hc ⟨p, hp⟩]
    exact Nat.zero_le d

/-- A sector with one port takes that port's delay (R70). -/
theorem sectorTarget_lone {h : Hub} {z : SectorId} {p : PortId} (hp : h.frame[p].countedIn = some z)
    (hl : ∀ q : PortId, h.frame[q].countedIn = some z → q = p) :
    h.sectorTarget z = { target := h.frame[p].delay, counted := 1, least := h.frame[p].delay } := by
  have hone : h.countedPorts z = [p] := by
    have hall : (List.finRange 24).filter (fun q : PortId => decide (h.frame[q].countedIn = some z))
        = (List.finRange 24).filter fun q => q == p := by
      refine List.filter_congr fun q _ => ?_
      by_cases hq : q = p
      · subst hq
        rw [decide_eq_true hp, beq_self_eq_true]
      · rw [decide_eq_false (mt (hl q) hq), beq_eq_false_iff_ne.mpr hq]
    exact hall.trans (by rw [List.filter_beq, List.count_eq_one_of_mem (List.nodup_finRange 24) (List.mem_finRange p)]; rfl)
  unfold Hub.sectorTarget
  rw [hone]
  simp [greatest, smallest]

/-! ## What is handed on -/

theorem Hub.frames.trans {a b c : Hub} (x : a.frames b) (y : b.frames c) : a.frames c := by
  unfold Hub.frames at x y ⊢
  rw [y, x]

theorem frames_rangeChange (was : Vector PortEq 24) (p : PortId) (h : Hub) : h.frames (Hub.rangeChange was p h) := by
  unfold Hub.rangeChange
  dsimp only
  split
  · rfl
  · split
    · exact (present_spec h p .delayRange).2.2
    · obtain ⟨-, -, -, he⟩ := clear_spec h (.port p .delayRange)
      unfold Hub.frames
      rw [he]

theorem Hub.frames.refl (h : Hub) : h.frames h := rfl

theorem frames_eachRangeChange (was : Vector PortEq 24) (h : Hub) : h.frames (each (Hub.rangeChange was) h) :=
  each_keeps (P := fun g => h.frames g) (fun p g hg => hg.trans (frames_rangeChange _ p g)) (.refl h)

theorem supervised_rangeChange (was : Vector PortEq 24) (p : PortId) (h : Hub) :
    Supervised h (Hub.rangeChange was p h) := by
  unfold Hub.rangeChange
  dsimp only
  split
  · exact .same h
  · split
    · exact supervised_present h _
    · exact supervised_clearCondition h _

theorem supervised_eachRangeChange (was : Vector PortEq 24) (h : Hub) :
    Supervised h (each (Hub.rangeChange was) h) :=
  supervised_each (fun p g => supervised_rangeChange was p g) h

/-- The hub of a recomputation before its DELAY_RANGE changes are handed on (R69 to R75). -/
def Hub.recomputed (h : Hub) : Hub :=
  { h with
    deq := { sectors := tab h.sectorTarget
             ports := tab fun p => (h.deq.ports[p]).recompute (tab h.sectorTarget) h.frame[p] }
    bd := { h.bd with deqDone := true } }

theorem deqRecompute_eq {h : Hub} (hd : h.bd.deqDone = false) :
    h.deqRecompute = each (Hub.rangeChange h.deq.ports) h.recomputed := if_neg (ne_true_of_eq_false hd)

theorem countedIn_eq (f : FrameInput) : f.countedIn =
    if f.link = .up then
      match f.assign with
      | .none => none
      | .one z => some z
      | .two _ target => some target
    else none := by
  unfold FrameInput.countedIn Assign.counts
  cases f.assign <;> rfl

/-! ## The spread check -/

theorem countedIn_eq_some {f : FrameInput} {z : SectorId} : f.countedIn = some z ↔
    f.link = .up ∧ (f.assign = .one z ∨ ∃ source : SectorId, f.assign = .two source z) := by
  rw [countedIn_eq]
  by_cases hu : f.link = .up
  · rw [if_pos hu]
    cases f.assign <;> simp [hu]
  · simp [hu]

theorem greatest_le_smallest_add {xs : List Nat} {n : Nat} (hne : xs ≠ []) :
    greatest xs ≤ smallest xs + n ↔ ∀ x ∈ xs, ∀ y ∈ xs, x ≤ y + n := by
  obtain ⟨hgmem, hgle⟩ := greatest_spec xs
  obtain ⟨hsmem, hsle⟩ := smallest_spec xs
  constructor
  · intro hle x hx y hy
    have hxg := hgle x hx
    have hsy := hsle y hy
    omega
  · exact fun hall => hall _ (hgmem hne) _ (hsmem hne)

/-- The ports between which the spread check of `p` into `z` is taken (R76). -/
theorem spreadPasses_iff (h : Hub) (p : PortId) (z : SectorId) : h.spreadPasses p z = true ↔
    ∀ q r : PortId, (q = p ∨ h.frame[q].countedIn = some z) → (r = p ∨ h.frame[r].countedIn = some z) →
      h.frame[q].delay ≤ h.frame[r].delay + 1023 := by
  have hset (q : PortId) : q ∈ p :: (h.countedPorts z).filter (fun q => q ≠ p) ↔
      q = p ∨ h.frame[q].countedIn = some z := by
    rw [List.mem_cons, List.mem_filter, mem_countedPorts, decide_eq_true_eq]
    tauto
  unfold Hub.spreadPasses
  dsimp only
  rw [decide_eq_true_eq, greatest_le_smallest_add (by simp)]
  simp only [List.forall_mem_map, hset]
  exact ⟨fun hall q r hq hr => hall q hq r hr, fun hall q hq r hr => hall q r hq hr⟩

/-! ## Moves -/

theorem moveStart_eq {h : Hub} {e : MoveEntry} {rest : List MoveEntry} (hf : h.sbl.flight = none)
    (hs : h.bd.headSeen = false) (hq : h.sbl.queue = e :: rest) : h.moveStart =
      let g : Hub := { h with sbl := { h.sbl with queue := rest }, bd := { h.bd with headSeen := true } }
      match g.startRefusal e with
      | some o => g.logMove e o
      | none => g.beginMove e := by
  unfold Hub.moveStart
  rw [hf, hq]
  exact if_neg (ne_true_of_eq_false hs)

theorem startRefusal_eq (h : Hub) (e : MoveEntry) : h.startRefusal e =
    if h.isUp e.port = false then some .refusedNotUp
    else if ¬ h.assignedCount e.target < h.tables.maxMembers e.target then some .refusedTargetFull
    else if ¬ h.tables.minMembers e.source + 1 ≤ h.assignedCount e.source then some .refusedSourceMin
    else if h.spreadPasses e.port e.target = false then some .refusedSpread
    else if (h.actions e.port).mute = true ∨ (h.actions e.port).isolate = true then some .refusedAction
    else none := by
  unfold Hub.startRefusal
  simp only [Bool.not_eq_true', Nat.not_lt, Nat.not_le, ActionSet.silences, Bool.or_eq_true]

theorem rampStep_eq {h : Hub} {m : MoveRecord} (hf : h.sbl.flight = some m) (he : m.ending = none)
    (hd : h.bd.rampDue = true) (hl : m.step + 1 < m.length) : h.rampStep = { h with
      sbl := { h.sbl with flight := some { m with step := m.step + 1 } }, bd := { h.bd with rampDue := false } } := by
  unfold Hub.rampStep
  rw [hf]
  exact if_pos ⟨hd, he, hl⟩

theorem moveCommit_eq {h : Hub} {m : MoveRecord} (hf : h.sbl.flight = some m) (he : m.ending = none)
    (hd : h.bd.rampDue = true) (hl : m.length ≤ m.step + 1) : h.moveCommit =
      (({ h with sbl := { h.sbl with flight := none }, bd := { h.bd with rampDue := false } } : Hub).onBal m.entry.port
        fun b => { b with
          assign := .one m.entry.target, holdOff := h.tables.holdOff m.entry.port, returns := 0 }).logMove
        m.entry .done := by
  unfold Hub.moveCommit
  rw [hf]
  exact if_pos ⟨hd, he, hl⟩

theorem moveAbandon_eq {h : Hub} {m : MoveRecord} {cause : EndingCause} (hf : h.sbl.flight = some m)
    (he : m.ending = some cause) (hd : h.bd.abandonDue = true) : h.moveAbandon = h.abandonMove m cause.outcome := by
  unfold Hub.moveAbandon
  rw [hf]
  dsimp only
  rw [he]
  exact if_pos hd

/-- The weights of a ramping port in its two sectors (R113, R125). -/
theorem weight_of_flight {h : Hub} {m : MoveRecord} (hf : h.sbl.flight = some m)
    (ha : h.assignOf m.entry.port = .two m.entry.source m.entry.target) :
    h.weight m.entry.port m.entry.target = m.newWeight
    ∧ (m.entry.source ≠ m.entry.target → h.weight m.entry.port m.entry.source = 4096 - m.newWeight) := by
  have hflight : h.flightOf m.entry.port = some m := by
    unfold Hub.flightOf
    rw [hf]
    simp
  unfold Hub.weight
  rw [ha, hflight]
  dsimp only
  exact ⟨if_pos rfl, fun hne => (if_neg hne).trans (if_pos rfl)⟩

end Sys2Proof.Machine

namespace Sys2Proof
open Machine

/-- Settles O59. -/
theorem targetsAreTheGreatestDelays : Obligations.TargetsAreTheGreatestDelays := by
  intro s h countedIn
  have hcount (p : PortId) : countedIn p = h.frame[p].countedIn := (countedIn_eq h.frame[p]).symm
  refine ⟨fun hd => next_congr (deqRecompute_of_done hd), fun hd => ?_⟩
  have hsup := supervised_eachRangeChange h.deq.ports h.recomputed
  have hframes := frames_eachRangeChange h.deq.ports h.recomputed
  have hdeq := hsup.deq
  have htarget (z : SectorId) : (each (Hub.rangeChange h.deq.ports) h.recomputed).deq.sectors[z] = h.sectorTarget z :=
    (congrArg (fun d : Deq => d.sectors[z]) hdeq).trans (tab_get _ z)
  have hport (p : PortId) : (each (Hub.rangeChange h.deq.ports) h.recomputed).deq.ports[p]
      = (h.deq.ports[p]).recompute (tab h.sectorTarget) h.frame[p] :=
    (congrArg (fun d : Deq => d.ports[p]) hdeq).trans (tab_get _ p)
  have hexec : exec (.frameBoundary .deqRecompute) s =
      .next { s with hub := each (Hub.rangeChange h.deq.ports) h.recomputed } := next_congr (deqRecompute_eq hd)
  generalize each (Hub.rangeChange h.deq.ports) h.recomputed = g at hsup hframes hdeq htarget hport hexec
  refine ⟨_, hexec, rfl, fun z => ?_, fun p => ?_, hsup.detectors, hsup.assign, ?_⟩
  · obtain ⟨hcounted, hbounds, hatt, hnone⟩ := sectorTarget_spec h z
    dsimp only
    rw [htarget]
    simp only [hcount]
    exact ⟨hcounted, hbounds, hatt, hnone, fun p hp hl => sectorTarget_lone hp hl, sectorTarget_le⟩
  · dsimp only
    rw [hport]
    simp only [hcount, htarget]
    unfold PortEq.recompute
    cases h.frame[p].countedIn with
    | none => rfl
    | some z =>
      simp only [tab_get, Option.isSome_some, true_and, ne_eq, reduceCtorEq, not_false_eq_true]
      rfl
  · exact Eq.trans hframes
      (congrArg (fun d => { h.recomputed with deq := d, fsv := g.fsv, sbl := g.sbl, mga := g.mga }) hdeq.symm)

/-- Settles O57. -/
theorem movesStartRampAndEnd : Obligations.MovesStartRampAndEnd := by
  refine ⟨?spread, ?head, ?empty, ?again, ?flight⟩
  case spread =>
    intro h p z isChecked
    simp only [spreadPasses_iff, countedIn_eq_some]
    exact Iff.rfl
  case head =>
    intro e rest s h failed hf hs hq
    have hfailed : failed = ({ h with
        sbl := { h.sbl with queue := rest }, bd := { h.bd with headSeen := true } } : Hub).startRefusal e :=
      (startRefusal_eq _ e).symm
    refine next_congr ((moveStart_eq hf hs hq).trans ?_)
    dsimp only
    rw [← hfailed]
    cases failed <;> rfl
  case empty =>
    intro s h hf hq
    refine next_congr (?_ : h.moveStart = _)
    unfold Hub.moveStart
    rw [hf, hq]
  case again =>
    intro s h
    refine ⟨fun hs => next_congr (moveStart_of_not fun hn => ?_), fun hr => ⟨next_congr (rampStep_of_not ?_),
      next_congr (moveCommit_of_not ?_)⟩, fun ha => next_congr (moveAbandon_of_not ?_)⟩
    · exact absurd (hs.symm.trans hn.2) (by decide)
    · rintro ⟨m, -, hd, -⟩
      exact absurd (hr.symm.trans hd) (by decide)
    · rintro ⟨m, -, hd, -⟩
      exact absurd (hr.symm.trans hd) (by decide)
    · rintro ⟨m, -, hd, -⟩
      exact absurd (ha.symm.trans hd) (by decide)
  case flight =>
    intro m s h logged hf
    refine ⟨fun he hd hl => ?_, fun he hd hl => ?_, fun cause he hd => ?_⟩
    · exact ⟨_, next_congr (rampStep_eq hf he hd hl), rfl, fun ha => weight_of_flight (m := { m with step := m.step + 1 }) rfl ha⟩
    · exact next_congr (moveCommit_eq hf he hd hl)
    · refine next_congr ((moveAbandon_eq hf he hd).trans ?_)
      cases cause <;> rfl

end Sys2Proof
end

section
/-! The effects of presentations and clearings one after the other, on the fault history, SBL and the pending marks. -/

namespace Sys2Proof.Machine

/-! ## Effective action sets -/

theorem foldl_union_iff {action : ActionSet → Bool} (hu : ∀ a b, action (a.union b) = (action a || action b))
    (f : PortClass → Bool) (g : PortClass → ActionSet) (cs : List PortClass) (a : ActionSet) :
    action (cs.foldl (fun a c => if f c then a.union (g c) else a) a) = true ↔
      action a = true ∨ ∃ c ∈ cs, f c = true ∧ action (g c) = true := by
  induction cs generalizing a with
  | nil => simp
  | cons c cs ih =>
    rw [List.foldl_cons, ih]
    cases hf : f c <;> simp [hf, hu, or_assoc]

theorem PortClass.mem_all (c : PortClass) : c ∈ PortClass.all := by cases c <;> decide

/-- An action is in effect on a port where a class has it in its action set and puts it in effect (R146). -/
theorem actions_iff {action : ActionSet → Bool} (hu : ∀ a b, action (a.union b) = (action a || action b))
    (he : action .empty = false) (h : Hub) (p : PortId) : action (h.actions p) = true ↔ ∃ c : PortClass,
      (h.faultRecord (.port p c)).acts (h.tables.responseMode (FaultKey.row (.port p c))) = true
      ∧ action (h.tables.responseActions (FaultKey.row (.port p c))) = true := by
  unfold Hub.actions actionsOf
  refine (foldl_union_iff hu _ _ _ _).trans ?_
  simp only [he, Bool.false_eq_true, false_or, PortClass.mem_all, true_and]
  exact Iff.rfl

/-- Of MUTE and ISOLATE, what is in effect on a port stays in effect. -/
def Hub.grows (h h' : Hub) : Prop := ∀ q : PortId,
  ((h.actions q).mute = true → (h'.actions q).mute = true) ∧ ((h.actions q).isolate = true → (h'.actions q).isolate = true)

theorem grows_of_actions {h h' : Hub} (ha : ∀ q, h'.actions q = h.actions q) : h.grows h' := fun q =>
  ⟨fun hm => (ha q).symm ▸ hm, fun hm => (ha q).symm ▸ hm⟩

theorem grows_of_acts {h h' : Hub} (ht : h'.tables = h.tables) (hr : ∀ q c,
    (h.faultRecord (.port q c)).acts (h.tables.responseMode (FaultKey.row (.port q c))) = true →
    (h'.faultRecord (.port q c)).acts (h.tables.responseMode (FaultKey.row (.port q c))) = true) : h.grows h' := by
  intro q
  constructor <;> intro hm
  · rw [actions_iff (fun _ _ => rfl) rfl] at hm ⊢
    obtain ⟨c, hc, ha⟩ := hm
    exact ⟨c, ht ▸ hr q c hc, ht ▸ ha⟩
  · rw [actions_iff (fun _ _ => rfl) rfl] at hm ⊢
    obtain ⟨c, hc, ha⟩ := hm
    exact ⟨c, ht ▸ hr q c hc, ht ▸ ha⟩

/-! ## What is done to SBL -/

/-- Where SBL stands and no action enters, nothing was woken or marked. -/
theorem supervises_of_fewer {h h' : Hub} (hs : h'.sbl = h.sbl) (hg : h'.grows h) : h.supervises h' fun _ => none := by
  have hm (q : PortId) : ¬ ((h'.actions q).mute = true ∧ (h.actions q).mute = false
      ∨ (h'.actions q).isolate = true ∧ (h.actions q).isolate = false) := by
    obtain ⟨hmute, hisolate⟩ := hg q
    rintro (⟨hn, ho⟩ | ⟨hn, ho⟩)
    · exact ne_true_of_eq_false ho (hmute hn)
    · exact ne_true_of_eq_false ho (hisolate hn)
  unfold Hub.supervises
  rw [hs]
  simp only [hm, and_false, if_false, Option.map_id']
  refine congrArg (fun v => { h.sbl with ports := v }) (Vector.ext fun i hi => ?_)
  rw [tab_getElem]
  rfl

theorem supervises_none {h h' : Hub} (hs : h'.sbl = h.sbl) (ha : ∀ q, h'.actions q = h.actions q) :
    h.supervises h' fun _ => none := supervises_of_fewer hs (grows_of_actions fun q => (ha q).symm)

theorem supervises_congr {h h' : Hub} {w v : PortId → Option WakeCause} (hs : h.supervises h' w)
    (hw : ∀ p, w p = v p) : h.supervises h' v := (funext hw : w = v) ▸ hs

theorem port_of_supervises {h h' : Hub} {w : PortId → Option WakeCause} (hs : h.supervises h' w) (p : PortId) :
    h'.sbl.ports[p] = match w p with
      | some cause => if h.isQuiet p then
          { h.sbl.ports[p] with quiet := false, quietDue := false, quietCount := 0, wakeCause := cause }
        else h.sbl.ports[p]
      | none => h.sbl.ports[p] := by
  rw [hs]
  exact tab_getElem ..

theorem isQuiet_of_supervises {h h' : Hub} {w : PortId → Option WakeCause} (hs : h.supervises h' w) (p : PortId) :
    h'.isQuiet p = (h.isQuiet p && (w p).isNone) := by
  have hp := port_of_supervises hs p
  unfold Hub.isQuiet at hp ⊢
  rw [hp]
  cases w p with
  | none => simp
  | some cause =>
    cases hq : (h.sbl.ports[p].quiet || h.sbl.ports[p].quietDue)
    · simpa using hq
    · simp

theorem supervises_trans {h g k : Hub} {w v : PortId → Option WakeCause} (x : h.supervises g w) (y : g.supervises k v)
    (hg : h.grows g) (hk : g.grows k) : h.supervises k fun p => (w p).or (v p) := by
  have hports : ∀ p : PortId, k.sbl.ports[p] = match (w p).or (v p) with
      | some cause => if h.isQuiet p then
          { h.sbl.ports[p] with quiet := false, quietDue := false, quietCount := 0, wakeCause := cause }
        else h.sbl.ports[p]
      | none => h.sbl.ports[p] := fun p => by
    have hq := isQuiet_of_supervises x p
    rw [port_of_supervises y p, port_of_supervises x p, hq]
    cases w p with
    | none => cases v p <;> simp
    | some cause => cases v p <;> simp
  have hflight : k.sbl.flight = h.sbl.flight.map fun m =>
      if m.ending = none ∧ ((k.actions m.entry.port).mute = true ∧ (h.actions m.entry.port).mute = false
          ∨ (k.actions m.entry.port).isolate = true ∧ (h.actions m.entry.port).isolate = false)
      then { m with ending := some .action } else m := by
    rw [y, x]
    dsimp only
    rw [Option.map_map]
    refine congrArg (fun f => Option.map f h.sbl.flight) (funext fun m => ?_)
    obtain ⟨hgm, hgi⟩ := hg m.entry.port
    obtain ⟨hkm, hki⟩ := hk m.entry.port
    have hiff : (m.ending = none ∧ ((k.actions m.entry.port).mute = true ∧ (h.actions m.entry.port).mute = false
          ∨ (k.actions m.entry.port).isolate = true ∧ (h.actions m.entry.port).isolate = false)) ↔
        m.ending = none ∧ ((g.actions m.entry.port).mute = true ∧ (h.actions m.entry.port).mute = false
          ∨ (g.actions m.entry.port).isolate = true ∧ (h.actions m.entry.port).isolate = false)
        ∨ m.ending = none ∧ ((k.actions m.entry.port).mute = true ∧ (g.actions m.entry.port).mute = false
          ∨ (k.actions m.entry.port).isolate = true ∧ (g.actions m.entry.port).isolate = false) := by
      grind
    dsimp only [Function.comp]
    split_ifs with hm <;> grind
  have hsbl : k.sbl = { h.sbl with ports := k.sbl.ports, flight := k.sbl.flight } := by
    rw [y]
    dsimp only
    rw [x]
  have hv : k.sbl.ports = tab fun p => match (w p).or (v p) with
      | some cause => if h.isQuiet p then
          { h.sbl.ports[p] with quiet := false, quietDue := false, quietCount := 0, wakeCause := cause }
        else h.sbl.ports[p]
      | none => h.sbl.ports[p] := Vector.ext fun i hi => by
    rw [tab_getElem]
    exact hports ⟨i, hi⟩
  exact hsbl.trans (congrArg₂ (fun v f => { h.sbl with ports := v, flight := f }) hv hflight)

/-! ## Effects -/

/-- What a sequence of presentations and clearings does to the fault history, to SBL and to the pending marks (R126,
R131, R146 to R148): entries that it writes, ports that it wakes, and notices that it raises. -/
structure Hub.Effect (h h' : Hub) (entries : List HistoryEntry) (woken : PortId → Option WakeCause)
    (raised : Notice → Prop) : Prop where
  written : h.fsv.written h'.fsv entries
  supervises : h.supervises h' woken
  grows : h.grows h'
  marked : h.mga.marked h'.mga raised
  tables : h'.tables = h.tables
  seconds : h'.mga.seconds = h.mga.seconds

namespace Hub.Effect

variable {h g k : Hub} {xs ys : List HistoryEntry} {w v : PortId → Option WakeCause} {P Q : Notice → Prop}

theorem trans (x : h.Effect g xs w P) (y : g.Effect k ys v Q) :
    h.Effect k (xs ++ ys) (fun p => (w p).or (v p)) fun n => P n ∨ Q n where
  written := x.written.trans y.written
  supervises := supervises_trans x.supervises y.supervises x.grows y.grows
  grows q := ⟨(y.grows q).1 ∘ (x.grows q).1, (y.grows q).2 ∘ (x.grows q).2⟩
  marked := x.marked.trans y.marked
  tables := y.tables.trans x.tables
  seconds := y.seconds.trans x.seconds

theorem congr (x : h.Effect g xs w P) (hx : xs = ys) (hw : ∀ p, w p = v p) (hP : ∀ n, P n ↔ Q n) :
    h.Effect g ys v Q := by
  obtain rfl : w = v := funext hw
  subst hx
  exact { x with marked := x.marked.congr hP }

/-- A change that touches neither history, records, SBL, marks nor tables has no effect. -/
theorem nothing (hh : g.fsv.history = h.fsv.history) (hl : g.fsv.lost = h.fsv.lost) (hs : g.sbl = h.sbl)
    (ha : ∀ q, g.actions q = h.actions q) (hm : g.mga.marks = h.mga.marks) (ht : g.tables = h.tables)
    (hc : g.mga.seconds = h.mga.seconds) : h.Effect g [] (fun _ => none) fun _ => False where
  written := .nil hh hl
  supervises := supervises_none hs ha
  grows := grows_of_actions ha
  marked := .same hm
  tables := ht
  seconds := hc

theorem same (h : Hub) : h.Effect h [] (fun _ => none) fun _ => False :=
  nothing rfl rfl rfl (fun _ => rfl) rfl rfl rfl

end Hub.Effect

/-- A presented record puts its class's actions in effect where it did before (R142, R143, R146). -/
theorem FaultRecord.presented_acts {r : FaultRecord} {t : Tables} {row : Nat}
    (ha : r.acts (t.responseMode row) = true) : (r.presented t row).acts (t.responseMode row) = true := by
  simp only [FaultRecord.acts, Bool.and_eq_true, decide_eq_true_eq] at ha ⊢
  exact ⟨FaultRecord.presented_not_idle t row ha.1, ha.2⟩

theorem FaultRecord.cleared_acts (r : FaultRecord) (m : ResponseMode) : r.cleared.acts m = r.acts m := by
  unfold FaultRecord.acts FaultRecord.cleared
  dsimp only
  split
  case isTrue hc => rw [hc.2]; rfl
  case isFalse => rfl

theorem effect_of_presents {h g : Hub} {p : PortId} {c : PortClass} (hp : h.presents g p c) (ht : g.tables = h.tables) :
    let k := FaultKey.port p c
    let r := h.faultRecord k
    let leaves := r.detects h.tables k.row = true ∧ r.state = .idle
    h.Effect g (r.presentEntries h.tables k h.mga.seconds) (fun q => if q = p ∧ leaves then some .fault else none)
      fun n => n = .fault ∧ r.enters h.tables k.row = true ∨ n = .quiet ∧ leaves ∧ h.isQuiet p = true := by
  obtain ⟨hrec, hwritten, hsup, hmga, hmarks⟩ := hp
  refine ⟨hwritten, hsup, grows_of_acts ht fun q e ha => ?_, hmarks, ht, hmga ▸ rfl⟩
  rw [hrec]
  split
  case isTrue he =>
    rw [he] at ha ⊢
    exact FaultRecord.presented_acts ha
  case isFalse => exact ha

/-- The effect of a presentation of a port's condition. -/
theorem present_effect (h : Hub) (p : PortId) (c : PortClass) :
    let k := FaultKey.port p c
    let r := h.faultRecord k
    let leaves := r.detects h.tables k.row = true ∧ r.state = .idle
    h.Effect (h.present k) (r.presentEntries h.tables k h.mga.seconds)
      (fun q => if q = p ∧ leaves then some .fault else none)
      fun n => n = .fault ∧ r.enters h.tables k.row = true ∨ n = .quiet ∧ leaves ∧ h.isQuiet p = true :=
  effect_of_presents (present_spec h p c).1 (congrArg Tld.tables (supervised_present h _).tld)

/-- The effect of a clearing. -/
theorem clear_effect (h : Hub) (k : FaultKey) :
    h.Effect (h.clearCondition k) ((h.faultRecord k).clearEntries k h.mga.seconds) (fun _ => none) fun _ => False := by
  obtain ⟨hrec, hwritten, -, he⟩ := clear_spec h k
  have ht : (h.clearCondition k).tables = h.tables := (congrArg Hub.tables he).trans rfl
  have ha : ∀ q, (h.clearCondition k).actions q = h.actions q := fun q => actions_congr ht fun c => by
    rw [hrec]
    split
    case isTrue hk => rw [← hk, FaultRecord.cleared_acts]
    case isFalse => rfl
  exact ⟨hwritten, supervises_none ((congrArg Hub.sbl he).trans rfl) ha, grows_of_actions ha,
    .same ((congrArg (fun h : Hub => h.mga.marks) he).trans rfl), ht, (congrArg (fun h : Hub => h.mga.seconds) he).trans rfl⟩

end Sys2Proof.Machine
end

section
/-! Transactions (O24 to O27). -/

namespace Sys2Proof.Machine

/-! ## Presentations and clearings as new blocks -/

theorem present_blocks (h : Hub) (p : PortId) (c : PortClass) : ∃ (fsv : Fsv) (sbl : Sbl) (mga : Mga),
    h.present (.port p c) = { h with fsv := fsv, sbl := sbl, mga := mga }
    ∧ h.presents { h with fsv := fsv, sbl := sbl, mga := mga } p c ∧ fsv.detectors = h.fsv.detectors := by
  obtain ⟨hpres, hdets, hframes⟩ := present_spec h p c
  exact ⟨_, _, _, hframes, hframes ▸ hpres, hdets⟩

theorem clear_blocks (h : Hub) (k : FaultKey) : ∃ fsv : Fsv, h.clearCondition k = { h with fsv := fsv }
    ∧ (∀ k' : FaultKey, ({ h with fsv := fsv } : Hub).faultRecord k' =
        if k' = k then (h.faultRecord k).cleared else h.faultRecord k')
    ∧ h.fsv.written fsv ((h.faultRecord k).clearEntries k h.mga.seconds) ∧ fsv.detectors = h.fsv.detectors := by
  obtain ⟨hrec, hwritten, hdets, he⟩ := clear_spec h k
  exact ⟨_, he, he ▸ hrec, hwritten, hdets⟩

/-! ## Replies -/

theorem fieldKind_identify {f : List Byte} : fieldKind f = some .identify ↔ byteAt f 0 = 1 := by
  unfold fieldKind
  split <;> simp_all

theorem fieldKind_status {f : List Byte} : fieldKind f = some .status ↔ byteAt f 0 = 2 := by
  unfold fieldKind
  split <;> simp_all

theorem replyOf_eq_some {h : Hub} {x : Transaction} {f : List Byte} : h.replyOf x = some f ↔
    h.bd.selectDone = false ∧ h.cte.ports[x.port].field = some f ∧ fieldKind f = some x.kind
      ∧ fieldSequence f = x.sequence ∧ (x.kind = .identify → (identifyFields f).mask ≠ 0) := by
  unfold Hub.replyOf
  cases h.bd.selectDone
  · simp only [Bool.false_eq_true, if_false, true_and, Option.filter_eq_some_iff, decide_eq_true_eq]
  · simp

/-- The hub whose transaction a reply has answered, its record filled by `fill` (R154). -/
def Hub.answeredBy (h : Hub) (p : PortId) (fill : PortCte → PortCte) : Hub :=
  { h with cte := { h.cte with
      transaction := none
      ports := upd h.cte.ports p fun c => fill { c with misses := 0, field := none } } }

theorem answerTransaction_blocks (h : Hub) (p : PortId) (fill : PortCte → PortCte) : ∃ fsv : Fsv,
    (h.answerTransaction p).onCte p fill = { h.answeredBy p fill with fsv := fsv }
    ∧ (∀ k : FaultKey, ({ h with fsv := fsv } : Hub).faultRecord k =
        if k = .port p .rauNoReply then (h.faultRecord (.port p .rauNoReply)).cleared else h.faultRecord k)
    ∧ h.fsv.written fsv ((h.faultRecord (.port p .rauNoReply)).clearEntries (.port p .rauNoReply) h.mga.seconds)
    ∧ fsv.detectors = h.fsv.detectors
    ∧ h.Effect { h.answeredBy p fill with fsv := fsv }
      ((h.faultRecord (.port p .rauNoReply)).clearEntries (.port p .rauNoReply) h.mga.seconds)
      (fun _ => none) fun _ => False := by
  have heffect := clear_effect (h.answeredBy p id) (.port p .rauNoReply)
  obtain ⟨fsv, he, hrec, hwritten, hdets⟩ := clear_blocks (h.answeredBy p id) (.port p .rauNoReply)
  rw [he] at heffect
  refine ⟨fsv, ?_, hrec, hwritten, hdets, ⟨hwritten, heffect.supervises, heffect.grows, heffect.marked, rfl, rfl⟩⟩
  have hans : h.answerTransaction p = { h.answeredBy p id with fsv := fsv } := he
  rw [hans]
  simp only [Hub.onCte, Hub.answeredBy, upd_upd, id]

theorem identifyReply_eq {h : Hub} {x : Transaction} {f : List Byte} (hx : h.cte.transaction = some x)
    (hk : x.kind = .identify) (hf : h.replyOf x = some f) : h.identifyReply =
      ((h.answerTransaction x.port).onCte x.port fun c =>
        { c with nextAttempt := 1, identify := some (identifyFields f) }).goodIdentify x.port (identifyFields f).mask := by
  unfold Hub.identifyReply
  rw [hx]
  dsimp only
  rw [hk, hf]

theorem statusReply_eq {h : Hub} {x : Transaction} {f : List Byte} (hx : h.cte.transaction = some x)
    (hk : x.kind = .status) (hf : h.replyOf x = some f) : h.statusReply =
      let g := (h.answerTransaction x.port).onCte x.port fun c => { c with status := some (statusFields f h.mga.seconds) }
      if (statusFields f h.mga.seconds).alarms ≠ 0 then g.present (.port x.port .rauAlarm)
      else g.clearCondition (.port x.port .rauAlarm) := by
  unfold Hub.statusReply
  rw [hx]
  dsimp only
  rw [hk, hf]

/-- The link block whose port `p` a good identify reply has given its lane mask, and UP where it was PROVING (R8, R11). -/
def Hub.identified (h : Hub) (p : PortId) (mask : LaneMask) : Hub :=
  { h with
    lnk := { h.lnk with remote := upd h.lnk.remote p fun r => { r with
      mask := mask, core := { r.core with state := if r.core.state = .proving then .up else r.core.state } } }
    mga := if h.linkOf p = .proving then h.mga.raised .link else h.mga }

theorem goodIdentify_eq (h : Hub) (p : PortId) (mask : LaneMask) : h.goodIdentify p mask =
    if h.linkOf p = .proving then (h.identified p mask).clearCondition (.port p .linkLoss) else h.identified p mask := by
  unfold Hub.goodIdentify Hub.identified
  dsimp only
  by_cases hp : h.linkOf p = .proving
  · simp only [if_pos hp]
    have hst : (h.lnk.remote[p]).core.state = .proving := hp
    refine congrArg (fun g : Hub => g.clearCondition (.port p .linkLoss)) ?_
    refine congrArg (fun v => { h with lnk := { h.lnk with remote := v }, mga := h.mga.raised .link }) ?_
    dsimp only [Hub.onRemote]
    rw [upd_upd]
    refine upd_congr ?_
    rw [if_pos hst]
  · simp only [if_neg hp]
    have hst : (h.lnk.remote[p]).core.state ≠ .proving := hp
    refine congrArg (fun v => { h with lnk := { h.lnk with remote := v } }) ?_
    exact upd_congr (by rw [if_neg hst])

theorem goodIdentify_blocks (h : Hub) (p : PortId) (mask : LaneMask) : ∃ fsv : Fsv,
    h.goodIdentify p mask = { h.identified p mask with fsv := fsv }
    ∧ (∀ k : FaultKey, ({ h with fsv := fsv } : Hub).faultRecord k =
        if k = .port p .linkLoss ∧ h.linkOf p = .proving then (h.faultRecord k).cleared else h.faultRecord k)
    ∧ h.fsv.written fsv (if h.linkOf p = .proving
        then (h.faultRecord (.port p .linkLoss)).clearEntries (.port p .linkLoss) h.mga.seconds else [])
    ∧ fsv.detectors = h.fsv.detectors := by
  by_cases hp : h.linkOf p = .proving
  · obtain ⟨fsv, he, hrec, hwritten, hdets⟩ := clear_blocks (h.identified p mask) (.port p .linkLoss)
    have hsec : (h.identified p mask).mga.seconds = h.mga.seconds := by
      simp only [Hub.identified, if_pos hp, Mga.raised]
    refine ⟨fsv, (goodIdentify_eq h p mask).trans ((if_pos hp).trans he), fun k => ?_, ?_, hdets⟩
    · simp only [hp, and_true]
      refine (hrec k).trans ?_
      split
      case isTrue hk => exact hk ▸ rfl
      case isFalse => rfl
    · rw [if_pos hp]
      exact hsec ▸ hwritten
  · refine ⟨h.fsv, (goodIdentify_eq h p mask).trans (if_neg hp), fun k => ?_, ?_, rfl⟩
    · simp only [hp, and_false, if_false]
    · rw [if_neg hp]
      exact Fsv.written.nil rfl rfl

/-! ## Misses -/

section Miss
variable {h : Hub} {x : Transaction} (hx : h.cte.transaction = some x) (hr : x.remaining = 0)
  (hh : h.lnk.remote[x.port].core.handed = true) (hn : h.replyOf x = none)
include hx hr hh hn

theorem attemptMiss_identify (hk : x.kind = .identify) : h.attemptMiss =
    let g : Hub := { h with cte := { h.cte with transaction := none } }
    if x.attempt < 4 then g.onCte x.port fun c => { c with nextAttempt := x.attempt + 1, pending := true }
    else g.exhausted x.port := by
  unfold Hub.attemptMiss
  rw [hx]
  dsimp only
  rw [if_neg (by rw [hr, hh, hn]; decide), hk]

theorem attemptMiss_status (hk : x.kind = .status) : h.attemptMiss =
    let g : Hub := { h with cte := { h.cte with
      transaction := none, ports := upd h.cte.ports x.port fun c => { c with misses := bump 3 c.misses } } }
    if h.cte.ports[x.port].misses = 2 then g.present (.port x.port .rauNoReply) else g := by
  unfold Hub.attemptMiss
  rw [hx]
  dsimp only
  rw [if_neg (by rw [hr, hh, hn]; decide), hk]
  rfl

end Miss

/-- An exhausted identify presents RAU_NO_REPLY and holds its port, or under IGNORE starts a new sequence (R155). -/
theorem exhausted_blocks (h : Hub) (p : PortId) :
    let ignored := decide (h.tables.responseMode (FaultKey.row (.port p .rauNoReply)) = .ignore)
    ∃ (fsv : Fsv) (sbl : Sbl) (mga : Mga),
      h.exhausted p = { h with
        cte := { h.cte with ports := upd h.cte.ports p fun c => { c with
          nextAttempt := 1, hold := !ignored, pending := c.pending || ignored && (h.linkOf p).aligned } }
        fsv := fsv, sbl := sbl, mga := mga }
      ∧ h.presents { h with fsv := fsv, sbl := sbl, mga := mga } p .rauNoReply ∧ fsv.detectors = h.fsv.detectors := by
  dsimp only
  obtain ⟨fsv, sbl, mga, he, hpres, hdets⟩ := present_blocks h p .rauNoReply
  refine ⟨fsv, sbl, mga, ?_, hpres, hdets⟩
  unfold Hub.exhausted
  rw [he]
  dsimp only
  have hm : (({ h with fsv := fsv, sbl := sbl, mga := mga } : Hub).onCte p fun c => { c with nextAttempt := 1 }).tables
    = h.tables := rfl
  rw [hm]
  by_cases hi : h.tables.responseMode (FaultKey.row (.port p .rauNoReply)) = .ignore
  · rw [if_pos hi, decide_eq_true hi]
    simp only [Hub.newIdentify, Hub.onCte, upd_upd, Bool.true_and, Bool.not_true]
    rfl
  · rw [if_neg hi, decide_eq_false hi]
    simp only [Hub.onCte, upd_upd, Bool.false_and, Bool.not_false, Bool.or_false]

/-! ## Selection -/

theorem lowestFrom_some {pos : Nat} {f : PortId → Bool} {p : PortId} (hp : f p = true) (hpos : pos ≤ p.val)
    (hlow : ∀ q : PortId, pos ≤ q.val → q < p → f q = false) : lowestFrom pos f = some p := by
  unfold lowestFrom
  rw [find?_finRange_eq_some]
  refine ⟨by simp only [hp, hpos, decide_true, Bool.and_self], fun q hq => ?_⟩
  by_cases hqp : pos ≤ q.val
  · simp only [hlow q hqp hq, Bool.and_false]
  · simp only [hqp, decide_false, Bool.false_and]

theorem lowestFrom_none {pos : Nat} {f : PortId → Bool} (hf : ∀ q : PortId, pos ≤ q.val → f q = false) :
    lowestFrom pos f = none := by
  unfold lowestFrom
  simp only [List.find?_eq_none, List.mem_finRange, true_imp_iff, Bool.and_eq_true, decide_eq_true_eq, not_and]
  exact fun q hq => ne_true_of_eq_false (hf q hq)

/-- The port waits for an identify (R151). -/
def Hub.waits (h : Hub) (q : PortId) : Prop :=
  (h.linkOf q).aligned = true ∧ h.cte.ports[q].pending = true ∧ h.cte.ports[q].hold = false

theorem identifyTurn_some {h : Hub} {p : PortId} (hp : h.waits p) (hlow : ∀ q : PortId, q < p → ¬ h.waits q) :
    h.identifyTurn = some p := by
  refine lowestFrom_some ?_ (Nat.zero_le _) fun q _ hq => ?_
  · obtain ⟨ha, hpend, hhold⟩ := hp
    rw [ha, hpend, hhold]
    rfl
  · rw [Bool.eq_false_iff]
    intro hc
    simp only [Bool.and_eq_true, Bool.not_eq_true'] at hc
    exact hlow q hq ⟨hc.1.1, hc.1.2, hc.2⟩

theorem identifyTurn_none {h : Hub} (hn : ∀ q, ¬ h.waits q) : h.identifyTurn = none := by
  refine lowestFrom_none fun q _ => ?_
  rw [Bool.eq_false_iff]
  intro hc
  simp only [Bool.and_eq_true, Bool.not_eq_true'] at hc
  exact hn q ⟨hc.1.1, hc.1.2, hc.2⟩

theorem cteSelect_identify {h : Hub} {p : PortId} (ht : h.cte.transaction = none) (hs : h.bd.selectDone = false)
    (hp : h.identifyTurn = some p) : h.cteSelect =
      let g : Hub := { h with bd := { h.bd with selectDone := true } }
      (g.onCte p fun c => { c with pending := false }).startAttempt p .identify h.cte.ports[p].nextAttempt
        (identifyFrames h.cte.ports[p].nextAttempt) := by
  unfold Hub.cteSelect
  rw [if_neg (by rw [ht, hs]; decide)]
  dsimp only
  have hp' : ({ h with bd := { h.bd with selectDone := true } } : Hub).identifyTurn = some p := hp
  rw [hp']

theorem cteSelect_turn {h : Hub} (ht : h.cte.transaction = none) (hs : h.bd.selectDone = false)
    (hp : h.identifyTurn = none) : h.cteSelect =
      ({ h with bd := { h.bd with selectDone := true } } : Hub).priorityTurn := by
  unfold Hub.cteSelect
  rw [if_neg (by rw [ht, hs]; decide)]
  dsimp only
  have hp' : ({ h with bd := { h.bd with selectDone := true } } : Hub).identifyTurn = none := hp
  rw [hp']

/-- The port is UP and in the priority set (R151). -/
abbrev Hub.inSet (h : Hub) (q : PortId) : Prop := h.cte.priority[q] = true ∧ h.isUp q = true

theorem inSet_iff {h : Hub} {q : PortId} : (h.cte.priority[q] && h.isUp q) = true ↔ h.inSet q := Bool.and_eq_true_iff

theorem not_inSet_iff {h : Hub} {q : PortId} : (h.cte.priority[q] && h.isUp q) = false ↔ ¬ h.inSet q := by
  rw [← inSet_iff, Bool.not_eq_true]

theorem priorityTurn_next {h : Hub} {p : PortId} (hp : h.inSet p) (hpos : h.cte.priorityPos ≤ p.val)
    (hlow : ∀ q : PortId, h.cte.priorityPos ≤ q.val → q < p → ¬ h.inSet q) : h.priorityTurn = h.priorityStatus p := by
  unfold Hub.priorityTurn
  dsimp only
  rw [lowestFrom_some (inSet_iff.mpr hp) hpos fun q hq hqp => not_inSet_iff.mpr (hlow q hq hqp)]

theorem priorityTurn_ends {h : Hub} {p : PortId} (hp : h.inSet p) (hlow : ∀ q : PortId, q < p → ¬ h.inSet q)
    (hend : ∀ q : PortId, h.inSet q → q.val < h.cte.priorityPos) : h.priorityTurn =
      let g : Hub := { h with cte := { h.cte with priorityPos := 0 } }
      if h.cte.pass.isSome then g.regularTurn else g.priorityStatus p := by
  unfold Hub.priorityTurn
  dsimp only
  rw [lowestFrom_none fun q hq => not_inSet_iff.mpr fun hc => Nat.not_lt.mpr hq (hend q hc),
    lowestFrom_some (inSet_iff.mpr hp) (Nat.zero_le _) fun q _ hqp => not_inSet_iff.mpr (hlow q hqp)]

theorem priorityTurn_empty {h : Hub} (hn : ∀ q, ¬ h.inSet q) : h.priorityTurn = h.regularTurn := by
  unfold Hub.priorityTurn
  dsimp only
  rw [lowestFrom_none fun q _ => not_inSet_iff.mpr (hn q), lowestFrom_none fun q _ => not_inSet_iff.mpr (hn q)]

theorem exists_lowest_inSet {h : Hub} (he : ∃ q, h.inSet q) : ∃ p, h.inSet p ∧ ∀ q : PortId, q < p → ¬ h.inSet q := by
  classical
  obtain ⟨p, hp, hlow⟩ := WellFounded.has_min (wellFounded_lt (α := PortId)) (fun q => h.inSet q) he
  exact ⟨p, hp, fun q hq hc => hlow q hc hq⟩

/-- Where no UP port of the priority set lies at or above its position, a RUNNING pass takes the turn (R151). -/
theorem priorityTurn_passes {h : Hub} {pos : Nat} (hpass : h.cte.pass = some pos) [Decidable (∃ q, h.inSet q)]
    (hend : ∀ q : PortId, h.inSet q → q.val < h.cte.priorityPos) : h.priorityTurn =
      ({ h with cte := { h.cte with priorityPos := if ∃ q, h.inSet q then 0 else h.cte.priorityPos } } : Hub).regularTurn := by
  by_cases he : ∃ q, h.inSet q
  · obtain ⟨p, hp, hlow⟩ := exists_lowest_inSet he
    rw [priorityTurn_ends hp hlow hend]
    dsimp only
    rw [if_pos (Option.isSome_iff_exists.mpr ⟨pos, hpass⟩), if_pos he]
  · rw [priorityTurn_empty fun q hq => he ⟨q, hq⟩, if_neg he]

/-- The lowest UP port at or above a position (R152). -/
def Hub.nextUp (h : Hub) (low : Nat) (p : PortId) : Prop :=
  h.isUp p = true ∧ low ≤ p.val ∧ ∀ q : PortId, low ≤ q.val → q < p → h.isUp q = false

theorem regularTurn_next {h : Hub} {pos : Nat} {p : PortId} (hpass : h.cte.pass = some pos) (hp : h.nextUp pos p) :
    h.regularTurn = h.passTurn p := by
  obtain ⟨hup, hpos, hlow⟩ := hp
  unfold Hub.regularTurn
  rw [hpass]
  dsimp only
  rw [lowestFrom_some hup hpos hlow]

theorem regularTurn_again {h : Hub} {pos : Nat} {p : PortId} (hpass : h.cte.pass = some pos)
    (hend : ∀ q : PortId, pos ≤ q.val → h.isUp q = false) (hw : h.cte.passWaiting = true) (hp : h.nextUp 0 p) :
    h.regularTurn = ({ h with cte := { h.cte with passWaiting := false, pass := some 0 } } : Hub).passTurn p := by
  obtain ⟨hup, hpos, hlow⟩ := hp
  unfold Hub.regularTurn
  rw [hpass]
  dsimp only
  rw [lowestFrom_none hend]
  dsimp only
  rw [if_pos hw]
  have hl : lowestFrom 0 ({ h with cte := { h.cte with passWaiting := false, pass := some 0 } } : Hub).isUp = some p :=
    lowestFrom_some hup hpos hlow
  rw [hl]

theorem regularTurn_stops {h : Hub} {pos : Nat} (hpass : h.cte.pass = some pos)
    (hend : ∀ q : PortId, pos ≤ q.val → h.isUp q = false)
    (hw : h.cte.passWaiting = false ∨ ∀ q : PortId, h.isUp q = false) :
    h.regularTurn = { h with cte := { h.cte with pass := none, passWaiting := false } } := by
  unfold Hub.regularTurn
  rw [hpass]
  dsimp only
  rw [lowestFrom_none hend]
  dsimp only
  cases hwait : h.cte.passWaiting
  · rw [if_neg (by decide)]
  · rw [if_pos rfl]
    have hl : lowestFrom 0 ({ h with cte := { h.cte with passWaiting := false, pass := some 0 } } : Hub).isUp = none :=
      lowestFrom_none fun q _ => (hw.resolve_left (by rw [hwait]; decide)) q
    rw [hl]

theorem regularTurn_idle {h : Hub} (hpass : h.cte.pass = none) : h.regularTurn = h := by
  unfold Hub.regularTurn
  rw [hpass]

end Sys2Proof.Machine

namespace Sys2Proof
open Machine

/-- Settles O24. -/
theorem goodIdentifyReply : Obligations.GoodIdentifyReply := by
  constructor
  · intro x f s h p hx hk hf hb hq hm
    refine ⟨fun hd => next_congr (identifyReply_of_not ?_), fun hd => ?_⟩
    · rintro ⟨y, g, -, -, hr⟩
      exact absurd (hd.symm.trans (replyOf_eq_some.mp hr).1) (by decide)
    · have hr : h.replyOf x = some f :=
        replyOf_eq_some.mpr ⟨hd, hf, hk ▸ fieldKind_identify.mpr hb, hq, fun _ => hm⟩
      obtain ⟨fsv, he, hrec, hwritten, hdets, -⟩ := answerTransaction_blocks h p fun c =>
        { c with nextAttempt := 1, identify := some (identifyFields f) }
      obtain ⟨fsv', he', hrec', hwritten', hdets'⟩ := goodIdentify_blocks { h.answeredBy p (fun c =>
          { c with nextAttempt := 1, identify := some (identifyFields f) }) with fsv := fsv } p (identifyFields f).mask
      have heq := (identifyReply_eq hx hk hr).trans
        ((congrArg (fun g : Hub => g.goodIdentify p (identifyFields f).mask) he).trans he')
      have hloss : ({ h with fsv := fsv } : Hub).faultRecord (.port p .linkLoss) = h.faultRecord (.port p .linkLoss) :=
        (hrec _).trans (if_neg fun hc => PortClass.noConfusion (FaultKey.port.inj hc).2)
      refine ⟨_, next_congr heq, rfl, rfl, ⟨fun k => ?_, ?_, hdets'.trans hdets, rfl⟩, rfl, rfl, rfl⟩
      · refine (hrec' k).trans ?_
        change (if k = .port p .linkLoss ∧ h.linkOf p = .proving
          then (({ h with fsv := fsv } : Hub).faultRecord k).cleared else ({ h with fsv := fsv } : Hub).faultRecord k) = _
        rw [hrec]
        by_cases hk : k = .port p .rauNoReply
        · have hne : ¬ (k = .port p .linkLoss ∧ h.linkOf p = .proving) := fun hc =>
            PortClass.noConfusion (FaultKey.port.inj (hk.symm.trans hc.1)).2
          rw [if_neg hne, if_pos hk, if_pos (Or.inl hk), hk]
        · rw [if_neg hk]
          exact if_congr (or_iff_right hk).symm rfl rfl
      · refine hwritten.trans ?_
        exact hloss ▸ hwritten'
  · intro s h hn
    refine next_congr (identifyReply_of_not ?_)
    rintro ⟨x, f, hx, hk, hr⟩
    obtain ⟨-, hf, hkind, hq, hm⟩ := replyOf_eq_some.mp hr
    exact hm hk (hn x f hx hk hf (fieldKind_identify.mp (hk ▸ hkind)) hq)

/-- Settles O25. -/
theorem statusReplyReportsTheRau : Obligations.StatusReplyReportsTheRau := by
  constructor
  · intro x f s h p hx hk hf hb hq
    refine ⟨fun hd => next_congr (statusReply_of_not ?_), fun hd => ?_⟩
    · rintro ⟨y, g, -, -, hr⟩
      exact absurd (hd.symm.trans (replyOf_eq_some.mp hr).1) (by decide)
    · have hr : h.replyOf x = some f :=
        replyOf_eq_some.mpr ⟨hd, hf, hk ▸ fieldKind_status.mpr hb, hq, fun hi => nomatch hk.symm.trans hi⟩
      obtain ⟨fsv, he, hrec, hwritten, hdets, heffect⟩ := answerTransaction_blocks h p fun c =>
        { c with status := some (statusFields f h.mga.seconds) }
      have heq := statusReply_eq hx hk hr
      dsimp only at heq
      have hne : FaultKey.port p .rauAlarm ≠ .port p .rauNoReply := fun hc =>
        PortClass.noConfusion (FaultKey.port.inj hc).2
      have hal : ({ h.answeredBy p (fun c => { c with status := some (statusFields f h.mga.seconds) }) with
          fsv := fsv } : Hub).faultRecord (.port p .rauAlarm) = h.faultRecord (.port p .rauAlarm) :=
        (hrec _).trans (if_neg hne)
      by_cases ha : (statusFields f h.mga.seconds).alarms ≠ 0
      · rw [if_pos ha] at heq
        obtain ⟨fsv', sbl', mga', he', hpres, hdets'⟩ := present_blocks { h.answeredBy p (fun c =>
          { c with status := some (statusFields f h.mga.seconds) }) with fsv := fsv } p .rauAlarm
        have heffect' := effect_of_presents hpres rfl
        have hrec' := hpres.1
        dsimp only at heffect' hrec'
        rw [hal] at heffect' hrec'
        have htotal := (heffect.trans heffect').congr rfl (fun q => Option.none_or) fun n => iff_of_eq (false_or _)
        refine ⟨_, next_congr (heq.trans ((congrArg (fun g : Hub => g.present (.port p .rauAlarm)) he).trans he')),
          rfl, rfl, ⟨fun k => (hrec' k).trans ?_, ?_, hdets'.trans hdets, ?_, hpres.2.2.2.1, ?_⟩, rfl⟩
        · rw [if_pos ha]
          split
          case isTrue => rfl
          case isFalse =>
            refine (hrec k).trans ?_
            split
            case isTrue hk => rw [hk]
            case isFalse => rfl
        · rw [if_pos ha]
          exact htotal.written
        · exact supervises_congr htotal.supervises fun q =>
            if_congr (and_congr_right fun _ => (and_iff_right ha).symm) rfl rfl
        · exact htotal.marked.congr fun n => or_congr (and_congr_right fun _ => (and_iff_right ha).symm)
            (and_congr_right fun _ => and_congr_left fun _ => (and_iff_right ha).symm)
      · rw [if_neg ha] at heq
        have hclear := clear_effect { h.answeredBy p (fun c =>
          { c with status := some (statusFields f h.mga.seconds) }) with fsv := fsv } (.port p .rauAlarm)
        obtain ⟨fsv', he', hrec', hwritten', hdets'⟩ := clear_blocks { h.answeredBy p (fun c =>
          { c with status := some (statusFields f h.mga.seconds) }) with fsv := fsv } (.port p .rauAlarm)
        rw [he', hal] at hclear
        rw [hal] at hrec'
        have htotal := (heffect.trans hclear).congr rfl (fun q => Option.none_or) fun n => iff_of_eq (false_or _)
        refine ⟨_, next_congr (heq.trans ((congrArg (fun g : Hub => g.clearCondition (.port p .rauAlarm)) he).trans he')),
          rfl, rfl, ⟨fun k => (hrec' k).trans ?_, ?_, hdets'.trans hdets, ?_, rfl, ?_⟩, rfl⟩
        · rw [if_neg ha]
          split
          case isTrue => rfl
          case isFalse =>
            refine (hrec k).trans ?_
            split
            case isTrue hk => rw [hk]
            case isFalse => rfl
        · rw [if_neg ha]
          exact htotal.written
        · exact supervises_congr htotal.supervises fun q => (if_neg fun hc => ha hc.2.1).symm
        · exact htotal.marked.congr fun n => ⟨False.elim, fun hc =>
            hc.elim (fun hf => ha hf.2.1) fun hf => ha hf.2.1.1⟩
  · intro s h hn
    refine next_congr (statusReply_of_not ?_)
    rintro ⟨x, f, hx, hk, hr⟩
    obtain ⟨-, hf, hkind, hq, hm⟩ := replyOf_eq_some.mp hr
    exact hn x f hx hk hf (fieldKind_status.mp (hk ▸ hkind)) hq

/-- Settles O27. -/
theorem unansweredAttemptsAreMisses : Obligations.UnansweredAttemptsAreMisses := by
  intro x s h p hx hr hh hn
  refine ⟨fun hk ha => ?_, fun hk hm => ?_, fun hk hm => ?_, fun hk ha => ?_, fun hk hm => ?_⟩
  · exact next_congr ((attemptMiss_identify hx hr hh hn hk).trans (if_pos ha))
  · refine next_congr ((attemptMiss_status hx hr hh hn hk).trans ((if_neg (Nat.ne_of_lt hm)).trans ?_))
    refine congrArg (fun v => { h with cte := { h.cte with transaction := none, ports := v } }) (upd_congr ?_)
    exact congrArg (fun n => { h.cte.ports[p] with misses := n }) (Nat.min_eq_left (Nat.le_of_lt (Nat.succ_lt_succ hm)))
  · refine next_congr ((attemptMiss_status hx hr hh hn hk).trans ((if_neg (hm ▸ by decide)).trans ?_))
    refine congrArg (fun v => { h with cte := { h.cte with transaction := none, ports := v } }) ?_
    exact upd_same (congrArg (fun n => { h.cte.ports[p] with misses := n }) (((congrArg (bump 3) hm).trans rfl).trans hm.symm))
  · obtain ⟨fsv, sbl, mga, he, hpres, hdets⟩ := exhausted_blocks { h with cte := { h.cte with transaction := none } } p
    exact ⟨_, next_congr ((attemptMiss_identify hx hr hh hn hk).trans ((if_neg (Nat.not_lt.mpr ha)).trans he)),
      rfl, hpres, hdets, rfl, rfl⟩
  · have hg : ({ h with cte := { h.cte with
        transaction := none, ports := upd h.cte.ports p fun c => { c with misses := bump 3 c.misses } } } : Hub) =
        { h with cte := { h.cte with transaction := none, ports := upd h.cte.ports p fun c => { c with misses := 3 } } } :=
      congrArg (fun v => { h with cte := { h.cte with transaction := none, ports := v } })
        (upd_congr (f := fun c => { c with misses := bump 3 c.misses }) (g := fun c => { c with misses := 3 })
          (congrArg (fun n => { h.cte.ports[p] with misses := n }) ((congrArg (bump 3) hm).trans rfl)))
    obtain ⟨fsv, sbl, mga, he, hpres, hdets⟩ := present_blocks { h with cte := { h.cte with
      transaction := none, ports := upd h.cte.ports p fun c => { c with misses := 3 } } } p .rauNoReply
    have heq := (attemptMiss_status hx hr hh hn hk).trans ((if_pos hm).trans
      ((congrArg (fun g : Hub => g.present (.port p .rauNoReply)) hg).trans he))
    exact ⟨_, next_congr heq, rfl, hpres, hdets, rfl, rfl⟩

/-- Settles O26. -/
theorem engineSelectsInOrder : Obligations.EngineSelectsInOrder := by
  refine ⟨?_, ?_, ?_⟩
  · intro p s h waits inSet bd seq ht hs
    refine ⟨fun hp hlow => ?_, fun hw hp hpos hlow => ?_, fun hw hpass hp hend hlow => ?_, fun pos hw hpass hend => ?_,
      fun hw hpass hset => ?_⟩
    · exact next_congr (cteSelect_identify ht hs (identifyTurn_some hp hlow))
    · exact next_congr ((cteSelect_turn ht hs (identifyTurn_none hw)).trans (priorityTurn_next hp hpos hlow))
    · refine next_congr ((cteSelect_turn ht hs (identifyTurn_none hw)).trans ((priorityTurn_ends (h := { h with bd := bd }) hp hlow hend).trans ?_))
      exact if_neg (by rw [hpass]; decide)
    · have hturn := (cteSelect_turn ht hs (identifyTurn_none hw)).trans (priorityTurn_passes (h := { h with bd := bd }) hpass hend)
      refine ⟨fun hp => ?_, fun hlast => ⟨fun hwait hp => ?_, fun hwait => ?_⟩⟩
      · exact next_congr (hturn.trans (regularTurn_next hpass hp))
      · exact next_congr (hturn.trans (regularTurn_again hpass hlast hwait hp))
      · exact next_congr (hturn.trans (regularTurn_stops hpass hlast hwait))
    · exact next_congr ((cteSelect_turn ht hs (identifyTurn_none hw)).trans ((priorityTurn_empty (h := { h with bd := bd }) hset).trans
        (regularTurn_idle hpass)))
  · intro s h hn
    refine next_congr (cteSelect_of_not ?_)
    rintro ⟨ht, hs⟩
    rcases hn with hn | hn
    · exact hn ht
    · exact absurd (hn.symm.trans hs) (by decide)
  · intro s h
    refine ⟨fun hd => next_congr (if_neg (by rw [hd]; decide)), fun hd => ?_⟩
    refine next_congr ((pollInterval_eq h).trans ((if_pos hd).trans ?_))
    cases h.cte.pass <;> rfl

end Sys2Proof
end

section
/-! Expiries of fault records, the limiter, the gates and the join (O30, O32, O33, O35). -/

namespace Sys2Proof.Machine

/-! ## Expiries -/

/-- A new identify sequence where the record is RAU_NO_REPLY's (R155). -/
def Hub.identifyAfter (h : Hub) (k : FaultKey) : Hub :=
  match k with
  | .port p .rauNoReply => h.newIdentify p
  | _ => h

theorem newIdentify_newIdentify (h : Hub) (p : PortId) : (h.newIdentify p).newIdentify p = h.newIdentify p := by
  simp only [Hub.newIdentify, Hub.onCte, upd_upd]
  refine congrArg (fun v => { h with cte := { h.cte with ports := v } }) (upd_congr ?_)
  exact congrArg (fun b => { h.cte.ports[p] with pending := b, hold := false, nextAttempt := 1 })
    ((Bool.or_assoc _ _ _).trans (congrArg _ (Bool.or_self _)))

theorem identifyAfter_identifyAfter (h : Hub) (k : FaultKey) : (h.identifyAfter k).identifyAfter k = h.identifyAfter k := by
  cases k with
  | donor d => rfl
  | port p c =>
    cases c
    case rauNoReply => exact newIdentify_newIdentify h p
    all_goals rfl

/-- A record out of IDLE that gains no action changes FSV alone, a RAU_NO_REPLY record that returns to IDLE apart. -/
theorem changeRecord_of_fewer {h : Hub} {k : FaultKey} {r : FaultRecord} (hs : (h.faultRecord k).state ≠ .idle)
    (ha : r.acts (h.tables.responseMode k.row) = true → (h.faultRecord k).acts (h.tables.responseMode k.row) = true) :
    h.changeRecord k r = if r.state = .idle then (h.putRecord k r).identifyAfter k else h.putRecord k r := by
  cases k with
  | donor d => exact (ite_self _).symm
  | port p c =>
    have hgrows : (h.putRecord (.port p c) r).grows h := grows_of_acts (tables_putRecord h _ r).symm fun q e he => by
      rw [tables_putRecord] at he ⊢
      rw [faultRecord_putRecord] at he
      split at he
      case isTrue hk => rw [hk] at he ⊢; exact ha he
      case isFalse => exact he
    have hmarks : (((h.putRecord (.port p c) r).actions p).minus (h.actions p)).silences = false := by
      obtain ⟨hm, hi⟩ := hgrows p
      revert hm hi
      simp only [ActionSet.minus, ActionSet.silences]
      generalize h.actions p = old
      generalize (h.putRecord (.port p c) r).actions p = new
      obtain ⟨om, oi, oa⟩ := old
      obtain ⟨nm, ni, na⟩ := new
      cases om <;> cases oi <;> cases nm <;> cases ni <;> simp
    have hw : ¬ ((h.faultRecord (.port p c)).state = .idle ∧ r.state ≠ .idle) := fun hc => hs hc.1
    unfold Hub.changeRecord Hub.actionsEntered
    dsimp only
    simp only [hmarks, Bool.false_eq_true, if_false, if_neg hw]
    by_cases hr : r.state = .idle
    · have hleaves : (c = .rauNoReply ∧ (h.faultRecord (.port p c)).state ≠ .idle ∧ r.state = .idle) ↔ c = .rauNoReply :=
        and_iff_left ⟨hs, hr⟩
      rw [if_pos hr]
      simp only [hleaves]
      cases c <;> rfl
    · rw [if_neg hr, if_neg fun hc => hr hc.2.2]

theorem coolingExpiry_eq {h : Hub} {k : FaultKey} (hc : (h.faultRecord k).state = .cooling)
    (ht : h.timerOut (h.faultRecord k) = true) :
    let r := h.faultRecord k
    let secs := h.tables.retrySeconds k.row
    h.coolingExpiry k = Hub.identifyAfter (
      if r.retries < h.tables.retryLimit k.row then
        let g := h.writeHistory k .retryExpired
        if r.present then
          ((g.putRecord k { r with
            occurrences := bump 255 r.occurrences, retries := bump 15 r.retries, timer := secs, fresh := true }).writeHistory
              k .detected).raise .fault
        else g.putRecord k { r with state := .idle, timer := secs, fresh := true }
      else
        let g := (h.putRecord k { r with state := if r.present then .active else .latched, timer := 0 }).writeHistory
          k .escalated
        if r.present then g.raise .fault else g) k := by
  unfold Hub.coolingExpiry
  dsimp only
  rw [if_neg (by rw [hc, ht]; decide)]
  have hne : ∀ g : Hub, g.faultRecord k = h.faultRecord k → (g.faultRecord k).state ≠ .idle := fun g hg => by
    rw [hg, hc]
    decide
  have hacts : ∀ (r : FaultRecord) (m : ResponseMode), r.acts m = true → (h.faultRecord k).acts m = true := fun r m ha => by
    simp only [FaultRecord.acts, Bool.and_eq_true, decide_eq_true_eq] at ha ⊢
    exact ⟨by rw [hc]; decide, ha.2⟩
  by_cases hlimit : (h.faultRecord k).retries < h.tables.retryLimit k.row
  · rw [if_pos hlimit, if_pos hlimit]
    have hr : (h.writeHistory k .retryExpired).faultRecord k = h.faultRecord k := faultRecord_of_fsv rfl rfl k
    cases hp : (h.faultRecord k).present
    · simp only [Bool.false_eq_true, if_false]
      rw [changeRecord_of_fewer (hne _ hr) (fun ha => hr.symm ▸ hacts _ _ ha), if_pos rfl]
      exact identifyAfter_identifyAfter _ k
    · simp only [if_true]
      rw [changeRecord_of_fewer (hne _ hr) (fun ha => hr.symm ▸ hacts _ _ ha), if_neg (by rw [hc]; decide)]
      rfl
  · rw [if_neg hlimit, if_neg hlimit]
    have hst : (if (h.faultRecord k).present = true then RecordState.active else .latched) ≠ .idle := by split <;> decide
    rw [changeRecord_of_fewer (hne _ rfl) (hacts _ _), if_neg hst]
    rfl

theorem hub_putRecord (h : Hub) (k : FaultKey) (r : FaultRecord) :
    h.putRecord k r = { h with fsv := (h.putRecord k r).fsv } := by cases k <;> rfl

theorem written_putRecord (h : Hub) (k : FaultKey) (r : FaultRecord) : h.fsv.written (h.putRecord k r).fsv [] :=
  .nil (fsv_putRecord_rest h k r).1 (fsv_putRecord_rest h k r).2.1

theorem written_put_write (h : Hub) (k : FaultKey) (r : FaultRecord) (t : Transition) :
    h.fsv.written ((h.putRecord k r).writeHistory k t).fsv [⟨k, t, h.mga.seconds⟩] := by
  have hs : (h.putRecord k r).mga.seconds = h.mga.seconds := by rw [hub_putRecord]
  exact hs ▸ (written_putRecord h k r).trans (written_writeHistory (h.putRecord k r) k t)

/-- What a COOLING expiry does in FSV, and the notice that it raises (R143, R144, R147). -/
theorem coolingExpiry_blocks {h : Hub} {k : FaultKey} (hc : (h.faultRecord k).state = .cooling)
    (ht : h.timerOut (h.faultRecord k) = true) :
    let r := h.faultRecord k
    let secs := h.tables.retrySeconds k.row
    ∃ fsv : Fsv, h.coolingExpiry k =
        ({ h with fsv := fsv, mga := if r.present then h.mga.raised .fault else h.mga } : Hub).identifyAfter k
      ∧ (∀ k' : FaultKey, ({ h with fsv := fsv } : Hub).faultRecord k' = if k' = k then
          (if r.retries < h.tables.retryLimit k.row then
            if r.present then
              { r with occurrences := bump 255 r.occurrences, retries := bump 15 r.retries, timer := secs, fresh := true }
            else { r with state := .idle, timer := secs, fresh := true }
          else { r with state := if r.present then .active else .latched, timer := 0 })
        else h.faultRecord k')
      ∧ h.fsv.written fsv (if r.retries < h.tables.retryLimit k.row then
          ⟨k, .retryExpired, h.mga.seconds⟩ :: if r.present then [⟨k, .detected, h.mga.seconds⟩] else []
        else [⟨k, .escalated, h.mga.seconds⟩])
      ∧ fsv.detectors = h.fsv.detectors := by
  dsimp only
  rw [coolingExpiry_eq hc ht]
  dsimp only
  have hexpired := written_writeHistory h k .retryExpired
  split_ifs with hlimit hp hp
  · refine ⟨(((h.writeHistory k .retryExpired).putRecord k { h.faultRecord k with
      occurrences := bump 255 (h.faultRecord k).occurrences, retries := bump 15 (h.faultRecord k).retries
      timer := h.tables.retrySeconds k.row, fresh := true }).writeHistory k .detected).fsv,
      congrArg (fun g : Hub => g.identifyAfter k) ?_, fun k' => ?_, ?_, ?_⟩
    · rw [hub_putRecord]
      rfl
    · exact faultRecord_putRecord (h.writeHistory k .retryExpired) k k' _
    · exact hexpired.trans (written_put_write (h.writeHistory k .retryExpired) k _ .detected)
    · exact (fsv_putRecord_rest (h.writeHistory k .retryExpired) k _).2.2
  · refine ⟨((h.writeHistory k .retryExpired).putRecord k { h.faultRecord k with
      state := .idle, timer := h.tables.retrySeconds k.row, fresh := true }).fsv,
      congrArg (fun g : Hub => g.identifyAfter k) ?_, fun k' => ?_, ?_, ?_⟩
    · rw [hub_putRecord]
      rfl
    · exact faultRecord_putRecord (h.writeHistory k .retryExpired) k k' _
    · exact hexpired.trans (written_putRecord (h.writeHistory k .retryExpired) k _)
    · exact (fsv_putRecord_rest (h.writeHistory k .retryExpired) k _).2.2
  · refine ⟨((h.putRecord k { h.faultRecord k with state := .active, timer := 0 }).writeHistory k .escalated).fsv,
      congrArg (fun g : Hub => g.identifyAfter k) ?_, fun k' => ?_, ?_, ?_⟩
    · rw [hub_putRecord]
      rfl
    · exact faultRecord_putRecord h k k' _
    · exact written_put_write h k _ .escalated
    · exact (fsv_putRecord_rest h k _).2.2
  · refine ⟨((h.putRecord k { h.faultRecord k with state := .latched, timer := 0 }).writeHistory k .escalated).fsv,
      congrArg (fun g : Hub => g.identifyAfter k) ?_, fun k' => ?_, ?_, ?_⟩
    · rw [hub_putRecord]
      rfl
    · exact faultRecord_putRecord h k k' _
    · exact written_put_write h k _ .escalated
    · exact (fsv_putRecord_rest h k _).2.2

theorem cte_identifyAfter (h : Hub) (k : FaultKey) : h.identifyAfter k = { h with cte := (h.identifyAfter k).cte } := by
  cases k with
  | donor d => rfl
  | port p c => cases c <;> rfl

/-! ## The limiter -/

section Lane
variable {t : Tables} {p : PortId} {b : Lane} {m : LaneLimiter}

theorem frameUpdate_of_excess (hc : t.ceiling p b < levelCode (m.powerSum / 256)) : m.frameUpdate t p b =
    { m with
      powerSum := 0, power := m.powerSum / 256, cls := .excess
      overdrive := if m.factor = 512 then bump 16 m.overdrive else 0
      factor := attackFactor m.factor, hold := 0, attack := sat32 m.attack 1 } := by
  have hcls : frameClass (m.powerSum / 256) (t.ceiling p b) = .excess := if_pos hc
  unfold LaneLimiter.frameUpdate
  simp only [hcls, and_true]

theorem frameUpdate_of_between (hc : ¬ t.ceiling p b < levelCode (m.powerSum / 256))
    (hb : t.ceiling p b < levelCode (m.powerSum / 256) + 2) : m.frameUpdate t p b =
    { m with powerSum := 0, power := m.powerSum / 256, cls := .between, overdrive := 0 } := by
  have hcls : frameClass (m.powerSum / 256) (t.ceiling p b) = .between :=
    (if_neg hc).trans (if_neg (Nat.not_le.mpr hb))
  unfold LaneLimiter.frameUpdate
  simp only [hcls, reduceCtorEq, and_false, if_false]

theorem frameUpdate_of_clean (hc : ¬ t.ceiling p b < levelCode (m.powerSum / 256))
    (hb : ¬ t.ceiling p b < levelCode (m.powerSum / 256) + 2) : m.frameUpdate t p b =
    { m with
      powerSum := 0, power := m.powerSum / 256, cls := .clean, overdrive := 0
      factor := match t.limiterMode p with
        | .next => 4096
        | .step => min 4096 (m.factor + t.releaseStep p)
        | .hold => m.factor
      hold := if t.limiterMode p = .hold then if m.factor < 4096 then bump 255 m.hold else 0 else m.hold
      restoreDue := if t.limiterMode p = .hold ∧ m.factor < 4096 then decide (t.holdFrames p ≤ m.hold + 1)
        else m.restoreDue } := by
  have hcls : frameClass (m.powerSum / 256) (t.ceiling p b) = .clean :=
    (if_neg hc).trans (if_pos (Nat.not_lt.mp hb))
  unfold LaneLimiter.frameUpdate
  simp only [hcls, reduceCtorEq, and_false, if_false]
  cases t.limiterMode p with
  | next | step => rfl
  | hold => by_cases hl : m.factor < 4096 <;> simp only [hl, if_true, if_false, and_true, and_false]

end Lane

theorem PortLimiter.frameUpdate_cleared {m : PortLimiter} (hm : m.cleared = true) (t : Tables) (p : PortId) :
    m.frameUpdate t p = m := if_pos hm

theorem PortLimiter.frameUpdate_flag (m : PortLimiter) (t : Tables) (p : PortId) : (m.frameUpdate t p).flag = m.flag := by
  unfold PortLimiter.frameUpdate
  split <;> rfl

theorem frameUpdate_cls (t : Tables) (p : PortId) (b : Lane) (m : LaneLimiter) :
    (m.frameUpdate t p b).cls = .excess ↔ t.ceiling p b < levelCode (m.powerSum / 256) := by
  rw [(m.frameUpdate_cls_overdrive t p b).1]
  unfold frameClass
  dsimp only
  split_ifs with hc hb <;> simp [hc]

theorem PortLimiter.frameUpdate_clean {m : PortLimiter} (hm : m.cleared = false) (t : Tables) (p : PortId) :
    (m.frameUpdate t p).clean =
      if ∃ x : Lane, t.ceiling p x < levelCode (m.lanes[x].powerSum / 256) then 0 else min (m.clean + 1) 16 := by
  unfold PortLimiter.frameUpdate
  rw [if_neg (ne_true_of_eq_false hm)]
  refine if_congr ?_ rfl rfl
  rw [List.any_eq_true]
  refine exists_congr fun x => ?_
  rw [and_iff_right (List.mem_finRange x), decide_eq_true_eq, tab_get, frameUpdate_cls]

/-! ## The overdrive flag -/

theorem restartDue_iff {h : Hub} : h.restartDue = true ↔ h.mga.busy = some .restart ∧ h.mga.busyRipe = true := by
  simp only [Hub.restartDue, Bool.and_eq_true, decide_eq_true_eq]

theorem holdRestore_eq {h : Hub} {p : PortId} {b : Lane} (hd : h.bd.limiterDone = true)
    (hr : h.plm[p].lanes[b].restoreDue = true) : h.holdRestore p b = { h with
      plm := upd h.plm p fun m => { m with
        lanes := upd m.lanes b fun l => { l with factor := 4096, hold := 0, restoreDue := false } } } := by
  unfold Hub.holdRestore
  rw [limiterUpdate_of_done hd]
  exact if_pos hr

theorem overdrivePresent_eq {h : Hub} {p : PortId} (hd : h.bd.limiterDone = true) (hf : h.plm[p].flag = false)
    (hb : ∃ b : Lane, h.plm[p].lanes[b].overdrive = 16) : h.overdrivePresent p =
      let g : Hub := { h with plm := upd h.plm p fun m => { m with flag := true } }
      if h.restartDue then g else g.present (.port p .dlOverdrive) := by
  obtain ⟨b, hb⟩ := hb
  unfold Hub.overdrivePresent
  dsimp only
  rw [limiterUpdate_of_done hd, if_pos]
  · rfl
  · exact ⟨by rw [hf]; rfl, List.any_eq_true.mpr ⟨b, List.mem_finRange b, decide_eq_true hb⟩⟩

theorem overdriveClear_eq {h : Hub} {p : PortId} (hd : h.bd.limiterDone = true) (hf : h.plm[p].flag = true)
    (hc : h.plm[p].clean = 16) : h.overdriveClear p =
      let g : Hub := { h with plm := upd h.plm p fun m => { m with flag := false } }
      if h.restartDue then g else g.clearCondition (.port p .dlOverdrive) := by
  unfold Hub.overdriveClear
  dsimp only
  rw [limiterUpdate_of_done hd, if_pos ⟨hf, hc⟩]
  rfl

end Sys2Proof.Machine

namespace Sys2Proof
open Machine

/-- Settles O30. -/
theorem coolingAndSettleExpiry : Obligations.CoolingAndSettleExpiry := by
  have hout {s : State} {k : FaultKey} : (s.hub.openBoundary.timerOut (s.hub.openBoundary.faultRecord k)) = true ↔
      (s.hub.openBoundary.faultRecord k).fresh = false ∧ ((s.hub.openBoundary.faultRecord k).timer = 0
        ∨ (s.hub.openBoundary.faultRecord k).timer = 1 ∧ 16000 ≤ s.hub.openBoundary.mga.frameCount) := by
    simp only [Hub.timerOut, Hub.markDue, openBoundary_isOpen, Bool.true_and, Bool.and_eq_true, Bool.not_eq_true',
      Bool.or_eq_true, decide_eq_true_eq]
    tauto
  refine ⟨fun k s => ?_, fun k s => ?_, fun k s => ?_⟩
  · intro h r runsOut
    exact ⟨fun hn => next_congr (coolingExpiry_of_not fun hc => hn ⟨hc.1, hout.mp hc.2⟩),
      fun hn => next_congr (settleExpiry_of_not fun hc => hn ⟨hc.1, hc.2.1, hout.mp hc.2.2⟩)⟩
  · intro h r secs hc hf ht
    obtain ⟨fsv, he, hrec, hwritten, hdets⟩ := coolingExpiry_blocks (h := h) hc (hout.mpr ⟨hf, ht⟩)
    refine ⟨_, next_congr (he.trans (cte_identifyAfter _ k)), rfl, (hrec k).trans (if_pos rfl), hwritten, hdets, rfl, ?_,
      fun k' hk => (hrec k').trans (if_neg hk), supervises_of_fewer rfl ?_, rfl⟩
    · cases k with
      | donor d => rfl
      | port p c => cases c <;> rfl
    · refine grows_of_acts rfl fun q e ha => ?_
      replace ha := congrArg (fun r => FaultRecord.acts r _) (hrec (.port q e)).symm |>.trans ha
      dsimp only at ha
      split at ha
      case isTrue hk =>
        simp only [FaultRecord.acts, Bool.and_eq_true, decide_eq_true_eq] at ha ⊢
        refine ⟨?_, ha.2⟩
        rw [hk]
        exact fun hidle => nomatch hc.symm.trans hidle
      case isFalse => exact ha
  · intro h r hi hr hf ht
    have he : h.settleExpiry k = h.putRecord k { r with retries := 0, timer := 0 } :=
      if_pos ⟨hi, hr, hout.mpr ⟨hf, ht⟩⟩
    have hrest := fsv_putRecord_rest h k { r with retries := 0, timer := 0 }
    have hrec := faultRecord_putRecord h k
    refine ⟨_, next_congr (he.trans (hub_putRecord h k _)), rfl, (hrec k _).trans (if_pos rfl),
      fun k' hk => (hrec k' _).trans (if_neg hk), rfl, hrest⟩

/-- Settles O33. -/
theorem limiterFollowsTheEndedFrame : Obligations.LimiterFollowsTheEndedFrame := by
  refine ⟨fun s hd => next_congr (limiterUpdate_of_done hd), ?_⟩
  intro p b s h l power ceiling mode hd hc
  have hport : h.limiterUpdate.plm[p] = (h.plm[p]).frameUpdate h.tables p := Hub.limiterUpdate_plm hd p
  have hlane : h.limiterUpdate.plm[p].lanes[b] = l.frameUpdate h.tables p b := by
    rw [hport, PortLimiter.frameUpdate_lane hc]
  refine ⟨_, exec_limiterUpdate s, rfl, ?_, ?_, ?_, fun q hq => ?_, ?_⟩
  · intro l'
    have hl : l' = l.frameUpdate h.tables p b := hlane
    clear_value l'
    subst hl
    by_cases hx : ceiling < levelCode power
    · rw [frameUpdate_of_excess hx, if_pos hx]
      exact ⟨rfl, rfl, ⟨rfl, rfl, rfl, rfl⟩, (if_neg fun hc => absurd hc.1 (by omega)).symm⟩
    · by_cases hb : ceiling < levelCode power + 2
      · rw [frameUpdate_of_between hx hb, if_neg hx, if_pos hb]
        exact ⟨rfl, rfl, ⟨rfl, rfl, rfl, rfl⟩, (if_neg fun hc => absurd hc.1 (by omega)).symm⟩
      · rw [frameUpdate_of_clean hx hb, if_neg hx, if_neg hb]
        exact ⟨rfl, rfl, ⟨rfl, rfl, rfl, rfl⟩, if_congr (and_iff_right (by omega)).symm rfl rfl⟩
  · exact (congrArg PortLimiter.flag hport).trans (PortLimiter.frameUpdate_flag _ _ _)
  · exact (congrArg PortLimiter.clean hport).trans (PortLimiter.frameUpdate_clean hc _ _)
  · exact (Hub.limiterUpdate_plm hd q).trans (PortLimiter.frameUpdate_cleared hq _ _)
  · exact (if_neg (ne_true_of_eq_false hd)).trans (by rw [Hub.limiterUpdate, if_neg (ne_true_of_eq_false hd)])

/-- Settles O35. -/
theorem holdRestoreAndOverdriveFlag : Obligations.HoldRestoreAndOverdriveFlag := by
  constructor
  · intro p b s h hd hr
    exact next_congr (holdRestore_eq hd hr)
  intro p s h key restarts hd
  refine ⟨fun hf hb => ?_, fun hf hc => ?_⟩
  · have he := overdrivePresent_eq hd hf hb
    by_cases hr : h.restartDue = true
    · exact ⟨_, next_congr (he.trans (if_pos hr)), rfl, rfl, fun hn => absurd (restartDue_iff.mp hr) hn, fun _ => rfl, rfl⟩
    · obtain ⟨fsv, sbl, mga, he', hpres, hdets⟩ :=
        present_blocks { h with plm := upd h.plm p fun m => { m with flag := true } } p .dlOverdrive
      exact ⟨_, next_congr ((he.trans (if_neg hr)).trans he'), rfl, rfl, fun _ => ⟨hpres, hdets⟩,
        fun hn => absurd (restartDue_iff.mpr hn) hr, rfl⟩
  · have he := overdriveClear_eq hd hf hc
    by_cases hr : h.restartDue = true
    · refine ⟨_, next_congr (he.trans (if_pos hr)), rfl, rfl, fun k => (if_neg fun hn => ?_).symm, ?_, rfl, rfl⟩
      · exact hn.2 (restartDue_iff.mp hr)
      · rw [if_pos (restartDue_iff.mp hr)]
        exact .nil rfl rfl
    · have hnot : ¬ restarts := fun hn => hr (restartDue_iff.mpr hn)
      obtain ⟨fsv, he', hrec, hwritten, hdets⟩ :=
        clear_blocks { h with plm := upd h.plm p fun m => { m with flag := false } } key
      refine ⟨_, next_congr ((he.trans (if_neg hr)).trans he'), rfl, rfl, fun k => (hrec k).trans ?_, ?_, hdets, rfl⟩
      · exact if_congr (and_iff_left hnot).symm rfl rfl
      · rw [if_neg hnot]
        exact hwritten

end Sys2Proof
end

section
/-! WAKE, CLEAR_FAULTS and PRIORITY_POLL (O54, O55). -/

namespace Sys2Proof.Machine

/-! ## WAKE -/

theorem actWake_eq {h : Hub} {c : Cell} {p : PortId} (hp : c.arg 0 = p.val) (hs : h.inService = true) : h.actWake c =
    { h with
      sbl := { h.sbl with ports := upd h.sbl.ports p fun b =>
        { b with quiet := false, quietDue := false, quietCount := 0, wakeCause := .request } }
      mga :=
        let m := { h.mga with responses := h.mga.responses ++ [okResponse c.tag [if h.isQuiet p then 1 else 0]] }
        if h.isQuiet p then m.raised .quiet else m } := by
  unfold Hub.actWake
  rw [if_neg (by rw [hs]; decide), withPort_of hp]
  dsimp only
  rw [wakePort_eq]
  cases hq : h.isQuiet p
  · simp only [Bool.false_eq_true, if_false]
    obtain ⟨hquiet, hdue⟩ := Bool.or_eq_false_iff.mp (hq : (h.sbl.ports[p].quiet || h.sbl.ports[p].quietDue) = false)
    refine congrArg (fun v => { h with sbl := { h.sbl with ports := v }, mga := { h.mga with
      responses := h.mga.responses ++ [okResponse c.tag [0]] } }) (upd_congr ?_)
    exact congrArg₂ (fun q d => { h.sbl.ports[p] with quiet := q, quietDue := d, quietCount := 0, wakeCause := .request })
      hquiet hdue
  · simp only [if_true]
    rfl

/-- What balancing may do to the quiet state of a port: it lowers the quiet count, and takes no port to QUIET. -/
structure Hub.Rests (h h' : Hub) : Prop where
  count : ∀ p : PortId, h'.sbl.ports[p].quietCount ≤ h.sbl.ports[p].quietCount
  quiet : ∀ p : PortId, h'.sbl.ports[p].quiet = true → h.sbl.ports[p].quiet = true
  due : ∀ p : PortId, h'.sbl.ports[p].quietDue = true → h.sbl.ports[p].quietDue = true
  tables : h'.tables = h.tables
  bd : h'.bd = h.bd

namespace Hub.Rests
variable {a b c : Hub}

theorem trans (x : a.Rests b) (y : b.Rests c) : a.Rests c where
  count p := (y.count p).trans (x.count p)
  quiet p := x.quiet p ∘ y.quiet p
  due p := x.due p ∘ y.due p
  tables := y.tables.trans x.tables
  bd := y.bd.trans x.bd

theorem of_ports (hp : b.sbl.ports = a.sbl.ports) (ht : b.tables = a.tables) (hb : b.bd = a.bd) : a.Rests b := by
  refine ⟨fun p => ?_, fun p => ?_, fun p => ?_, ht, hb⟩ <;> rw [hp]
  · exact id
  · exact id

theorem onBal (h : Hub) (p : PortId) {f : PortBalance → PortBalance} (hc : ∀ b, (f b).quietCount ≤ b.quietCount)
    (hq : ∀ b, (f b).quiet = true → b.quiet = true) (hd : ∀ b, (f b).quietDue = true → b.quietDue = true) :
    h.Rests (h.onBal p f) := by
  refine ⟨fun q => ?_, fun q => ?_, fun q => ?_, rfl, rfl⟩ <;> simp only [Hub.onBal, upd_get] <;> split
  · exact hc _
  · exact le_rfl
  · exact hq _
  · exact id
  · exact hd _
  · exact id

theorem wakePort (h : Hub) (p : PortId) (w : WakeCause) : h.Rests (h.wakePort p w) := by
  rw [wakePort_eq]
  split
  · exact (onBal h p (f := fun b => { b with quiet := false, quietDue := false, quietCount := 0, wakeCause := w })
      (fun _ => Nat.zero_le _) nofun nofun).trans (of_ports rfl rfl rfl)
  · exact of_ports rfl rfl rfl

end Hub.Rests

theorem rests_overloadTurn (x : Hub × List MoveEntry) (z : SectorId) : x.1.Rests (overloadTurn x z).1 := by
  unfold overloadTurn
  split <;> exact .of_ports rfl rfl rfl

theorem rests_returnTurn (x : Hub × List MoveEntry) (p : PortId) : x.1.Rests (returnTurn x p).1 := by
  obtain ⟨h, made⟩ := x
  have hret (n : Nat) : h.Rests (h.onBal p fun b => { b with returns := n }) :=
    .onBal h p (fun _ => le_rfl) (fun _ => id) fun _ => id
  rcases returnTurn_cases h made p with ht | ⟨n, ht | ⟨s, -, -, ht⟩⟩ <;> rw [ht]
  · exact .of_ports rfl rfl rfl
  · exact hret n
  · exact (hret n).trans (.of_ports rfl rfl rfl)

theorem rests_disposeAuto (h : Hub) (e : MoveEntry) : h.Rests (h.disposeAuto e) := by
  unfold Hub.disposeAuto Hub.enqueue
  split
  · exact .of_ports rfl rfl rfl
  · exact Hub.Rests.trans (b := { h with sbl := { h.sbl with queue := h.sbl.queue ++ [e] } }) (.of_ports rfl rfl rfl)
      (.wakePort _ _ _)

theorem rests_disposeAdvice (h : Hub) (made : List MoveEntry) : h.Rests (h.disposeAdvice made) := by
  unfold Hub.disposeAdvice
  dsimp only
  split <;> exact .of_ports rfl rfl rfl

theorem rests_balance (h : Hub) : h.Rests h.balance := by
  have hover := foldl_keeps (P := fun x => h.Rests x.1) (fun x z hx => hx.trans (rests_overloadTurn x z)) h.overloadedSectors
    (h, []) (.of_ports rfl rfl rfl)
  have hx := foldl_keeps (P := fun x => h.Rests x.1) (fun x p hx => hx.trans (rests_returnTurn x p)) (List.finRange 24) _ hover
  unfold Hub.balance
  dsimp only
  split
  · exact hx
  · exact hx.trans (rests_disposeAdvice _ _)
  · exact foldl_keeps (P := h.Rests) (fun g e hg => hg.trans (rests_disposeAuto g e)) _ _ hx

/-- Steps 3 and 4 of a balance interval on the state of port `p` (R114, R129, R130). -/
def Hub.quietSteps (h : Hub) (p : PortId) (b : PortBalance) : PortBalance :=
  let n := if h.quietConditions p then bump 15 b.quietCount else 0
  if h.tables.portOn p then
    { b with holdOff := b.holdOff - 1, quietCount := n, quietDue := !b.quiet && decide (h.eventTables.quietLimit ≤ n) }
  else { b with holdOff := b.holdOff - 1 }

theorem quietSteps_eq (h : Hub) : each Hub.lowerHoldOff (each Hub.quietTest h) =
    { h with sbl := { h.sbl with ports := tab fun p => h.quietSteps p h.sbl.ports[p] } } := by
  have htest : each Hub.quietTest h = each (fun p g => g.onBal p fun b =>
      if g.tables.portOn p then
        let n := if g.quietConditions p then bump 15 b.quietCount else 0
        { b with quietCount := n, quietDue := !b.quiet && decide (g.eventTables.quietLimit ≤ n) }
      else b) h := by
    refine congrArg (fun f => each f h) (funext fun p => funext fun g => ?_)
    unfold Hub.quietTest
    cases g.tables.portOn p
    · exact congrArg (fun v => { g with sbl := { g.sbl with ports := v } }) (upd_id _ _).symm
    · rfl
  rw [htest, each_onBal (fun _ _ => rfl)]
  unfold Hub.lowerHoldOff
  rw [each_onBal (fun _ _ => rfl)]
  refine congrArg (fun v => { h with sbl := { h.sbl with ports := v } }) (Vector.ext fun i hi => ?_)
  simp only [tab_getElem, Fin.getElem_fin, Hub.quietSteps]
  split <;> rfl

theorem balanceInterval_eq {h : Hub} (hs : h.inService = true) (hd : h.sbl.intervalDue = true) : h.balanceInterval =
    let g := ({ h with sbl := { h.sbl with intervalDue := false } } : Hub).takeLoads
    let k := if h.eventTables.mode = .off then g else g.balance
    { k with sbl := { k.sbl with ports := tab fun p => k.quietSteps p k.sbl.ports[p] } } := by
  unfold Hub.balanceInterval
  rw [if_pos ⟨hs, hd⟩]
  exact quietSteps_eq _

/-- A balance interval raises the quiet count by at most one, and makes an entry into QUIET due at the SITE quiet count
alone (R130, R132). -/
theorem balanceInterval_quiet {h : Hub} {p : PortId} (hd : h.sbl.ports[p].quietDue = false) :
    h.balanceInterval.sbl.ports[p].quietCount ≤ h.sbl.ports[p].quietCount + 1
    ∧ (h.balanceInterval.isQuiet p = true → h.sbl.ports[p].quiet = true
      ∨ h.eventTables.quietLimit ≤ h.balanceInterval.sbl.ports[p].quietCount) := by
  by_cases hn : h.inService = true ∧ h.sbl.intervalDue = true
  · have hrests : h.Rests (if h.eventTables.mode = .off
        then ({ h with sbl := { h.sbl with intervalDue := false } } : Hub).takeLoads
        else ({ h with sbl := { h.sbl with intervalDue := false } } : Hub).takeLoads.balance) := by
      have hloads : h.Rests ({ h with sbl := { h.sbl with intervalDue := false } } : Hub).takeLoads := .of_ports rfl rfl rfl
      split
      · exact hloads
      · exact hloads.trans (rests_balance _)
    unfold Hub.isQuiet
    rw [balanceInterval_eq hn.1 hn.2]
    dsimp only
    generalize (if h.eventTables.mode = .off
        then ({ h with sbl := { h.sbl with intervalDue := false } } : Hub).takeLoads
        else ({ h with sbl := { h.sbl with intervalDue := false } } : Hub).takeLoads.balance) = g at hrests ⊢
    have hcount := hrests.count p
    have hquiet := hrests.quiet p
    have hdue := hrests.due p
    have hlimit : g.eventTables.quietLimit = h.eventTables.quietLimit := by
      unfold Hub.eventTables
      rw [hrests.tables, hrests.bd]
    rw [hd] at hdue
    rw [tab_get]
    unfold Hub.quietSteps
    rw [hlimit]
    generalize g.sbl.ports[p] = b at hcount hquiet hdue ⊢
    dsimp only
    have hbump : (if g.quietConditions p = true then bump 15 b.quietCount else 0) ≤ b.quietCount + 1 := by
      split
      · exact Nat.min_le_left _ _
      · exact Nat.zero_le _
    cases g.tables.portOn p
    · refine ⟨hcount.trans (Nat.le_succ _), fun hq => .inl ?_⟩
      rcases Bool.or_eq_true_iff.mp hq with hq | hq
      · exact hquiet hq
      · exact absurd (hdue hq) (by decide)
    · refine ⟨hbump.trans (Nat.succ_le_succ hcount), fun hq => ?_⟩
      rcases Bool.or_eq_true_iff.mp hq with hq | hq
      · exact .inl (hquiet hq)
      · exact .inr (of_decide_eq_true (Bool.and_eq_true_iff.mp hq).2)
  · rw [show h.balanceInterval = h from if_neg hn]
    refine ⟨Nat.le_succ _, fun hq => .inl ?_⟩
    unfold Hub.isQuiet at hq
    rwa [hd, Bool.or_false] at hq

/-! ## CLEAR_FAULTS -/

theorem mem_allKeys (k : FaultKey) : k ∈ allKeys := by
  cases k with
  | port p c =>
    exact List.mem_append_left _ (List.mem_flatMap.mpr ⟨p, List.mem_finRange p, List.mem_map.mpr ⟨c, PortClass.mem_all c, rfl⟩⟩)
  | donor d => exact List.mem_append_right _ (List.mem_map.mpr ⟨d, List.mem_finRange d, rfl⟩)

theorem nodup_allKeys : allKeys.Nodup := by
  unfold allKeys
  refine List.Nodup.append (List.nodup_flatMap.mpr ⟨fun p _ => ?_, ?_⟩) ?_ ?_
  · exact List.Nodup.map (fun c e hce => (FaultKey.port.inj hce).2) (by decide)
  · refine (List.nodup_finRange 24).imp fun {p q} hpq k hp hq => hpq ?_
    obtain ⟨c, -, rfl⟩ := List.mem_map.mp hp
    obtain ⟨e, -, he⟩ := List.mem_map.mp hq
    exact (FaultKey.port.inj he).1.symm
  · exact List.Nodup.map (fun d e hde => FaultKey.donor.inj hde) (List.nodup_finRange 8)
  · intro k hp hd
    obtain ⟨p, -, hp⟩ := List.mem_flatMap.mp hp
    obtain ⟨c, -, rfl⟩ := List.mem_map.mp hp
    obtain ⟨d, -, hd⟩ := List.mem_map.mp hd
    exact nomatch hd

theorem filter_port_allKeys : ∀ p : PortId, allKeys.filter (fun k => match k with
    | .port q _ => decide (p.val = q.val)
    | .donor _ => false) = portKeys p := by decide

theorem filter_donor_allKeys : ∀ d : DonorId, allKeys.filter (fun k => match k with
    | .port _ _ => false
    | .donor e => decide (d.val = e.val)) = [.donor d] := by decide

/-- The hub whose LATCHED record `k` has returned to IDLE (R145, R155). -/
def Hub.released (h : Hub) (k : FaultKey) : Hub :=
  ((h.putRecord k { h.faultRecord k with state := .idle, retries := 0, timer := 0 }).identifyAfter k).writeHistory k .cleared

theorem clearRecord_latched {h : Hub} {k : FaultKey} {n m : Nat} (hl : (h.faultRecord k).state = .latched) :
    clearRecord (h, n, m) k = (h.released k, n + 1, m) := by
  unfold clearRecord
  dsimp only
  rw [hl]
  dsimp only
  rw [changeRecord_of_fewer (by rw [hl]; decide) fun ha => by simp [FaultRecord.acts] at ha, if_pos rfl]
  rfl

theorem clearRecord_active {h : Hub} {k : FaultKey} {n m : Nat} (ha : (h.faultRecord k).state = .active) :
    clearRecord (h, n, m) k = (h, n, m + 1) := by
  unfold clearRecord
  dsimp only
  rw [ha]

theorem clearRecord_other {h : Hub} {k : FaultKey} {n m : Nat} (hl : (h.faultRecord k).state ≠ .latched)
    (ha : (h.faultRecord k).state ≠ .active) : clearRecord (h, n, m) k = (h, n, m) := by
  unfold clearRecord
  dsimp only
  cases hs : (h.faultRecord k).state <;> simp_all

/-- Record `k` is LATCHED. -/
def Hub.latchedAt (h : Hub) (k : FaultKey) : Bool := decide ((h.faultRecord k).state = .latched)

/-- Record `k` is ACTIVE. -/
def Hub.activeAt (h : Hub) (k : FaultKey) : Bool := decide ((h.faultRecord k).state = .active)

/-- What CLEAR_FAULTS leaves of `h` when it has taken the records `ks` (R145, R155). -/
structure Hub.ClearedOf (h : Hub) (ks : List FaultKey) (g : Hub) : Prop where
  record : ∀ k, g.faultRecord k = if k ∈ ks ∧ h.latchedAt k = true
    then { h.faultRecord k with state := .idle, retries := 0, timer := 0 } else h.faultRecord k
  written : h.fsv.written g.fsv ((ks.filter h.latchedAt).map fun k => ⟨k, .cleared, h.mga.seconds⟩)
  detectors : g.fsv.detectors = h.fsv.detectors
  ports : ∀ p : PortId, g.cte.ports[p] = if .port p .rauNoReply ∈ ks ∧ h.latchedAt (.port p .rauNoReply) = true
    then { h.cte.ports[p] with
      hold := false, nextAttempt := 1, pending := h.cte.ports[p].pending || (h.linkOf p).aligned }
    else h.cte.ports[p]
  hub : g = { h with fsv := g.fsv, cte := { h.cte with ports := g.cte.ports } }

theorem released_blocks (h : Hub) (k : FaultKey) :
    (∀ k', (h.released k).faultRecord k' = if k' = k
      then { h.faultRecord k with state := .idle, retries := 0, timer := 0 } else h.faultRecord k')
    ∧ h.fsv.written (h.released k).fsv [⟨k, .cleared, h.mga.seconds⟩]
    ∧ (h.released k).fsv.detectors = h.fsv.detectors
    ∧ (∀ p : PortId, (h.released k).cte.ports[p] = if .port p .rauNoReply = k then { h.cte.ports[p] with
        hold := false, nextAttempt := 1, pending := h.cte.ports[p].pending || (h.linkOf p).aligned }
      else h.cte.ports[p])
    ∧ h.released k = { h with fsv := (h.released k).fsv, cte := { h.cte with ports := (h.released k).cte.ports } } := by
  have hfsv : (h.released k).fsv =
      ((h.putRecord k { h.faultRecord k with state := .idle, retries := 0, timer := 0 }).writeHistory k .cleared).fsv := by
    unfold Hub.released
    rw [cte_identifyAfter]
    rfl
  refine ⟨fun k' => ?_, ?_, ?_, fun p => ?_, ?_⟩
  · exact (congrArg (fun f => ({ h with fsv := f } : Hub).faultRecord k') hfsv).trans (faultRecord_putRecord h k k' _)
  · rw [hfsv]
    exact written_put_write h k _ .cleared
  · rw [hfsv]
    exact (fsv_putRecord_rest h k _).2.2
  · cases k with
    | donor d => exact (if_neg nofun).symm
    | port q c =>
      cases c
      case rauNoReply =>
        refine (upd_get h.cte.ports q p _).trans ?_
        by_cases hqp : q = p
        · subst hqp
          exact (if_pos rfl).trans (if_pos rfl).symm
        · exact (if_neg hqp).trans (if_neg fun hc => hqp (FaultKey.port.inj hc).1.symm).symm
      all_goals exact (if_neg nofun).symm
  · cases k with
    | donor d => rfl
    | port q c => cases c <;> rfl

theorem foldl_clearRecord (h : Hub) (ks : List FaultKey) (hn : ks.Nodup) : ∃ g : Hub,
    ks.foldl clearRecord (h, 0, 0) = (g, ks.countP h.latchedAt, ks.countP h.activeAt) ∧ h.ClearedOf ks g := by
  induction ks using List.reverseRecOn with
  | nil => exact ⟨h, rfl, fun k => by simp, .nil rfl rfl, rfl, fun p => by simp, rfl⟩
  | append_singleton ks k ih =>
    obtain ⟨hks, -, hk⟩ := List.nodup_append.mp hn
    obtain ⟨g, he, hg⟩ := ih hks
    have hfresh : k ∉ ks := fun hmem => hk k hmem k (List.mem_singleton_self k) rfl
    have hrec : g.faultRecord k = h.faultRecord k := (hg.record k).trans (if_neg fun hc => hfresh hc.1)
    rw [List.foldl_append, he, List.countP_append, List.countP_append, List.foldl_cons, List.foldl_nil]
    by_cases hl : (h.faultRecord k).state = .latched
    · have hla : h.latchedAt k = true := decide_eq_true hl
      have hac : h.activeAt k = false := decide_eq_false (hl ▸ by decide)
      rw [clearRecord_latched (hrec ▸ hl)]
      refine ⟨g.released k,
        by simp only [List.countP_singleton, hla, hac, if_true, Bool.false_eq_true, if_false, Nat.add_zero], ?_⟩
      obtain ⟨hrecord, hwritten, hdets, hports, hhub⟩ := released_blocks g k
      have hseconds : g.mga.seconds = h.mga.seconds := (congrArg (fun x : Hub => x.mga.seconds) hg.hub).trans rfl
      have hlink (p : PortId) : g.linkOf p = h.linkOf p := (congrArg (fun x : Hub => x.linkOf p) hg.hub).trans rfl
      have hmem (x : FaultKey) (hx : x ≠ k) : x ∈ ks ∧ h.latchedAt x = true ↔ x ∈ ks ++ [k] ∧ h.latchedAt x = true := by
        rw [List.mem_append, List.mem_singleton, or_iff_left hx]
      refine ⟨fun x => (hrecord x).trans ?_, ?_, hdets.trans hg.detectors, fun p => (hports p).trans ?_, ?_⟩
      · rw [hrec, hg.record]
        by_cases hx : x = k
        · rw [if_pos hx, if_pos ⟨List.mem_append_right ks (List.mem_singleton.mpr hx), (congrArg h.latchedAt hx).trans hla⟩, hx]
        · rw [if_neg hx]
          exact if_congr (hmem x hx) rfl rfl
      · rw [List.filter_append, List.map_append, List.filter_singleton, hla]
        exact hg.written.trans (hseconds ▸ hwritten)
      · rw [hlink, hg.ports]
        by_cases hp : FaultKey.port p .rauNoReply = k
        · have hnot : ¬ (FaultKey.port p .rauNoReply ∈ ks ∧ h.latchedAt (.port p .rauNoReply) = true) := fun hc =>
            hfresh (hp ▸ hc.1)
          rw [if_pos hp, if_neg hnot, 
            if_pos ⟨List.mem_append_right ks (List.mem_singleton.mpr hp), (congrArg h.latchedAt hp).trans hla⟩]
        · rw [if_neg hp]
          exact if_congr (hmem _ hp) rfl rfl
      · rw [hhub, hg.hub]
    · have hla : h.latchedAt k = false := decide_eq_false hl
      have hg' : h.ClearedOf (ks ++ [k]) g := by
        have hmem (x : FaultKey) : x ∈ ks ++ [k] ∧ h.latchedAt x = true ↔ x ∈ ks ∧ h.latchedAt x = true := by
          rw [List.mem_append, List.mem_singleton]
          refine and_congr_left fun hx => or_iff_left fun hxk => ?_
          rw [hxk, hla] at hx
          exact absurd hx (by decide)
        obtain ⟨hrecord, hwritten, hdets, hports, hhub⟩ := hg
        refine ⟨fun x => (hrecord x).trans (if_congr (hmem x).symm rfl rfl), ?_, hdets,
          fun p => (hports p).trans (if_congr (hmem _).symm rfl rfl), hhub⟩
        rw [List.filter_append, List.filter_singleton, hla]
        simpa using hwritten
      by_cases ha : (h.faultRecord k).state = .active
      · have hac : h.activeAt k = true := decide_eq_true ha
        rw [clearRecord_active (hrec ▸ ha)]
        exact ⟨g, by simp only [List.countP_singleton, hla, hac, if_true, Bool.false_eq_true, if_false, Nat.add_zero], hg'⟩
      · have hac : h.activeAt k = false := decide_eq_false ha
        rw [clearRecord_other (hrec ▸ hl) (hrec ▸ ha)]
        exact ⟨g, by simp only [List.countP_singleton, hla, hac, Bool.false_eq_true, if_false, Nat.add_zero], hg'⟩

/-- The records that the arguments of CLEAR_FAULTS name (R145). -/
def Cell.names (c : Cell) (k : FaultKey) : Bool :=
  match c.arg 0, k with
  | 0, .port p _ => decide (c.arg 1 = p.val)
  | 1, .donor d => decide (c.arg 1 = d.val)
  | 2, _ => true
  | _, _ => false

theorem faultScope_outside {c : Cell} (hc : c.arg 0 = 0 ∧ 24 ≤ c.arg 1 ∨ c.arg 0 = 1 ∧ 8 ≤ c.arg 1 ∨ 3 ≤ c.arg 0) :
    faultScope c = none := by
  unfold faultScope
  rcases hc with ⟨hs, hi⟩ | ⟨hs, hi⟩ | hs
  · rw [hs]
    exact congrArg (Option.map portKeys) (fin?_eq_none hi)
  · rw [hs]
    exact congrArg (Option.map fun d => [FaultKey.donor d]) (fin?_eq_none hi)
  · split
    · omega
    · omega
    · omega
    · rfl

theorem faultScope_inside {c : Cell} (hc : ¬ (c.arg 0 = 0 ∧ 24 ≤ c.arg 1 ∨ c.arg 0 = 1 ∧ 8 ≤ c.arg 1 ∨ 3 ≤ c.arg 0)) :
    faultScope c = some (allKeys.filter c.names) := by
  have hcases : c.arg 0 = 0 ∧ c.arg 1 < 24 ∨ c.arg 0 = 1 ∧ c.arg 1 < 8 ∨ c.arg 0 = 2 := by omega
  have hnames : c.names = fun k => match c.arg 0, k with
    | 0, .port p _ => decide (c.arg 1 = p.val)
    | 1, .donor d => decide (c.arg 1 = d.val)
    | 2, _ => true
    | _, _ => false := rfl
  unfold faultScope
  rcases hcases with ⟨hs, hi⟩ | ⟨hs, hi⟩ | hs
  · have hf : fin? 24 (c.arg 1) = some ⟨c.arg 1, hi⟩ := dif_pos hi
    rw [hnames, hs, hf]
    refine congrArg some ((filter_port_allKeys ⟨c.arg 1, hi⟩).symm.trans ?_)
    exact List.filter_congr fun k _ => by cases k <;> rfl
  · have hf : fin? 8 (c.arg 1) = some ⟨c.arg 1, hi⟩ := dif_pos hi
    rw [hnames, hs, hf]
    refine congrArg some ((filter_donor_allKeys ⟨c.arg 1, hi⟩).symm.trans ?_)
    exact List.filter_congr fun k _ => by cases k <;> rfl
  · rw [hnames, hs]
    refine congrArg some (List.filter_eq_self.mpr fun k _ => ?_).symm
    cases k <;> rfl

theorem actClearFaults_of {h : Hub} {c : Cell} {ks : List FaultKey} (hs : faultScope c = some ks) (hn : ks.Nodup) :
    ∃ g : Hub, h.ClearedOf ks g ∧ h.actClearFaults c =
      let report := [BitVec.ofNat 8 (ks.countP h.latchedAt), BitVec.ofNat 8 (ks.countP h.activeAt)]
      { g with mga := { g.mga with responses := g.mga.responses ++
        [if ks.any h.activeAt then badResponse c.tag .refused 5 report else okResponse c.tag report] } } := by
  obtain ⟨g, he, hg⟩ := foldl_clearRecord h ks hn
  refine ⟨g, hg, ?_⟩
  unfold Hub.actClearFaults
  rw [hs]
  dsimp only
  rw [he]
  dsimp only
  rw [b1_eq, b1_eq]
  have hany : ks.any h.activeAt = true ↔ ¬ ks.countP h.activeAt = 0 := by
    rw [List.countP_eq_zero, List.any_eq_true]
    push Not
    rfl
  by_cases hz : ks.countP h.activeAt = 0
  · rw [if_pos hz, if_neg fun hc => hany.mp hc hz]
    rfl
  · rw [if_neg hz, if_pos (hany.mpr hz)]
    exact respond_eq (by decide) _ _ _ _

end Sys2Proof.Machine

namespace Sys2Proof
open Machine

/-- Settles O54. -/
theorem wakeWakesAQuietPort : Obligations.WakeWakesAQuietPort := by
  constructor
  · intro c rest s h answered ho
    refine ⟨fun hs => asked_next ho ?_, fun hs hc => asked_next ho ?_, fun p hp hs => asked_next ho ?_⟩
    · exact (if_pos (show (!(h.asked rest).inService) = true by rw [show (h.asked rest).inService = false from hs]; rfl)).trans
        (respond_eq (by decide) _ _ _ _)
    · exact (if_neg (show ¬ (!(h.asked rest).inService) = true by rw [show (h.asked rest).inService = true from hs]; decide)).trans
        (withPort_outside hc _)
    · exact actWake_eq (h := h.asked rest) hp hs
  · intro p s t h limit hd he
    have ht : t.hub = h.balanceInterval := by
      have hx : Host.Outcome.next _ = Host.Outcome.next t := he
      exact (congrArg State.hub (Host.Outcome.next.inj hx)).symm
    have hsbl : h.sbl = s.hub.sbl := (openBoundary_keeps s.hub).2.2.2.1
    rw [ht, ← hsbl]
    exact balanceInterval_quiet hd

/-- Settles O55. -/
theorem clearFaultsAndPriorityPoll : Obligations.ClearFaultsAndPriorityPoll := by
  constructor
  · intro c rest s h outside named latched active report ho
    refine ⟨fun hc => asked_next ho ?_, fun hc hl => ?_⟩
    · unfold Hub.actClearFaults
      rw [faultScope_outside hc]
      exact respond_eq (by decide) _ _ _ _
    · have hnamed : named = c.names := rfl
      obtain ⟨g, hg, he⟩ := actClearFaults_of (h := h.asked rest) (faultScope_inside hc) (nodup_allKeys.filter c.names)
      have hlatched (k : FaultKey) : k ∈ allKeys.filter c.names ∧ h.latchedAt k = true ↔ latched k = true := by
        rw [List.mem_filter, and_iff_right (mem_allKeys k)]
        exact Bool.and_eq_true_iff.symm
      have hfilter (f : FaultKey → Bool) : (allKeys.filter c.names).filter f = allKeys.filter fun k => named k && f k := by
        rw [List.filter_filter]
        exact List.filter_congr fun k _ => Bool.and_comm _ _
      have hcount (f : FaultKey → Bool) : (allKeys.filter c.names).countP f = allKeys.countP fun k => named k && f k := by
        rw [List.countP_eq_length_filter, List.countP_eq_length_filter, hfilter]
      refine ⟨_, asked_next ho he, rfl, ?_, fun k => (hg.record k).trans (if_congr (hlatched k) rfl rfl), ?_,
        hg.detectors, ?_, ?_⟩
      · have hmga : g.mga = { h.mga with requests := rest } := (congrArg Hub.mga hg.hub).trans rfl
        have hany : (allKeys.filter c.names).any (h.asked rest).activeAt = allKeys.any active := List.any_filter
        rw [hmga, hany, hcount, hcount]
        rfl
      · exact hfilter (h.asked rest).latchedAt ▸ hg.written
      · refine (congrArg Hub.cte hg.hub).trans (congrArg (fun v => { h.cte with ports := v }) (Vector.ext fun i hi => ?_))
        rw [tab_getElem]
        exact (hg.ports ⟨i, hi⟩).trans (if_congr (hlatched _) rfl rfl)
      · have hwith (m : Mga) : ({ g with mga := m } : Hub) = { h with fsv := g.fsv, cte := g.cte, mga := m } := by
          rw [hg.hub]
        exact hwith _
  · intro c rest s h ports ho
    have hset : c.arg16 0 * 65536 + c.arg16 2 = ports := by
      simp only [Cell.arg16, word16At, ports, Nat.add_zero, Nat.reduceAdd]
      omega
    refine ⟨fun hp => asked_next ho ?_, fun hp => asked_next ho ?_⟩
    · unfold Hub.actPriorityPoll
      dsimp only
      rw [hset, if_pos hp]
      exact respond_eq (by decide) _ _ _ _
    · unfold Hub.actPriorityPoll
      dsimp only
      rw [hset, if_neg (Nat.not_le.mpr hp)]
      simp only [Nat.testBit_eq_decide_div_mod_eq]
      rfl

end Sys2Proof
end

section
/-! The checks of the tables, ENTER_SERVICE and LOAD_END (O39, O45). -/

namespace Sys2Proof.Machine

/-! ## Cross checks -/

/-- The index of the first item that fails a cross check, if one does. -/
def Tables.firstCross (t : Tables) : CheckName → Option Nat
  | .carrierHome => ((List.finRange 32).find? fun c => t.carrierOn c && !t.sectorOn (t.carrierHome c)).map Fin.val
  | .portSectors => ((List.finRange 24).find? fun p =>
      t.portOn p && !(t.sectorOn (t.home p) && (t.alternates p).all t.sectorOn)).map Fin.val
  | .memberCount => ((List.finRange 12).find? fun s =>
      t.sectorOn s && !inRange (t.minMembers s) (t.maxMembers s) (t.homeCount s)).map Fin.val
  | .laneCarriers => ((List.finRange 12).find? fun s => !(List.finRange 4).all fun b => t.laneCarriersPass s b).map Fin.val
  | _ => none

theorem crossCheck_eq (t : Tables) :
    crossCheck t = crossOrder.findSome? fun check => (t.firstCross check).map fun i => (check, i) := by
  unfold crossCheck crossOrder Tables.firstCross
  simp only [List.findSome?_cons, List.findSome?_nil]
  generalize (List.finRange 32).find? _ = a
  generalize (List.finRange 24).find? _ = b
  generalize (List.finRange 12).find? _ = c
  generalize (List.finRange 12).find? _ = d
  cases a <;> cases b <;> cases c <;> cases d <;> rfl

theorem find?_val_some {n : Nat} {p : Fin n → Bool} {F : Nat → Prop} (hF : ∀ i, F i ↔ ∃ c : Fin n, c.val = i ∧ p c = true)
    {i : Nat} : ((List.finRange n).find? p).map Fin.val = some i ↔ F i ∧ ∀ j < i, ¬ F j := by
  simp only [Option.map_eq_some_iff, find?_finRange_eq_some, hF]
  constructor
  · rintro ⟨c, ⟨hc, hlow⟩, rfl⟩
    refine ⟨⟨c, rfl, hc⟩, ?_⟩
    rintro j hj ⟨d, rfl, hd⟩
    exact ne_true_of_eq_false (hlow d hj) hd
  · rintro ⟨⟨c, rfl, hc⟩, hlow⟩
    exact ⟨c, ⟨hc, fun j hj => Bool.eq_false_iff.mpr fun hd => hlow j.val hj ⟨j, rfl, hd⟩⟩, rfl⟩

theorem find?_val_none {n : Nat} {p : Fin n → Bool} {F : Nat → Prop} (hF : ∀ i, F i ↔ ∃ c : Fin n, c.val = i ∧ p c = true) :
    ((List.finRange n).find? p).map Fin.val = none ↔ ∀ i, ¬ F i := by
  simp only [Option.map_eq_none_iff, List.find?_eq_none, List.mem_finRange, true_imp_iff, hF]
  exact ⟨fun hn i ⟨c, _, hc⟩ => hn c hc, fun hn c hc => hn c.val ⟨c, rfl, hc⟩⟩

theorem firstCross_iff (t : Tables) (check : CheckName) :
    (∀ i, t.firstCross check = some i ↔ crossFails t check i ∧ ∀ j < i, ¬ crossFails t check j)
    ∧ (t.firstCross check = none ↔ ∀ i, ¬ crossFails t check i) := by
  cases check
  case carrierHome =>
    have hF (i : Nat) : crossFails t .carrierHome i ↔ ∃ c : CarrierId, c.val = i
        ∧ (t.carrierOn c && !t.sectorOn (t.carrierHome c)) = true := by
      simp only [crossFails, Bool.and_eq_true, Bool.not_eq_true']
    exact ⟨fun i => find?_val_some hF, find?_val_none hF⟩
  case portSectors =>
    have hF (i : Nat) : crossFails t .portSectors i ↔ ∃ p : PortId, p.val = i
        ∧ (t.portOn p && !(t.sectorOn (t.home p) && (t.alternates p).all t.sectorOn)) = true := by
      simp only [crossFails, Bool.and_eq_true, Bool.not_eq_true', Bool.and_eq_false_iff, List.all_eq_false, Bool.not_eq_true]
    exact ⟨fun i => find?_val_some hF, find?_val_none hF⟩
  case memberCount =>
    have hF (i : Nat) : crossFails t .memberCount i ↔ ∃ s : SectorId, s.val = i
        ∧ (t.sectorOn s && !inRange (t.minMembers s) (t.maxMembers s) (t.homeCount s)) = true := by
      simp only [crossFails, inRange, Bool.and_eq_true, Bool.not_eq_true', Bool.and_eq_false_iff, decide_eq_false_iff_not,
        not_and_or]
    exact ⟨fun i => find?_val_some hF, find?_val_none hF⟩
  case laneCarriers =>
    have hF (i : Nat) : crossFails t .laneCarriers i ↔ ∃ s : SectorId, s.val = i
        ∧ (!(List.finRange 4).all fun b => t.laneCarriersPass s b) = true := by
      simp only [crossFails, Tables.laneCarriersPass, Bool.not_eq_true', List.all_eq_false, List.mem_finRange, true_and,
        Bool.and_eq_true, decide_eq_true_eq, List.all_eq_true, true_imp_iff, not_and_or, not_forall, Nat.not_le]
    exact ⟨fun i => find?_val_some hF, find?_val_none hF⟩
  all_goals exact ⟨fun i => ⟨nofun, fun hc => hc.1.elim⟩, fun _ _ => id, fun _ => rfl⟩

/-! ## ENTER_SERVICE -/

theorem notLoaded_eq (t : Tld) : t.notLoaded =
    if t.carrierLoaded = false then some .carrier
    else if t.sectorLoaded = false then some .sector
    else if t.portLoaded = false then some .port
    else none := by
  unfold Tld.notLoaded
  cases t.carrierLoaded <;> cases t.sectorLoaded <;> cases t.portLoaded <;> rfl

theorem actEnterService_judged {h : Hub} {c : Cell} (hs : ¬ h.inService = true) (hd : ¬ h.tld.scheduled.isSome = true) :
    (∀ id, h.tld.notLoaded = some id → h.actEnterService c = h.refuse c.tag .notLoaded [id.code])
    ∧ (h.tld.notLoaded = none → (∀ check idx, crossCheck h.tables = some (check, idx) →
        h.actEnterService c = h.refuse c.tag .crossCheck (check.code :: toBytes 1 idx))
      ∧ (crossCheck h.tables = none → h.actEnterService c = h.setBusy (.enterService c.tag))) := by
  have hact : h.actEnterService c = match h.tld.notLoaded with
      | some id => h.refuse c.tag .notLoaded [id.code]
      | none => match crossCheck h.tables with
        | some (check, idx) => h.refuse c.tag .crossCheck ([check.code] ++ b1 idx)
        | none => h.setBusy (.enterService c.tag) := (if_neg hs).trans (if_neg hd)
  rw [hact]
  refine ⟨fun id hn => ?_, fun hn => ⟨fun check idx hx => ?_, fun hx => ?_⟩⟩
  · rw [hn]
  · rw [hn, hx]
    rfl
  · rw [hn, hx]

/-! ## Own checks -/

/-- A check of the model and a rule of R29 with the same name ask the same. -/
def CheckName.agrees (c : CheckName × Bool) (r : CheckName × Prop) : Prop := c.1 = r.1 ∧ (c.2 = true ↔ r.2)

theorem firstFailure_iff {cs : List (CheckName × Bool)} {rs : List (CheckName × Prop)}
    (ha : List.Forall₂ CheckName.agrees cs rs) :
    (firstFailure cs = none ↔ ∀ r ∈ rs, r.2)
    ∧ ∀ check, firstFailure cs = some check ↔ ∃ (before after : List (CheckName × Prop)) (rule : Prop),
        rs = before ++ (check, rule) :: after ∧ ¬ rule ∧ ∀ r ∈ before, r.2 := by
  induction ha with
  | nil => exact ⟨⟨fun _ _ hr => (nomatch hr), fun _ => rfl⟩, fun check => ⟨nofun, fun ⟨before, _, _, hr, _⟩ =>
      absurd hr.symm (List.append_ne_nil_of_right_ne_nil before (List.cons_ne_nil _ _))⟩⟩
  | @cons c r cs rs hcr hrest ih =>
    obtain ⟨name, passes⟩ := c
    obtain ⟨name', rule⟩ := r
    obtain ⟨rfl, hiff⟩ : name = name' ∧ (passes = true ↔ rule) := hcr
    cases passes
    · have hrule : ¬ rule := fun hr => nomatch hiff.mpr hr
      have hfail : firstFailure ((name, false) :: cs) = some name := rfl
      rw [hfail]
      refine ⟨⟨nofun, fun hall => absurd (hall _ List.mem_cons_self) hrule⟩, fun check => ⟨?_, ?_⟩⟩
      · rintro ⟨⟩
        exact ⟨[], rs, rule, rfl, hrule, fun _ hr => nomatch hr⟩
      · rintro ⟨before, after, rule', hsplit, hnot, hbefore⟩
        cases before with
        | nil => exact congrArg (fun l => l.head?.map Prod.fst) hsplit
        | cons x xs =>
          obtain ⟨rfl, -⟩ := List.cons.inj hsplit
          exact absurd (hbefore _ List.mem_cons_self) hrule
    · have hrule : rule := hiff.mp rfl
      have hpass : firstFailure ((name, true) :: cs) = firstFailure cs := rfl
      rw [hpass]
      refine ⟨ih.1.trans ⟨fun hall r hr => ?_, fun hall r hr => hall r (List.mem_cons_of_mem _ hr)⟩, fun check =>
        (ih.2 check).trans ⟨?_, ?_⟩⟩
      · rcases List.mem_cons.mp hr with rfl | hr
        · exact hrule
        · exact hall r hr
      · rintro ⟨before, after, rule', rfl, hnot, hbefore⟩
        refine ⟨(name, rule) :: before, after, rule', rfl, hnot, fun r hr => ?_⟩
        rcases List.mem_cons.mp hr with rfl | hr
        · exact hrule
        · exact hbefore r hr
      · rintro ⟨before, after, rule', hsplit, hnot, hbefore⟩
        cases before with
        | nil =>
          obtain ⟨hhead, -⟩ := List.cons.inj hsplit
          exact absurd ((Prod.mk.inj hhead).2 ▸ hrule) hnot
        | cons x xs =>
          obtain ⟨-, hxs⟩ := List.cons.inj hsplit
          exact ⟨xs, after, rule', hxs, hnot, fun r hr => hbefore r (List.mem_cons_of_mem _ hr)⟩

/-- The model's checks of record `n` of an image. -/
def ownChecks (id : TableId) (m : List Byte) (n : Nat) : List (CheckName × Bool) :=
  match id with
  | .site => siteChecks m
  | .sector => sectorChecks m (12 * n)
  | .carrier => carrierChecks m (8 * n)
  | .port => portChecks m (48 * n)
  | .response => responseChecks m n

theorem zipIdx_map_range {α : Type} (f : Nat → α) (n : Nat) :
    ((List.range n).map f).zipIdx = (List.range n).map fun i => (f i, i) := by
  refine List.ext_getElem (by simp) fun i hi hj => ?_
  simp

theorem ownCheck_eq (id : TableId) (m : List Byte) : ownCheck id m =
    (List.range id.records).findSome? fun n => (firstFailure (ownChecks id m n)).map fun c => (c, n) := by
  have hrecords : ownCheck id m = ((((List.range id.records).map (ownChecks id m)).zipIdx.filterMap fun (cs, n) =>
      (firstFailure cs).map fun c => (c, n)).head?) := by
    cases id <;> rfl
  rw [hrecords, zipIdx_map_range, List.head?_filterMap, List.findSome?_map]
  rfl

theorem findSome?_range_some {β : Type} {f : Nat → Option β} {b : β} (N : Nat) :
    (List.range N).findSome? f = some b ↔ ∃ n < N, f n = some b ∧ ∀ k < n, f k = none := by
  induction N with
  | zero => simp
  | succ N ih =>
    rw [List.range_succ, List.findSome?_append, List.findSome?_singleton, Option.or_eq_some_iff, ih, List.findSome?_eq_none_iff]
    simp only [List.mem_range]
    constructor
    · rintro (⟨n, hn, hf, hlow⟩ | ⟨hlow, hf⟩)
      · exact ⟨n, Nat.lt_succ_of_lt hn, hf, hlow⟩
      · exact ⟨N, Nat.lt_succ_self N, hf, hlow⟩
    · rintro ⟨n, hn, hf, hlow⟩
      rcases Nat.lt_or_eq_of_le (Nat.le_of_lt_succ hn) with hn | rfl
      · exact .inl ⟨n, hn, hf, hlow⟩
      · exact .inr ⟨hlow, hf⟩

theorem byteAt_le (m : List Byte) (i : Nat) : byteAt m i ≤ 255 := Nat.le_of_lt_succ (BitVec.isLt _)

theorem inRange_iff {lo hi v : Nat} : inRange lo hi v = true ↔ lo ≤ v ∧ v ≤ hi := by
  simp only [inRange, Bool.and_eq_true, decide_eq_true_eq]

theorem site_agrees (m : List Byte) (n : Nat) : List.Forall₂ CheckName.agrees (siteChecks m) (ownRules .site m n) := by
  have hrates (k : Nat) : k ∈ [4, 5, 6, 7] ↔ 4 ≤ k ∧ k ≤ 7 := by
    simp only [List.mem_cons, List.not_mem_nil, or_false]
    omega
  have hpads (k : Nat) : k ∈ [11, 12, 13, 14, 15] ↔ 11 ≤ k ∧ k ≤ 15 := by
    simp only [List.mem_cons, List.not_mem_nil, or_false]
    omega
  refine .cons ⟨rfl, ?_⟩ (.cons ⟨rfl, ?_⟩ .nil)
  · simp only [inRange_iff, Bool.and_eq_true, List.all_eq_true, hrates, and_imp, Nat.zero_le, true_and, byteAt_le, and_true,
      and_assoc]
  · simp only [List.all_eq_true, hpads, and_imp, beq_iff_eq]

theorem sector_agrees (m : List Byte) (n : Nat) :
    List.Forall₂ CheckName.agrees (sectorChecks m (12 * n)) (ownRules .sector m n) := by
  refine .cons ⟨rfl, ?_⟩ (.cons ⟨rfl, ?_⟩ (.cons ⟨rfl, ?_⟩ (.cons ⟨rfl, ?_⟩ .nil)))
  · simp only [inRange_iff, Bool.and_eq_true, Nat.zero_le, true_and, and_assoc]
  · exact beq_iff_eq
  · exact decide_eq_true_iff
  · exact decide_eq_true_iff

theorem carrier_agrees (m : List Byte) (n : Nat) :
    List.Forall₂ CheckName.agrees (carrierChecks m (8 * n)) (ownRules .carrier m n) := by
  refine .cons ⟨rfl, ?_⟩ .nil
  simp only [inRange_iff, Bool.and_eq_true, Nat.zero_le, true_and, and_assoc]

theorem response_agrees (m : List Byte) (n : Nat) :
    List.Forall₂ CheckName.agrees (responseChecks m n) (ownRules .response m n) := by
  refine .cons ⟨rfl, ?_⟩ (.cons ⟨rfl, ?_⟩ (.cons ⟨rfl, ?_⟩ .nil))
  · have hparam (v : Nat) : paramInRange n v = true ↔ (n = 1 → 1 ≤ v ∧ v ≤ 16000) ∧ (n = 3 → 1 ≤ v ∧ v ≤ 255)
        ∧ (n = 4 → 1 ≤ v ∧ v ≤ 3600) ∧ (n ≠ 1 → n ≠ 3 → n ≠ 4 → v = 0) := by
      unfold paramInRange
      split <;> simp_all [inRange_iff]
    simp only [inRange_iff, Bool.and_eq_true, hparam, Nat.zero_le, true_and, byteAt_le, and_true, and_assoc]
  · simp only [Bool.and_eq_true, beq_iff_eq]
  · simp only [Bool.or_eq_true, bne_iff_ne, Bool.and_eq_true, decide_eq_true_eq, beq_iff_eq]
    omega

theorem forall_lt_three {P : Nat → Prop} : (∀ k < 3, P k) ↔ P 0 ∧ P 1 ∧ P 2 := by
  simp only [Nat.forall_lt_succ_right, Nat.not_lt_zero, false_imp_iff, implies_true, true_and, and_assoc]

theorem forall_lt_four {P : Nat → Prop} : (∀ k < 4, P k) ↔ P 0 ∧ P 1 ∧ P 2 ∧ P 3 := by
  simp only [Nat.forall_lt_succ_right, Nat.not_lt_zero, false_imp_iff, implies_true, true_and, and_assoc]

theorem forall_pairs_below_three {P : Nat → Nat → Prop} :
    (∀ j k, j < k → k < 3 → P j k) ↔ P 0 1 ∧ P 0 2 ∧ P 1 2 := by
  refine ⟨fun h => ⟨h 0 1 (by decide) (by decide), h 0 2 (by decide) (by decide), h 1 2 (by decide) (by decide)⟩, ?_⟩
  rintro ⟨h01, h02, h12⟩ j k hjk hk
  obtain ⟨rfl, rfl⟩ | ⟨rfl, rfl⟩ | ⟨rfl, rfl⟩ : j = 0 ∧ k = 1 ∨ j = 0 ∧ k = 2 ∨ j = 1 ∧ k = 2 := by omega
  · exact h01
  · exact h02
  · exact h12

theorem port_agrees (m : List Byte) (n : Nat) :
    List.Forall₂ CheckName.agrees (portChecks m (48 * n)) (ownRules .port m n) := by
  refine .cons ⟨rfl, ?_⟩ (.cons ⟨rfl, ?_⟩ (.cons ⟨rfl, ?_⟩ .nil))
  · simp only [laneGroupInRange, inRange_iff, Bool.and_eq_true, Bool.or_eq_true, decide_eq_true_eq, beq_iff_eq, List.all_cons,
      List.all_nil, forall_lt_three, forall_lt_four, Nat.zero_le, true_and, byteAt_le, and_true, Nat.add_assoc, Nat.reduceAdd,
      Nat.reduceMul, Nat.add_zero]
    constructor <;> intro h <;> simp only [h, and_self]
  · exact beq_iff_eq
  · simp only [alternatesPass, Bool.and_eq_true, Bool.or_eq_true, bne_iff_ne, beq_iff_eq, forall_lt_three, Nat.add_assoc,
      Nat.reduceAdd]
    rw [forall_pairs_below_three (P := fun j k =>
      (byteAt m (48 * n + (2 + j)) = byteAt m (48 * n + (2 + k)) → byteAt m (48 * n + (2 + j)) = 255)
      ∧ (byteAt m (48 * n + (2 + j)) = 255 → byteAt m (48 * n + (2 + k)) = 255))]
    simp only [Nat.reduceAdd]
    omega

theorem own_agrees (id : TableId) (m : List Byte) (n : Nat) :
    List.Forall₂ CheckName.agrees (ownChecks id m n) (ownRules id m n) := by
  cases id
  case site => exact site_agrees m n
  case sector => exact sector_agrees m n
  case carrier => exact carrier_agrees m n
  case port => exact port_agrees m n
  case response => exact response_agrees m n

/-! ## LOAD_END -/

theorem judgeLoad_eq (h : Hub) : (h.judgeLoad.1, h.judgeLoad.2.map Why.code) =
    match h.tld.firstError with
    | some (burst, kind) => (LoadOutcome.failed burst kind, some 1)
    | none =>
      if h.tld.received < h.tld.declared then (.length h.tld.received, some 8)
      else if 0 < h.tld.burstCells then (.unchecked (h.tld.burstsClosed + 1), some 1)
      else match ownCheck h.tld.table h.tld.image, h.inService, crossCheck (h.tld.tables.put h.tld.table h.tld.image) with
        | some (check, idx), _, _ => (.rejected check idx, some 1)
        | none, true, some (check, idx) => (.rejected check idx, some 7)
        | none, _, _ => (.scheduled, none) := by
  unfold Hub.judgeLoad
  dsimp only
  cases h.tld.firstError with
  | some e => rfl
  | none =>
    by_cases hl : h.tld.received < h.tld.declared
    · simp only [if_pos hl]
      rfl
    by_cases hb : 0 < h.tld.burstCells
    · simp only [if_neg hl, if_pos hb]
      rfl
    simp only [if_neg hl, if_neg hb]
    cases ownCheck h.tld.table h.tld.image with
    | some x => rfl
    | none =>
      cases h.inService
      · rfl
      · cases crossCheck (h.tld.tables.put h.tld.table h.tld.image) with
        | none => rfl
        | some x => rfl

theorem actLoadEnd_eq {h : Hub} {c : Cell} (hp : h.tld.phase ≠ .none) : h.actLoadEnd c =
    let o := h.judgeLoad.1
    let report := h.tld.endReport o
    let r := match h.judgeLoad.2.map Why.code with
      | none => okResponse c.tag report
      | some w => badResponse c.tag .refused w report
    { h with
      mga := { h.mga with responses := h.mga.responses ++ [r] }.raised .load
      tld := { h.tld with
        phase := .none, image := []
        last := some { table := h.tld.table, outcome := o, stamp := h.mga.seconds }
        scheduled := if o = .scheduled then some (h.tld.table, h.tld.image) else h.tld.scheduled
        scheduledRipe := if o = .scheduled then false else h.tld.scheduledRipe } } := by
  unfold Hub.actLoadEnd
  rw [if_neg hp]
  generalize h.judgeLoad = j
  obtain ⟨o, why⟩ := j
  cases why with
  | none => rfl
  | some w => rfl

end Sys2Proof.Machine

namespace Sys2Proof
open Machine

/-- Settles O45. -/
theorem enterServiceIsJudged : Obligations.EnterServiceIsJudged := by
  refine ⟨?_, fun t => ?_, fun t check i => ?_⟩
  · intro c rest s h answered refused ho
    by_cases hs : h.inService = true
    · rw [if_pos hs]
      exact asked_next ho (if_pos hs)
    rw [if_neg hs]
    by_cases hd : h.tld.scheduled.isSome = true
    · rw [if_pos hd]
      exact asked_next ho ((if_neg hs).trans ((if_pos hd).trans (respond_eq (by decide) _ _ _ _)))
    rw [if_neg hd]
    obtain ⟨hloads, hcross⟩ := actEnterService_judged (h := h.asked rest) (c := c) hs hd
    have hmissing {id : TableId} (hn : h.tld.notLoaded = some id) :
        exec .enterService s = answered (badResponse c.tag .refused 6 [id.code]) :=
      asked_next ho ((hloads id hn).trans (respond_eq (by decide) _ _ _ _))
    have hload := notLoaded_eq h.tld
    by_cases hc : h.tld.carrierLoaded = false
    · rw [if_pos hc] at hload ⊢
      exact hmissing hload
    rw [if_neg hc] at hload ⊢
    by_cases hsec : h.tld.sectorLoaded = false
    · rw [if_pos hsec] at hload ⊢
      exact hmissing hload
    rw [if_neg hsec] at hload ⊢
    by_cases hp : h.tld.portLoaded = false
    · rw [if_pos hp] at hload ⊢
      exact hmissing hload
    rw [if_neg hp] at hload ⊢
    obtain ⟨hfails, hpasses⟩ := hcross hload
    cases hx : crossCheck h.tables with
    | none => exact asked_next ho (hpasses hx)
    | some x =>
      obtain ⟨check, idx⟩ := x
      exact asked_next ho ((hfails check idx hx).trans (respond_eq (by decide) _ _ _ _))
  · rw [crossCheck_eq, List.findSome?_eq_none_iff]
    simp only [Option.map_eq_none_iff, (firstCross_iff t _).2]
  · rw [crossCheck_eq, List.findSome?_eq_some_iff]
    simp only [Option.map_eq_some_iff, Option.map_eq_none_iff, Prod.mk.injEq, (firstCross_iff t _).1, (firstCross_iff t _).2]
    constructor
    · rintro ⟨before, _, after, horder, ⟨_, ⟨hfails, hlow⟩, rfl, rfl⟩, hbefore⟩
      exact ⟨hfails, hlow, before, after, horder, hbefore⟩
    · rintro ⟨hfails, hlow, before, after, horder, hbefore⟩
      exact ⟨before, check, after, horder, ⟨i, ⟨hfails, hlow⟩, rfl, rfl⟩, hbefore⟩

/-- Settles O39. -/
theorem loadEndJudgesTheLoad : Obligations.LoadEndJudgesTheLoad := by
  refine ⟨?_, fun id m => ?_, fun id m check n => ?_⟩
  · intro c rest s h d own cross ho
    refine ⟨fun hp => asked_next ho ((if_pos hp).trans (respond_eq (by decide) _ _ _ _)), fun hp o why hj => ?_⟩
    have hjudge := (judgeLoad_eq (h.asked rest)).trans hj.symm
    obtain ⟨ho', hw⟩ := Prod.mk.inj hjudge
    refine asked_next ho ((actLoadEnd_eq (h := h.asked rest) hp).trans ?_)
    rw [ho', hw]
    rfl
  · rw [ownCheck_eq, List.findSome?_eq_none_iff]
    simp only [List.mem_range, Option.map_eq_none_iff, (firstFailure_iff (own_agrees id m _)).1]
    rfl
  · rw [ownCheck_eq, findSome?_range_some]
    simp only [Option.map_eq_some_iff, Option.map_eq_none_iff, Prod.mk.injEq, (firstFailure_iff (own_agrees id m _)).1,
      (firstFailure_iff (own_agrees id m _)).2]
    constructor
    · rintro ⟨n, hn, ⟨_, hrule, rfl, rfl⟩, hlow⟩
      exact ⟨hn, hlow, hrule⟩
    · rintro ⟨hn, hlow, hrule⟩
      exact ⟨n, hn, ⟨check, hrule, rfl, rfl⟩, hlow⟩

end Sys2Proof
end

section
/-! RESTART (O47). -/

namespace Sys2Proof.Machine

/-- The hub at a RESTART, before LOAD is raised of a load that it ends (R173). -/
def Hub.restarted (h : Hub) : Hub :=
  ({ Hub.init with
    lnk := h.lnk.restart h.tables
    mga := h.mga.restart
    tld := h.tld.restart
    frame := h.frame
    bd := { h.bd with limiterDone := true, deqDone := true, rampDue := false, abandonDue := false } } : Hub).carrierActivated

theorem restart_eq (h : Hub) : h.restart =
    { h.restarted with mga := { h.mga.restart with
      marks := if h.tld.phase = .none then Mga.init.marks else (h.mga.restart.raised .load).marks } } := by
  unfold Hub.restart
  dsimp only
  by_cases hp : h.tld.phase = .none
  · rw [if_neg (fun hn => hn hp), if_pos hp]
    rfl
  · rw [if_pos hp, if_neg hp]
    rfl

theorem restartEffect_eq {h : Hub} (hb : h.mga.busy = some .restart) (hr : h.mga.busyRipe = true) :
    h.restartEffect = h.restart := by
  unfold Hub.restartEffect
  rw [hb]
  exact if_pos hr

theorem restart_remote (l : Lnk) (t : Tables) (p : PortId) : (l.restart t).remote[p] =
    { RemoteLink.init .disabled false with core := (l.remote[p].core).restart (t.portOn p) } := by
  rw [Lnk.restart, tab_get]

theorem restart_donor (l : Lnk) (t : Tables) (d : DonorId) : (l.restart t).donor[d] = (l.donor[d]).restart true := by
  rw [Lnk.restart, mapTab_get]

/-- No donor is UP at a RESTART, so every enabled carrier is LOST (R37). -/
theorem restarted_carriers (h : Hub) (k : CarrierId) :
    h.restarted.dlc.carriers[k] = if h.tables.carrierOn k then .lost else .absent := by
  have hdonor : ((h.lnk.restart h.tables).donor[carrierDonor k]).state ≠ .up := by
    rw [restart_donor]
    unfold LinkCore.restart LinkCore.start LinkCore.init
    dsimp only
    split_ifs <;> decide
  refine (tab_get _ k).trans ?_
  unfold Hub.carrierStateNow
  cases hk : h.tables.carrierOn k
  · exact (if_pos (congrArg Bool.not hk)).trans (if_neg (by decide)).symm
  · exact (if_neg (ne_true_of_eq_false (congrArg Bool.not hk))).trans ((if_pos hdonor).trans (if_pos rfl).symm)

theorem restart_core (h : Hub) (l : LinkId) : h.restarted.core l =
    { state := (h.restarted.core l).state, signal := (h.core l).signal, good := 0, bad := 0, cand := none, last := none
      errored := 0, slips := 0, drops := 0, handed := (h.core l).handed, arrival := none
      verdict := none, samples := [] } := by
  have hcore : ∃ enabled, h.restarted.core l = (h.core l).restart enabled := by
    cases l with
    | remote p => exact ⟨_, congrArg RemoteLink.core (restart_remote h.lnk h.tables p)⟩
    | donor d => exact ⟨_, restart_donor h.lnk h.tables d⟩
    | trunk => exact ⟨_, rfl⟩
  obtain ⟨enabled, hcore⟩ := hcore
  rw [hcore]
  rfl

theorem restarted_remote (h : Hub) (p : PortId) : h.restarted.lnk.remote[p] =
    { core := h.restarted.core (.remote p), mask := 0, erroredSec := 0, delay := 0, lastRT := 0, rtRange := false
      meas := { running := false, origin := .entry, taken := 0, minimum := none, elapsed := 0 } } := by
  have hremote := restart_remote h.lnk h.tables p
  have hcore : h.restarted.core (.remote p) = (h.lnk.remote[p].core).restart (h.tables.portOn p) :=
    congrArg RemoteLink.core hremote
  rw [hcore]
  exact hremote

end Sys2Proof.Machine

namespace Sys2Proof
open Machine

/-- Settles O47. -/
theorem restartReturnsToPowerOn : Obligations.RestartReturnsToPowerOn := by
  refine ⟨fun c rest s ho => asked_next ho rfl, ?_⟩
  intro s h hb hr
  have hlink (p : PortId) : (h.lnk.restart h.tables).remote[p].core.state = if h.tables.portOn p = false then .disabled
      else if h.lnk.remote[p].core.signal then .hunt else .down := by
    rw [restart_remote]
    cases h.tables.portOn p <;> rfl
  refine ⟨_, next_congr ((restartEffect_eq hb hr).trans (restart_eq h)), rfl, rfl, rfl, rfl, rfl, rfl, rfl, rfl, rfl, rfl,
    fun n => ?_, rfl, rfl, fun l => ?_, fun p => ?_, fun p => ⟨hlink p, ?_, ?_, ?_⟩, fun d => ?_, ?_, restarted_carriers h, rfl,
    rfl, rfl, rfl, rfl, rfl, rfl, rfl, rfl, rfl, rfl⟩
  · refine (congrArg (fun v : Vector Bool 7 => v[n.idx]) (if_congr Iff.rfl rfl rfl)).trans ?_
    have hinit : Mga.init.marks[n.idx] = false := replicate_get ..
    by_cases hp : h.tld.phase = .none
    · rw [if_pos hp, hinit]
      exact (decide_eq_false fun hc => hc.2 hp).symm
    · rw [if_neg hp, Bool.eq_iff_iff, Mga.marked_raised h.mga.restart .load n, decide_eq_true_iff, and_iff_left hp]
      exact or_iff_right (by rw [show h.mga.restart.marks[n.idx] = false from hinit]; decide)
  · exact restart_core h l
  · exact restarted_remote h p
  · exact congrArg RemoteLink.mask (restart_remote h.lnk h.tables p)
  · exact congrArg RemoteLink.delay (restart_remote h.lnk h.tables p)
  · exact congrArg (fun r : RemoteLink => r.meas.running) (restart_remote h.lnk h.tables p)
  · exact congrArg LinkCore.state (restart_donor h.lnk h.tables d)
  · rfl

end Sys2Proof
end

section
/-! RECEIVE_FRAME on an aligned link (O21). -/

namespace Sys2Proof.Machine

/-! ## The frame that a stretch completes -/

/-- The marker's instant is counted back from that of the stretch, a fraction dropped (R4, R17). -/
theorem splice_instant {l : LinkId} {b a : Arrival} {pos : Nat} (hi : a.instant < 256) :
    let k := (pos + 8 * frameLength l - a.pos) % (8 * frameLength l)
    (splice l b a pos).instant < 256
    ∧ ∃ back : Nat, (8 * frameLength l - k) * 256 ≤ back * (8 * frameLength l)
      ∧ back * (8 * frameLength l) < (8 * frameLength l - k) * 256 + 8 * frameLength l
      ∧ 256 * (splice l b a pos).framesAgo + a.instant = 256 * a.framesAgo + (splice l b a pos).instant + back := by
  unfold splice
  dsimp only
  have hpos : 0 < 8 * frameLength l := by unfold frameLength; omega
  generalize 8 * frameLength l = period at hpos ⊢
  generalize (pos + period - a.pos) % period = k
  have hk : period - k ≤ period := Nat.sub_le _ _
  generalize period - k = n at hk ⊢
  have hdiv := Nat.div_add_mod (n * 256 + period - 1) period
  have hmod := Nat.mod_lt (n * 256 + period - 1) hpos
  have hle : (n * 256 + period - 1) / period ≤ 256 := by
    rw [Nat.div_le_iff_le_mul hpos]
    omega
  rw [Nat.mul_comm] at hdiv
  generalize (n * 256 + period - 1) / period = back at hdiv hle ⊢
  refine ⟨by split <;> omega, back, by omega, by omega, ?_⟩
  split <;> omega

theorem framesAgo_cut {c : LinkCore} {l : LinkId} {a : Arrival} (ha : a.framesAgo ≤ 1) : (c.cut l a).framesAgo ≤ 2 := by
  have hsplice (b : Arrival) (pos : Nat) : (splice l b a pos).framesAgo ≤ 2 := by
    unfold splice
    dsimp only
    split <;> omega
  unfold LinkCore.cut
  split
  · split
    · exact hsplice _ _
    · exact ha.trans (by decide)
  · exact ha.trans (by decide)

theorem foundAt_eq {number : BitVec 8} {a : Arrival} (ha : a.framesAgo ≤ 2) :
    foundAt number a = 256 * ((number.toNat + 511 - a.framesAgo) % 256) + a.instant := by
  unfold foundAt instantCount
  have hf : (BitVec.ofNat 8 a.framesAgo).toNat = a.framesAgo := Nat.mod_eq_of_lt (by omega)
  have hn : (number - 1 - BitVec.ofNat 8 a.framesAgo).toNat = (number.toNat + 511 - a.framesAgo) % 256 := by
    rw [BitVec.toNat_sub, BitVec.toNat_sub, hf]
    have := number.isLt
    have hone : (1 : BitVec 8).toNat = 1 := rfl
    omega
  rw [hn]

theorem roundTrip_eq (found : Nat) (bs : List Byte) : roundTrip found bs =
    let rt := (((found : Int) - 256 * byteAt bs 6 - byteAt bs 7) % 65536).toNat
    (min rt 4095, decide (4095 < rt)) := by
  unfold roundTrip
  dsimp only
  generalize (((found : Int) - 256 * byteAt bs 6 - byteAt bs 7) % 65536).toNat = rt
  by_cases hr : 4095 < rt
  · rw [if_pos hr, decide_eq_true hr, Nat.min_eq_right (Nat.le_of_lt hr)]
  · rw [if_neg hr, decide_eq_false hr, Nat.min_eq_left (Nat.not_lt.mp hr)]

theorem take_eq {m : Measurement} (hm : m.taken < 4) (rt : Nat × Bool) : m.take rt = { m with
    taken := m.taken + 1
    minimum := match m.minimum with
      | none => some rt
      | some (least, out) =>
        if rt.1 < least then some rt
        else if rt.1 = least then some (least, out && rt.2)
        else some (least, out) } := by
  unfold Measurement.take
  dsimp only
  rw [show bump 4 m.taken = m.taken + 1 from Nat.min_eq_left hm]
  refine congrArg (fun x => { m with taken := m.taken + 1, minimum := x }) ?_
  cases m.minimum with
  | none => rfl
  | some old =>
    obtain ⟨least, out⟩ := old
    dsimp only
    split_ifs <;> rfl

/-! ## What a frame of one link leaves alone -/

/-- Nothing but what a frame of link `l` may change differs: the link itself, the engine's and the detectors' state of
its port, and the cell of the trunk (R5, R11 to R13). -/
structure Hub.Delivers (l : LinkId) (h g : Hub) : Prop where
  cores : ∀ m : LinkId, m ≠ l → g.core m = h.core m
  ports : ∀ p : PortId, l ≠ .remote p → g.lnk.remote[p] = h.lnk.remote[p]
    ∧ g.cte.ports[p] = h.cte.ports[p] ∧ g.fsv.detectors[p] = h.fsv.detectors[p]
  kept : ∀ p : PortId, g.lnk.remote[p].mask = h.lnk.remote[p].mask ∧ g.lnk.remote[p].delay = h.lnk.remote[p].delay
  hub : g = { h with
    lnk := { h.lnk with remote := g.lnk.remote, donor := g.lnk.donor, trunk := g.lnk.trunk }
    fsv := { h.fsv with detectors := g.fsv.detectors }
    cte := { h.cte with ports := g.cte.ports }
    mga := g.mga }

theorem Hub.Delivers.trans {l : LinkId} {a b c : Hub} (x : a.Delivers l b) (y : b.Delivers l c) : a.Delivers l c where
  cores m hm := (y.cores m hm).trans (x.cores m hm)
  ports p hp := by
    obtain ⟨hr, hc, hd⟩ := y.ports p hp
    obtain ⟨hr', hc', hd'⟩ := x.ports p hp
    exact ⟨hr.trans hr', hc.trans hc', hd.trans hd'⟩
  kept p := ⟨(y.kept p).1.trans (x.kept p).1, (y.kept p).2.trans (x.kept p).2⟩
  hub := by
    have hx := x.hub
    have hy := y.hub
    rw [hy, hx]

theorem delivers_onCore (h : Hub) (l : LinkId) (f : LinkCore → LinkCore) : h.Delivers l (h.onCore l f) := by
  refine ⟨fun m hm => Hub.onCore_core_other h f (Ne.symm hm), fun p hp => ⟨?_, ?_, ?_⟩, fun p => ?_, ?_⟩
  · cases l with
    | remote q => exact upd_get_other _ _ fun hq => hp (congrArg LinkId.remote hq)
    | donor d => rfl
    | trunk => rfl
  · cases l <;> rfl
  · cases l <;> rfl
  · cases l with
    | remote q =>
      refine ⟨?_, ?_⟩ <;> simp only [Hub.onCore, Hub.onRemote, upd_get] <;> split <;> rfl
    | donor d => exact ⟨rfl, rfl⟩
    | trunk => exact ⟨rfl, rfl⟩
  · cases l <;> rfl

theorem delivers_deliver (h : Hub) (l : LinkId) (a : Arrival) : h.Delivers l (h.deliver l a) := by
  cases l with
  | remote p =>
    rw [deliver_remote]
    refine ⟨fun m hm => ?_, fun q hq => ⟨?_, ?_, ?_⟩, fun q => ?_, rfl⟩
    · cases m with
      | remote q => exact congrArg RemoteLink.core (upd_get_other _ _ fun hq => hm (congrArg LinkId.remote hq.symm))
      | donor d => rfl
      | trunk => rfl
    · exact upd_get_other _ _ fun hqp => hq (congrArg LinkId.remote hqp)
    · exact upd_get_other _ _ fun hqp => hq (congrArg LinkId.remote hqp)
    · exact upd_get_other _ _ fun hqp => hq (congrArg LinkId.remote hqp)
    · refine ⟨?_, ?_⟩ <;> simp only [upd_get] <;> split <;> rfl
  | donor d => exact deliver_donor h d a ▸ delivers_onCore h (.donor d) _
  | trunk =>
    rw [deliver_trunk]
    exact (delivers_onCore h .trunk fun c => c.delivered .trunk (verdictOf .trunk c.cand a) a).trans
      ⟨fun _ _ => rfl, fun _ _ => ⟨rfl, rfl, rfl⟩, fun _ => ⟨rfl, rfl⟩, rfl⟩

/-- The delivery of an ERRORED frame of a remote port (R13, R139). -/
theorem deliver_remote_errored {h : Hub} {p : PortId} {a : Arrival}
    (hv : verdictOf (.remote p) h.lnk.remote[p].core.cand a = .errored) :
    let g := h.deliver (.remote p) a
    g.lnk.remote[p] = { h.lnk.remote[p] with
      core := g.core (.remote p), erroredSec := min (h.lnk.remote[p].erroredSec + 1) 16000 }
    ∧ g.fsv.detectors[p] = { h.fsv.detectors[p] with
      crcDue := h.fsv.detectors[p].crcDue
        || decide (h.tables.param (FaultKey.row (.port p .crcRate)) ≤ g.lnk.remote[p].erroredSec) }
    ∧ g.cte = h.cte ∧ g.mga = h.mga := by
  rw [deliver_remote]
  simp only [Hub.core, hv, reduceCtorEq, if_true, if_false, false_and, true_and, decide_false, Bool.or_false, upd_get_same]
  rw [upd_same (v := h.cte.ports) rfl]
  exact ⟨rfl, trivial⟩

/-- The delivery of a GOOD frame of a remote port (R11, R12, R18). -/
theorem deliver_remote_good {h : Hub} {p : PortId} {a : Arrival}
    (hv : verdictOf (.remote p) h.lnk.remote[p].core.cand a = .good) :
    let g := h.deliver (.remote p) a
    let m := h.lnk.remote[p].meas
    g.cte.ports[p] = { h.cte.ports[p] with
      field := some (controlPart (.remote p) a.bytes)
      pending := h.cte.ports[p].pending
        || (decide (h.linkOf p = .up ∧ headerMask a.bytes ≠ h.lnk.remote[p].mask)
          && !h.cte.transaction.any fun x => x.port = p ∧ x.kind = .identify) }
    ∧ g.fsv = h.fsv
    ∧ g.lnk.remote[p] = { h.lnk.remote[p] with
      core := g.core (.remote p)
      meas := if m.running = true ∧ 0 < m.elapsed ∧ m.taken < 4 ∧ echoPresent a.bytes = true
        then m.take (roundTrip (foundAt h.lnk.frameNumber a) a.bytes) else m }
    ∧ g.mga = h.mga := by
  rw [deliver_remote]
  simp only [Hub.core, hv, reduceCtorEq, if_true, if_false, false_and, true_and, decide_false, Bool.or_false, upd_get_same]
  rw [upd_same (v := h.fsv.detectors) rfl]
  refine ⟨?_, rfl, trivial⟩
  congr 2
  simp only [Hub.isUp, Bool.decide_and, Bool.decide_eq_true, Bool.decide_eq_false, Bool.and_assoc]

/-- What the delivery of the frame `a` does by its verdict, with the stretch `newest` noted (R5, R11 to R13, R18, R139). -/
theorem deliver_verdicts {h g : Hub} {l : LinkId} {newest a : Arrival}
    (hg : g = (h.onCore l fun c => { c with handed := true, last := some newest }).deliver l a) :
    let c := h.core l
    (markerGood a.bytes = false ∨ c.cand ≠ some a.pos → g = h.onCore l fun c =>
      { c with handed := true, last := some newest, bad := min (c.bad + 1) 8, verdict := some .slipped, samples := []
               slips := min (c.slips + 1) (2 ^ 32 - 1) })
    ∧ (¬ (markerGood a.bytes = false ∨ c.cand ≠ some a.pos) → crcMatches l a.bytes = false →
      g.core l = { c with handed := true, last := some newest, bad := 0, verdict := some .errored, samples := []
                          errored := min (c.errored + 1) (2 ^ 32 - 1) }
      ∧ (∀ p : PortId, l = .remote p →
        g.lnk.remote[p] = { h.lnk.remote[p] with
          core := g.core l, erroredSec := min (h.lnk.remote[p].erroredSec + 1) 16000 }
        ∧ g.fsv.detectors[p] = { h.fsv.detectors[p] with
          crcDue := h.fsv.detectors[p].crcDue
            || decide (h.tables.param (FaultKey.row (.port p .crcRate)) ≤ g.lnk.remote[p].erroredSec) }
        ∧ g.cte = h.cte)
      ∧ g.mga = h.mga)
    ∧ (¬ (markerGood a.bytes = false ∨ c.cand ≠ some a.pos) → crcMatches l a.bytes = true →
      g.core l = { c with handed := true, last := some newest, bad := 0, verdict := some .good
                          samples := if l = .trunk then [] else payloadSamples (payloadPart l a.bytes) }
      ∧ (∀ p : PortId, l = .remote p →
        let m := h.lnk.remote[p].meas
        g.cte.ports[p] = { h.cte.ports[p] with
          field := some (controlPart l a.bytes)
          pending := h.cte.ports[p].pending
            || (decide (h.linkOf p = .up ∧ headerMask a.bytes ≠ h.lnk.remote[p].mask)
              && !h.cte.transaction.any fun x => x.port = p ∧ x.kind = .identify) }
        ∧ g.fsv = h.fsv
        ∧ g.lnk.remote[p] = { h.lnk.remote[p] with
          core := g.core l
          meas := if m.running = true ∧ 0 < m.elapsed ∧ m.taken < 4 ∧ echoPresent a.bytes = true
            then m.take (roundTrip (foundAt h.lnk.frameNumber a) a.bytes) else m })
      ∧ g.mga = { h.mga with
          cell := if l = .trunk then some (cellOf (controlPart l a.bytes)) else h.mga.cell }) := by
  intro c
  have hremote (p : PortId) (hp : l = .remote p) :
      (h.onCore l fun c => { c with handed := true, last := some newest }).lnk.remote[p] =
        { h.lnk.remote[p] with core := { c with handed := true, last := some newest } } := by
    subst hp
    exact upd_get_same _ p _
  have hrest (f : LinkCore → LinkCore) : (h.onCore l f).cte = h.cte ∧ (h.onCore l f).fsv = h.fsv
      ∧ (h.onCore l f).mga = h.mga ∧ (h.onCore l f).tables = h.tables
      ∧ (h.onCore l f).lnk.frameNumber = h.lnk.frameNumber := by
    cases l <;> exact ⟨rfl, rfl, rfl, rfl, rfl⟩
  have hcore : (h.onCore l fun c => { c with handed := true, last := some newest }).core l =
      { c with handed := true, last := some newest } := Hub.onCore_core_same h l _
  have hgcore := hg ▸ deliver_core (h.onCore l fun c => { c with handed := true, last := some newest }) l a
  rw [hcore] at hgcore
  refine ⟨fun hc => ?_, fun hc hcrc => ?_, fun hc hcrc => ?_⟩
  · have hv : verdictOf l ((h.onCore l fun c => { c with handed := true, last := some newest }).core l).cand a = .slipped :=
      hcore ▸ if_pos hc
    rw [hg, deliver_eq, hv]
    exact onCore_onCore _ _ _ _
  · have hv : verdictOf l c.cand a = .errored := (if_neg hc).trans (if_neg (ne_true_of_eq_false hcrc))
    rw [show verdictOf l ({ c with handed := true, last := some newest } : LinkCore).cand a = .errored from hv] at hgcore
    refine ⟨hgcore, ?_, ?_⟩
    · rintro p rfl
      obtain ⟨hr, hd, hcte, -⟩ := deliver_remote_errored (a := a) (p := p)
        (h := h.onCore (.remote p) fun c => { c with handed := true, last := some newest }) (hremote p rfl ▸ hv)
      obtain ⟨hxcte, hxfsv, -, hxtables, -⟩ := hrest fun c => { c with handed := true, last := some newest }
      rw [← hg, hremote p rfl] at hr
      rw [← hg, hxfsv, hxtables] at hd
      rw [← hg, hxcte] at hcte
      exact ⟨hr, hd, hcte⟩
    · cases l with
      | remote p =>
        obtain ⟨-, -, -, hmga⟩ := deliver_remote_errored (a := a) (p := p)
          (h := h.onCore (.remote p) fun c => { c with handed := true, last := some newest }) (hremote p rfl ▸ hv)
        exact (congrArg Hub.mga hg).trans hmga
      | donor d => exact (congrArg Hub.mga (hg.trans (deliver_donor _ d a))).trans rfl
      | trunk =>
        refine (congrArg Hub.mga (hg.trans (deliver_trunk _ a))).trans ?_
        have hno : verdictOf .trunk
            (h.onCore .trunk fun c => { c with handed := true, last := some newest }).lnk.trunk.cand a ≠ .good :=
          ne_of_eq_of_ne hv (by decide)
        dsimp only
        rw [if_neg hno]
        rfl
  · have hv : verdictOf l c.cand a = .good := (if_neg hc).trans (if_pos hcrc)
    rw [show verdictOf l ({ c with handed := true, last := some newest } : LinkCore).cand a = .good from hv] at hgcore
    have hsamples : (if Verdict.good = .good ∧ l ≠ .trunk then payloadSamples (payloadPart l a.bytes) else []) =
        if l = .trunk then [] else payloadSamples (payloadPart l a.bytes) := by
      rw [← ite_not (l = .trunk)]
      exact if_congr (and_iff_right rfl) rfl rfl
    refine ⟨hgcore.trans (congrArg (fun x => { c with
      handed := true, last := some newest, bad := 0, verdict := some .good, samples := x }) hsamples), ?_, ?_⟩
    · rintro p rfl
      obtain ⟨hcte, hfsv, hr, -⟩ := deliver_remote_good (a := a) (p := p)
        (h := h.onCore (.remote p) fun c => { c with handed := true, last := some newest }) (hremote p rfl ▸ hv)
      obtain ⟨hxcte, hxfsv, -, -, hxn⟩ := hrest fun c => { c with handed := true, last := some newest }
      rw [← hg, hremote p rfl] at hr
      rw [hxn] at hr
      have hlink : (h.onCore (.remote p) fun c => { c with handed := true, last := some newest }).linkOf p = h.linkOf p :=
        (congrArg (fun r : RemoteLink => r.core.state) (hremote p rfl)).trans rfl
      rw [← hg, hlink, hremote p rfl, hxcte] at hcte
      exact ⟨hcte, (hg ▸ hfsv).trans hxfsv, hr⟩
    · cases l with
      | remote p =>
        obtain ⟨-, -, -, hmga⟩ := deliver_remote_good (a := a) (p := p)
          (h := h.onCore (.remote p) fun c => { c with handed := true, last := some newest }) (hremote p rfl ▸ hv)
        exact (congrArg Hub.mga hg).trans hmga
      | donor d => exact (congrArg Hub.mga (hg.trans (deliver_donor _ d a))).trans rfl
      | trunk =>
        refine (congrArg Hub.mga (hg.trans (deliver_trunk _ a))).trans ?_
        have hyes : verdictOf .trunk
            (h.onCore .trunk fun c => { c with handed := true, last := some newest }).lnk.trunk.cand a = .good := hv
        dsimp only
        rw [if_pos hyes]
        rfl

section Aligned
variable {h : Hub} {l : LinkId} (ha : (h.core l).state.aligned = true) (hh : (h.core l).handed = false)
include ha hh

theorem receiveFrame_of_aligned (done : List Arrival) : h.receiveFrame l done = match done.getLast? with
    | none => h.onCore l fun c => { c with handed := true, bad := bump 8 c.bad }
    | some newest => (h.onCore l fun c => { c with handed := true, last := some newest }).deliver l
        ({ h.core l with last := done.dropLast.getLast?.or (h.core l).last }.cut l newest) := by
  unfold Hub.receiveFrame
  rw [hh]
  simp only [Bool.false_eq_true, if_false, Hub.onCore_core_same]
  have hstate : (h.core l).state = .proving ∨ (h.core l).state = .up := by
    revert ha
    cases (h.core l).state <;> decide
  have hmatch (x y z w : Hub) : (match (h.core l).state with
      | .disabled => x
      | .down => y
      | .hunt => z
      | _ => w) = w := by
    rcases hstate with hs | hs <;> rw [hs]
  refine (hmatch _ _ _ _).trans ?_
  cases done.getLast? with
  | none => exact onCore_onCore _ _ _ _
  | some newest =>
    dsimp only
    rw [onCore_onCore]
    rfl

end Aligned

end Sys2Proof.Machine

namespace Sys2Proof
open Machine

/-- Settles O21. -/
theorem framesOfAnAlignedLink : Obligations.FramesOfAnAlignedLink := by
  constructor
  · intro l c a period
    refine ⟨cut_self, fun b pos hc hl hb hp hpos ha hi => ?_⟩
    intro k frame
    have hcut : frame = splice l b a pos := cut_splice hc hl hb hp
    obtain ⟨hinst, hback⟩ := splice_instant (l := l) (b := b) (pos := pos) hi
    clear_value frame
    subst hcut
    exact ⟨rfl, fun ha hb => bitsOf_splice hb ha, hinst, hback⟩
  · intro l done s h c before hal hh
    have heq := receiveFrame_of_aligned hal hh done
    cases hd : done.getLast? with
    | none =>
      rw [hd] at heq
      have hframe : h.Delivers l (h.receiveFrame l done) := by
        rw [heq]
        exact delivers_onCore h l _
      exact ⟨_, next_congr rfl, rfl, heq, hframe.cores, hframe.ports, hframe.kept, hframe.hub⟩
    | some newest =>
      rw [hd] at heq
      dsimp only at heq
      have hframe : h.Delivers l (h.receiveFrame l done) := by
        rw [heq]
        exact (delivers_onCore h l _).trans (delivers_deliver _ l _)
      refine ⟨_, next_congr rfl, rfl, ?_, hframe.cores, hframe.ports, hframe.kept, hframe.hub⟩
      dsimp only
      obtain ⟨hslip, herr, hgood⟩ := deliver_verdicts heq
      split
      case isTrue hc => exact hslip hc
      case isFalse hc =>
        split
        case isTrue hcrc => exact herr hc hcrc
        case isFalse hcrc =>
          obtain ⟨hcore, hremote, hmga⟩ := hgood hc (Bool.of_not_eq_false hcrc)
          refine ⟨hcore, fun p hp => ?_, hmga⟩
          obtain ⟨hcte, hfsv, hr⟩ := hremote p hp
          refine ⟨hcte, hfsv, fun hago _ => hr.trans ?_⟩
          refine congrArg (fun m => { h.lnk.remote[p] with core := (h.receiveFrame l done).core l, meas := m }) ?_
          refine if_ctx_congr Iff.rfl (fun hm => ?_) fun _ => rfl
          obtain ⟨-, -, htaken, -⟩ := hm
          have htrip := roundTrip_eq (foundAt h.lnk.frameNumber ({ h.core l with last := before }.cut l newest))
            ({ h.core l with last := before }.cut l newest).bytes
          rw [foundAt_eq (framesAgo_cut hago)] at htrip
          rw [foundAt_eq (framesAgo_cut hago)]
          exact (congrArg h.lnk.remote[p].meas.take htrip).trans (take_eq htaken _)

end Sys2Proof
end

section
/-! One port's presentations, clearings and detectors, and the same for the ports one after the other. -/

namespace Sys2Proof.Machine

/-! ## Folds over the ports -/

/-- What the turn of `j` makes of `out`, by what it sees, where the turns of the others leave both alone. -/
theorem foldl_out {σ γ ι : Type} [DecidableEq ι] {f : ι → σ → σ} {view out : σ → γ} (j : ι)
    (hview : ∀ i s, i ≠ j → view (f i s) = view s) (hout : ∀ i s, i ≠ j → out (f i s) = out s)
    (hj : ∀ s, out (f j s) = view s) (xs : List ι) (hn : xs.Nodup) (s : σ) :
    out (xs.foldl (fun t i => f i t) s) = if j ∈ xs then view s else out s := by
  induction xs generalizing s with
  | nil => rfl
  | cons x xs ih =>
    obtain ⟨hx, hn⟩ := List.nodup_cons.mp hn
    rw [List.foldl_cons, ih hn]
    by_cases hxj : x = j
    · subst hxj
      simp [hx, hj s]
    · have hjx : j ≠ x := Ne.symm hxj
      simp [hjx, hview x s hxj, hout x s hxj]

theorem each_out {σ γ : Type} {n : Nat} {f : Fin n → σ → σ} {view out : σ → γ} (j : Fin n)
    (hview : ∀ i s, i ≠ j → view (f i s) = view s) (hout : ∀ i s, i ≠ j → out (f i s) = out s)
    (hj : ∀ s, out (f j s) = view s) (s : σ) : out (each f s) = view s := by
  rw [each, foldl_out j hview hout hj _ (List.nodup_finRange n), if_pos (List.mem_finRange j)]

/-- What all turns keep. -/
theorem each_keep {σ γ : Type} {n : Nat} {f : Fin n → σ → σ} {out : σ → γ} (hout : ∀ i s, out (f i s) = out s) (s : σ) :
    out (each f s) = out s := by
  unfold each
  induction List.finRange n generalizing s with
  | nil => rfl
  | cons x xs ih => rw [List.foldl_cons, ih, hout]

/-- A reflexive and transitive relation that every turn keeps. -/
theorem each_rel {σ : Type} {n : Nat} {f : Fin n → σ → σ} {R : σ → σ → Prop} (hrefl : ∀ s, R s s)
    (htrans : ∀ {a b c}, R a b → R b c → R a c) (hf : ∀ i s, R s (f i s)) (s : σ) : R s (each f s) := by
  unfold each
  induction List.finRange n generalizing s with
  | nil => exact hrefl s
  | cons x xs ih => exact htrans (hf x s) (ih (f x s))

/-! ## What is done of one port -/

/-- What presentations, clearings, wakes and detectors of port `p` do: its detectors become `det` and its records `rec`,
with their effect, and nothing else changes. -/
structure Hub.Handled (p : PortId) (h g : Hub) (det : Detectors) (rec : PortClass → FaultRecord)
    (entries : List HistoryEntry) (woken : Option WakeCause) (raised : Notice → Prop) : Prop where
  hub : g = { h with fsv := g.fsv, sbl := g.sbl, mga := { h.mga with marks := g.mga.marks } }
  detectors : ∀ q : PortId, g.fsv.detectors[q] = if q = p then det else h.fsv.detectors[q]
  own : ∀ c : PortClass, g.faultRecord (.port p c) = rec c
  others : ∀ k : FaultKey, (∀ c, k ≠ .port p c) → g.faultRecord k = h.faultRecord k
  effect : h.Effect g entries (fun q => if q = p then woken else none) raised

namespace Hub.Handled

variable {p : PortId} {h g k : Hub} {d d' : Detectors} {r r' : PortClass → FaultRecord} {xs ys : List HistoryEntry}
  {w v : Option WakeCause} {P Q : Notice → Prop}

theorem trans (x : h.Handled p g d r xs w P) (y : g.Handled p k d' r' ys v Q) :
    h.Handled p k d' r' (xs ++ ys) (w.or v) fun n => P n ∨ Q n where
  hub := by
    have hx := x.hub
    have hy := y.hub
    rw [hy, hx]
  detectors q := by
    rw [y.detectors q, x.detectors q]
    split <;> rfl
  own := y.own
  others e he := (y.others e he).trans (x.others e he)
  effect := (x.effect.trans y.effect).congr rfl (fun q => by split <;> rfl) fun _ => Iff.rfl

theorem congr (x : h.Handled p g d r xs w P) (hd : d = d') (hr : ∀ c, r c = r' c) (hx : xs = ys) (hw : w = v)
    (hP : ∀ n, P n ↔ Q n) : h.Handled p g d' r' ys v Q := by
  obtain rfl : r = r' := funext hr
  subst hd hx hw
  exact { x with effect := x.effect.congr rfl (fun _ => rfl) hP }

theorem det (x : h.Handled p g d r xs w P) : g.fsv.detectors[p] = d := (x.detectors p).trans (if_pos rfl)

section
variable (x : h.Handled p g d r xs w P)
include x

theorem frame : g.frame = h.frame := (congrArg Hub.frame x.hub).trans rfl
theorem bd : g.bd = h.bd := (congrArg Hub.bd x.hub).trans rfl
theorem lvm : g.lvm = h.lvm := (congrArg Hub.lvm x.hub).trans rfl
theorem ulc : g.ulc = h.ulc := (congrArg Hub.ulc x.hub).trans rfl
theorem dlc : g.dlc = h.dlc := (congrArg Hub.dlc x.hub).trans rfl
theorem tables : g.tables = h.tables := (congrArg Hub.tables x.hub).trans rfl
theorem mga : g.mga = { h.mga with marks := g.mga.marks } := (congrArg Hub.mga x.hub).trans rfl
theorem seconds : g.mga.seconds = h.mga.seconds := (congrArg Mga.seconds x.mga).trans rfl

end

theorem isQuiet (x : h.Handled p g d r xs w P) (q : PortId) :
    g.isQuiet q = (h.isQuiet q && (if q = p then w else none).isNone) := isQuiet_of_supervises x.effect.supervises q

end Hub.Handled

theorem handled_nothing (h : Hub) (p : PortId) : h.Handled p h h.fsv.detectors[p] (fun c => h.faultRecord (.port p c)) [] none
    fun _ => False where
  hub := rfl
  detectors q := by
    split
    case isTrue hq => rw [hq]
    case isFalse => rfl
  own _ := rfl
  others _ _ := rfl
  effect := (Hub.Effect.same h).congr rfl (fun q => by split <;> rfl) fun _ => Iff.rfl

theorem handled_onDet (h : Hub) (p : PortId) (f : Detectors → Detectors) : h.Handled p (h.onDet p f)
    (f h.fsv.detectors[p]) (fun c => h.faultRecord (.port p c)) [] none fun _ => False where
  hub := rfl
  detectors q := (upd_get _ _ q f).trans (by
    split
    case isTrue hq => rw [if_pos hq.symm, hq]
    case isFalse hq => rw [if_neg (Ne.symm hq)])
  own _ := rfl
  others k _ := by cases k <;> rfl
  effect := (Hub.Effect.nothing (h := h) (g := h.onDet p f) rfl rfl rfl (fun _ => rfl) rfl rfl rfl).congr rfl
    (fun q => by split <;> rfl) fun _ => Iff.rfl

theorem handled_present (h : Hub) (p : PortId) (c : PortClass) :
    let k := FaultKey.port p c
    let r := h.faultRecord k
    let leaves := r.detects h.tables k.row = true ∧ r.state = .idle
    h.Handled p (h.present k) h.fsv.detectors[p]
      (fun e => if e = c then r.presented h.tables k.row else h.faultRecord (.port p e))
      (r.presentEntries h.tables k h.mga.seconds) (if leaves then some .fault else none)
      fun n => n = .fault ∧ r.enters h.tables k.row = true ∨ n = .quiet ∧ leaves ∧ h.isQuiet p = true := by
  intro k r leaves
  obtain ⟨hpres, hdets, hframes⟩ := present_spec h p c
  have heffect := present_effect h p c
  obtain ⟨hrec, -, -, hmga, -⟩ := hpres
  refine ⟨?_, fun q => ?_, fun e => ?_, fun e he => ?_, heffect.congr rfl (fun q => ?_) fun _ => Iff.rfl⟩
  · have hnew : h.present k = { h with fsv := (h.present k).fsv, sbl := (h.present k).sbl, mga := (h.present k).mga } := hframes
    exact hnew.trans (congrArg (fun m => { h with fsv := (h.present k).fsv, sbl := (h.present k).sbl, mga := m }) hmga)
  · rw [hdets]
    split
    case isTrue hq => rw [hq]
    case isFalse => rfl
  · rw [hrec]
    simp only [FaultKey.port.injEq, true_and, k, r]
  · rw [hrec, if_neg (he c)]
  · by_cases hq : q = p
    · rw [if_pos hq]
      exact if_congr (and_iff_right hq) rfl rfl
    · rw [if_neg hq]
      exact if_neg fun hc => hq hc.1

theorem handled_clear (h : Hub) (p : PortId) (c : PortClass) :
    let k := FaultKey.port p c
    h.Handled p (h.clearCondition k) h.fsv.detectors[p]
      (fun e => if e = c then (h.faultRecord k).cleared else h.faultRecord (.port p e))
      ((h.faultRecord k).clearEntries k h.mga.seconds) none fun _ => False := by
  intro k
  obtain ⟨hrec, -, hdets, he⟩ := clear_spec h k
  refine ⟨?_, fun q => ?_, fun e => ?_, fun e he => ?_, (clear_effect h k).congr rfl (fun q => ?_) fun _ => Iff.rfl⟩
  · rw [he]
  · rw [hdets]
    split
    case isTrue hq => rw [hq]
    case isFalse => rfl
  · rw [hrec]
    simp only [FaultKey.port.injEq, true_and, k]
  · rw [hrec, if_neg (he c)]
  · split <;> rfl

theorem supervises_wake (h : Hub) (p : PortId) (cause : WakeCause) :
    h.supervises (h.wakePort p cause) fun q => if q = p then some cause else none := by
  have ha (q : PortId) : (h.wakePort p cause).actions q = h.actions q := by
    rw [wakePort_eq]
    split <;> rfl
  have hbase := supervises_none (h := h) rfl fun _ => rfl
  unfold Hub.supervises at hbase ⊢
  simp only [ha] at hbase ⊢
  have hports : (h.wakePort p cause).sbl = { h.sbl with ports := (h.wakePort p cause).sbl.ports } := by
    rw [wakePort_eq]
    split <;> rfl
  refine hports.trans (congrArg₂ (fun v f => { h.sbl with ports := v, flight := f }) (Vector.ext fun i hi => ?_)
    (congrArg Sbl.flight hbase))
  rw [tab_getElem, wakePort_eq]
  by_cases hip : (⟨i, hi⟩ : PortId) = p
  · subst hip
    simp only [if_true]
    split
    case isTrue => simp [upd_getElem]
    case isFalse => rfl
  · have hne : p.val ≠ i := fun he => hip (Fin.ext he.symm)
    rw [if_neg hip]
    split
    case isTrue => simp [upd_getElem, hne]
    case isFalse => rfl

theorem handled_wake (h : Hub) (p : PortId) (cause : WakeCause) : h.Handled p (h.wakePort p cause) h.fsv.detectors[p]
    (fun c => h.faultRecord (.port p c)) [] (some cause) fun n => n = .quiet ∧ h.isQuiet p = true := by
  have hsup := supervises_wake h p cause
  generalize hg : h.wakePort p cause = g at hsup ⊢
  rw [wakePort_eq] at hg
  by_cases hq : h.isQuiet p = true
  · rw [if_pos hq] at hg
    have hrec (k : FaultKey) : g.faultRecord k = h.faultRecord k := by
      rw [← hg]
      cases k <;> rfl
    refine { handled_nothing h p with
      hub := ?_, detectors := fun q => ?_, own := fun c => hrec _, others := fun k _ => hrec k
      effect := ⟨?_, hsup, grows_of_actions fun q => ?_, ?_, ?_, ?_⟩ }
    · rw [← hg]
      rfl
    · rw [← hg]
      exact (handled_nothing h p).detectors q
    · exact .nil (by rw [← hg]) (by rw [← hg])
    · rw [← hg]
      rfl
    · rw [← hg]
      exact (h.mga.marked_raised .quiet).congr fun n => by simp [hq]
    · rw [← hg]
    · rw [← hg]
      rfl
  · rw [if_neg hq] at hg
    subst hg
    exact { handled_nothing h p with effect :=
      { Hub.Effect.same h with supervises := hsup, marked := (Mga.marked.same rfl).congr fun n => by simp [hq] } }

/-! ## The ports one after the other -/

/-- The effects of the ports' turns add up, where the turn of one leaves what those of the others do. -/
theorem effect_foldl {f : PortId → Hub → Hub} {E : PortId → Hub → List HistoryEntry} {w : PortId → Hub → Option WakeCause}
    {R : PortId → Hub → Notice → Prop}
    (hsame : ∀ p q h, q ≠ p → E p (f q h) = E p h ∧ w p (f q h) = w p h ∧ ∀ n, R p (f q h) n ↔ R p h n)
    (heff : ∀ (p : PortId) (h : Hub), h.Effect (f p h) (E p h) (fun q => if q = p then w p h else none) (R p h))
    (ps : List PortId) (hn : ps.Nodup) (h : Hub) :
    h.Effect (ps.foldl (fun t p => f p t) h) (ps.flatMap fun p => E p h) (fun q => if q ∈ ps then w q h else none)
      fun n => ∃ p ∈ ps, R p h n := by
  induction ps generalizing h with
  | nil => exact (Hub.Effect.same h).congr rfl (fun _ => (if_neg List.not_mem_nil).symm) fun n => by simp
  | cons p ps ih =>
    obtain ⟨hp, hn⟩ := List.nodup_cons.mp hn
    have hrest (q : PortId) (hq : q ∈ ps) := hsame q p h fun he => hp (he ▸ hq)
    refine ((heff p h).trans (ih hn (f p h))).congr ?_ (fun q => ?_) fun n => ?_
    · rw [List.flatMap_cons]
      exact congrArg (E p h ++ ·) (List.flatMap_congr fun q hq => (hrest q hq).1)
    · by_cases hq : q ∈ ps
      · have hqp : q ≠ p := fun he => hp (he ▸ hq)
        rw [if_neg hqp, if_pos hq, if_pos (List.mem_cons_of_mem p hq), Option.none_or, (hrest q hq).2.1]
      · rw [if_neg hq, Option.or_none]
        refine if_ctx_congr (by simp [hq]) (fun he => ?_) fun _ => rfl
        obtain rfl | hc := List.mem_cons.mp he
        · rfl
        · exact absurd hc hq
    · rw [List.exists_mem_cons_iff]
      exact or_congr_right (exists_congr fun q => and_congr_right fun hq => (hrest q hq).2.2 n)

theorem effect_each {f : PortId → Hub → Hub} {E : PortId → Hub → List HistoryEntry} {w : PortId → Hub → Option WakeCause}
    {R : PortId → Hub → Notice → Prop}
    (hsame : ∀ p q h, q ≠ p → E p (f q h) = E p h ∧ w p (f q h) = w p h ∧ ∀ n, R p (f q h) n ↔ R p h n)
    (heff : ∀ (p : PortId) (h : Hub), h.Effect (f p h) (E p h) (fun q => if q = p then w p h else none) (R p h)) (h : Hub) :
    h.Effect (each f h) ((List.finRange 24).flatMap fun p => E p h) (fun q => w q h) fun n => ∃ p, R p h n :=
  (effect_foldl hsame heff _ (List.nodup_finRange 24) h).congr rfl (fun q => if_pos (List.mem_finRange q))
    fun n => by simp [List.mem_finRange]

end Sys2Proof.Machine
end

section
/-! The window end, port by port (O31, O32). -/

namespace Sys2Proof.Machine

/-! ## The detectors' windows -/

section Detectors
variable (h : Hub) (p : PortId) (void : Bool) (net : Vector Nat 4)

/-- A window of an UP port that is not void is measured (R140, R141). -/
abbrev Hub.measuredWindow : Prop := h.frame[p].link = .up ∧ void = false

/-- A lane of the mask is at its overload level (R140). -/
abbrev Hub.loudWindow : Prop :=
  ∃ b : Lane, h.frame[p].mask.getLsbD b.val = true ∧ h.eventTables.overloadLevel p b ≤ net[b]

/-- Every lane of the mask is well below its overload level (R140). -/
abbrev Hub.lowWindow : Prop :=
  ∀ b : Lane, h.frame[p].mask.getLsbD b.val = true → net[b] + 4 < h.eventTables.overloadLevel p b

/-- A lane of the mask is heard (R141). -/
abbrev Hub.heardWindow : Prop := ∃ b : Lane, h.frame[p].mask.getLsbD b.val = true ∧ 0 < net[b]

/-- The UL_OVERLOAD condition clears at a window (R140). -/
abbrev Hub.calmedWindow : Prop :=
  ¬ h.measuredWindow p void ∨ ¬ h.loudWindow p net ∧ h.lowWindow p net

/-- A QUIET port wakes at its wake level (R131). -/
abbrev Hub.awakeWindow : Prop := ∃ b : Lane, h.eventTables.wakeLevel p ≤ net[b]

/-- The UL_SILENT presentation of a second mark at this boundary is due (R141). -/
abbrev Hub.silentLeaves : Prop := h.fsv.detectors[p].silentDue = true
  ∧ (h.faultRecord (.port p .ulSilent)).detects h.tables (FaultKey.port p .ulSilent).row = true
  ∧ (h.faultRecord (.port p .ulSilent)).state = .idle

/-- The UL_SILENT record when a due presentation has been taken (R141). -/
def Hub.silentFirst : FaultRecord :=
  if h.fsv.detectors[p].silentDue = true then
    (h.faultRecord (.port p .ulSilent)).presented h.tables (FaultKey.port p .ulSilent).row
  else h.faultRecord (.port p .ulSilent)

/-- The detectors after a window (R140, R141). -/
def Hub.detectorsAfter : Detectors :=
  let d := h.fsv.detectors[p]
  { d with
    run := if h.measuredWindow p void ∧ h.loudWindow p net then min (d.run + 1) 255 else 0
    overloadDue := d.overloadDue || decide (h.measuredWindow p void ∧ h.loudWindow p net
      ∧ h.tables.param (FaultKey.port p .ulOverload).row ≤ min (d.run + 1) 255)
    silence := if h.measuredWindow p void ∧ ¬ h.heardWindow p net then d.silence else 0
    silentMark := d.silentMark && decide (h.measuredWindow p void ∧ ¬ h.heardWindow p net)
    silentDue := false }

/-- The records after a window (R140, R141). -/
def Hub.recordAfter (c : PortClass) : FaultRecord :=
  if c = .ulOverload ∧ h.calmedWindow p void net then (h.faultRecord (.port p c)).cleared
  else if c = .ulSilent then if h.heardWindow p net then (h.silentFirst p).cleared else h.silentFirst p
  else h.faultRecord (.port p c)

/-- The history entries of a window (R147). -/
def Hub.entriesAfter : List HistoryEntry :=
  let stamp := h.mga.seconds
  let overload := FaultKey.port p .ulOverload
  let silent := FaultKey.port p .ulSilent
  (if h.calmedWindow p void net then (h.faultRecord overload).clearEntries overload stamp else [])
  ++ (if h.fsv.detectors[p].silentDue = true then (h.faultRecord silent).presentEntries h.tables silent stamp else [])
  ++ if h.heardWindow p net then (h.silentFirst p).clearEntries silent stamp else []

/-- The wake of a window (R131). -/
def Hub.wokenAfter : Option WakeCause :=
  if h.awakeWindow p net then some .level else if h.silentLeaves p then some .fault else none

/-- The notices of a window (R174). -/
def Hub.raisedAfter (n : Notice) : Prop :=
  n = .fault ∧ h.fsv.detectors[p].silentDue = true
    ∧ (h.faultRecord (.port p .ulSilent)).enters h.tables (FaultKey.port p .ulSilent).row = true
  ∨ n = .quiet ∧ (h.awakeWindow p net ∨ h.silentLeaves p) ∧ h.isQuiet p = true

theorem any_lanes {m : LaneMask} {f : Lane → Bool} :
    ((List.finRange 4).filter fun b => m.getLsbD b.val).any f = true ↔ ∃ b : Lane, m.getLsbD b.val = true ∧ f b = true := by
  simp [List.any_eq_true]

theorem all_lanes {m : LaneMask} {f : Lane → Bool} :
    ((List.finRange 4).filter fun b => m.getLsbD b.val).all f = true ↔ ∀ b : Lane, m.getLsbD b.val = true → f b = true := by
  simp only [List.all_eq_true, List.mem_filter, List.mem_finRange, true_and]

theorem onDet_congr {h : Hub} {p : PortId} {f g : Detectors → Detectors} (hfg : f h.fsv.detectors[p] = g h.fsv.detectors[p]) :
    h.onDet p f = h.onDet p g :=
  congrArg (fun v => { h with fsv := { h.fsv with detectors := v } }) (upd_congr hfg)

theorem onDet_same {h : Hub} {p : PortId} {f : Detectors → Detectors} (hf : f h.fsv.detectors[p] = h.fsv.detectors[p]) :
    h.onDet p f = h :=
  congrArg (fun v => { h with fsv := { h.fsv with detectors := v } }) (upd_same hf)

theorem overloadWindow_eq : h.overloadWindow p void net =
    let g := h.onDet p fun d => { d with
      run := if h.measuredWindow p void ∧ h.loudWindow p net then min (d.run + 1) 255 else 0
      overloadDue := d.overloadDue || decide (h.measuredWindow p void ∧ h.loudWindow p net
        ∧ h.tables.param (FaultKey.port p .ulOverload).row ≤ min (d.run + 1) 255) }
    if h.calmedWindow p void net then g.clearCondition (.port p .ulOverload) else g := by
  have hloud : (((List.finRange 4).filter fun b => h.frame[p].mask.getLsbD b.val).any
      fun b => decide (h.eventTables.overloadLevel p b ≤ net[b])) = true ↔ h.loudWindow p net := by
    rw [any_lanes]
    simp only [decide_eq_true_eq]
  have hlow : (((List.finRange 4).filter fun b => h.frame[p].mask.getLsbD b.val).all
      fun b => decide (net[b] + 4 < h.eventTables.overloadLevel p b)) = true ↔ h.lowWindow p net := by
    rw [all_lanes]
    simp only [decide_eq_true_eq]
  have hmeasured : (h.frame[p].link ≠ .up ∨ void = true) ↔ ¬ h.measuredWindow p void := by
    unfold Hub.measuredWindow
    cases void <;> simp
  unfold Hub.overloadWindow Hub.calmedWindow
  dsimp only
  rw [if_congr hmeasured rfl rfl, if_congr hloud rfl rfl, if_congr hlow rfl rfl]
  by_cases hm : h.measuredWindow p void
  · by_cases hl : h.loudWindow p net
    · rw [if_neg (not_not.mpr hm), if_pos hl, if_neg fun hc => hc.elim (· hm) (·.1 hl)]
      refine onDet_congr ?_
      rw [if_pos ⟨hm, hl⟩]
      simp only [eq_true hm, eq_true hl, true_and]
      rfl
    · rw [if_neg (not_not.mpr hm), if_neg hl]
      have hd : (h.onDet p fun d => { d with
          run := if h.measuredWindow p void ∧ h.loudWindow p net then min (d.run + 1) 255 else 0
          overloadDue := d.overloadDue || decide (h.measuredWindow p void ∧ h.loudWindow p net
            ∧ h.tables.param (FaultKey.port p .ulOverload).row ≤ min (d.run + 1) 255) }) =
          h.onDet p fun d => { d with run := 0 } := by
        refine onDet_congr ?_
        rw [if_neg fun hc => hl hc.2, decide_eq_false fun hc => hl hc.2.1, Bool.or_false]
      rw [hd]
      exact if_congr (by tauto) rfl rfl
  · have hd : (h.onDet p fun d => { d with
        run := if h.measuredWindow p void ∧ h.loudWindow p net then min (d.run + 1) 255 else 0
        overloadDue := d.overloadDue || decide (h.measuredWindow p void ∧ h.loudWindow p net
          ∧ h.tables.param (FaultKey.port p .ulOverload).row ≤ min (d.run + 1) 255) }) =
        h.onDet p fun d => { d with run := 0 } := by
      refine onDet_congr ?_
      rw [if_neg fun hc => hm hc.1, decide_eq_false fun hc => hm hc.1, Bool.or_false]
    rw [if_pos hm, hd, if_pos (.inl hm)]

theorem silentWindow_eq : h.silentWindow p void net =
    let g := (h.silentPresent p).onDet p fun d => { d with
      silence := if h.measuredWindow p void ∧ ¬ h.heardWindow p net then d.silence else 0
      silentMark := d.silentMark && decide (h.measuredWindow p void ∧ ¬ h.heardWindow p net) }
    if h.heardWindow p net then g.clearCondition (.port p .ulSilent) else g := by
  have hframe : (h.silentPresent p).frame = h.frame := by
    unfold Hub.silentPresent
    split
    · exact (handled_present (h.onDet p fun d => { d with silentDue := false }) p .ulSilent).frame
    · rfl
  have hquiet : (((List.finRange 4).filter fun b => h.frame[p].mask.getLsbD b.val).all
      fun b => decide (net[b] = 0)) = true ↔ ¬ h.heardWindow p net := by
    rw [all_lanes]
    simp only [decide_eq_true_eq, Hub.heardWindow, not_exists, not_and, Nat.pos_iff_ne_zero, not_not]
  unfold Hub.silentWindow
  dsimp only
  rw [hframe]
  by_cases hh : h.heardWindow p net
  · rw [if_neg fun hc => hquiet.mp hc.2.2 hh, if_neg fun hc => hquiet.mp hc hh, if_pos hh]
    refine congrArg (fun g : Hub => g.clearCondition (.port p .ulSilent)) (onDet_congr ?_)
    rw [if_neg fun hc => hc.2 hh, decide_eq_false fun hc => hc.2 hh, Bool.and_false]
  · by_cases hm : h.measuredWindow p void
    · rw [if_pos ⟨hm.1, by rw [hm.2]; rfl, hquiet.mpr hh⟩, if_neg hh]
      refine (onDet_same ?_).symm
      rw [if_pos ⟨hm, hh⟩, decide_eq_true ⟨hm, hh⟩, Bool.and_true]
    · rw [if_neg fun hc => hm ⟨hc.1, by simpa using hc.2.1⟩, if_pos (hquiet.mpr hh), if_neg hh]
      refine onDet_congr ?_
      rw [if_neg fun hc => hm hc.1, decide_eq_false fun hc => hm hc.1, Bool.and_false]

theorem handled_if {h g k : Hub} {p : PortId} {c : Prop} [Decidable c] {d d' : Detectors} {r r' : PortClass → FaultRecord}
    {xs ys : List HistoryEntry} {w v : Option WakeCause} {P Q : Notice → Prop} (x : h.Handled p g d r xs w P)
    (y : h.Handled p k d' r' ys v Q) : h.Handled p (if c then g else k) (if c then d else d')
      (fun e => if c then r e else r' e) (if c then xs else ys) (if c then w else v) fun n => c ∧ P n ∨ ¬ c ∧ Q n := by
  by_cases hc : c
  · simp only [if_pos hc]
    exact x.congr rfl (fun _ => rfl) rfl rfl fun n => by simp [hc]
  · simp only [if_neg hc]
    exact y.congr rfl (fun _ => rfl) rfl rfl fun n => by simp [hc]

theorem handled_levelWake : h.Handled p (h.levelWake p net) h.fsv.detectors[p] (fun c => h.faultRecord (.port p c)) []
    (if h.awakeWindow p net then some .level else none) fun n => n = .quiet ∧ h.awakeWindow p net ∧ h.isQuiet p = true := by
  have hany : ((List.finRange 4).any fun b => decide (h.eventTables.wakeLevel p ≤ net[b])) = true ↔ h.awakeWindow p net := by
    simp only [List.any_eq_true, List.mem_finRange, true_and, decide_eq_true_eq]
  unfold Hub.levelWake
  rw [if_congr hany rfl rfl]
  refine (handled_if (c := h.awakeWindow p net) (handled_wake h p .level) (handled_nothing h p)).congr
    (ite_self _) (fun _ => ite_self _) (ite_self _) rfl fun n => by tauto

theorem handled_overloadWindow :
    let d := h.fsv.detectors[p]
    let r := h.faultRecord (.port p .ulOverload)
    let calmed := h.calmedWindow p void net
    h.Handled p (h.overloadWindow p void net) { d with
      run := if h.measuredWindow p void ∧ h.loudWindow p net then min (d.run + 1) 255 else 0
      overloadDue := d.overloadDue || decide (h.measuredWindow p void ∧ h.loudWindow p net
        ∧ h.tables.param (FaultKey.port p .ulOverload).row ≤ min (d.run + 1) 255) }
      (fun c => if c = .ulOverload ∧ calmed then r.cleared else h.faultRecord (.port p c))
      (if calmed then r.clearEntries (.port p .ulOverload) h.mga.seconds else []) none fun _ => False := by
  intro d r calmed
  rw [overloadWindow_eq]
  have hdet := handled_onDet h p fun d => { d with
      run := if h.measuredWindow p void ∧ h.loudWindow p net then min (d.run + 1) 255 else 0
      overloadDue := d.overloadDue || decide (h.measuredWindow p void ∧ h.loudWindow p net
        ∧ h.tables.param (FaultKey.port p .ulOverload).row ≤ min (d.run + 1) 255) }
  refine (handled_if (c := h.calmedWindow p void net) (hdet.trans (handled_clear _ p .ulOverload)) hdet).congr ?_ (fun c => ?_) ?_ ?_
    fun n => ?_
  · rw [hdet.det]
    exact ite_self _
  · by_cases hc : c = .ulOverload
    · subst hc
      simp only [true_and, if_true]
      rfl
    · simp only [hc, false_and, if_false]
      exact ite_self _
  · rfl
  · exact ite_self _
  · tauto

theorem handled_silentPresent :
    let d := h.fsv.detectors[p]
    let k := FaultKey.port p .ulSilent
    let r := h.faultRecord k
    let leaves := r.detects h.tables k.row = true ∧ r.state = .idle
    h.Handled p (h.silentPresent p) { d with silentDue := false }
      (fun c => if c = .ulSilent ∧ d.silentDue = true then r.presented h.tables k.row else h.faultRecord (.port p c))
      (if d.silentDue = true then r.presentEntries h.tables k h.mga.seconds else [])
      (if d.silentDue = true ∧ leaves then some .fault else none)
      fun n => n = .fault ∧ d.silentDue = true ∧ r.enters h.tables k.row = true
        ∨ n = .quiet ∧ (d.silentDue = true ∧ leaves) ∧ h.isQuiet p = true := by
  intro d k r leaves
  have hdet := handled_onDet h p fun d => { d with silentDue := false }
  unfold Hub.silentPresent
  refine (handled_if (c := h.fsv.detectors[p].silentDue = true) (hdet.trans (handled_present _ p .ulSilent))
    (handled_nothing h p)).congr ?_ (fun c => ?_) rfl ?_ fun n => ?_
  · rw [hdet.det]
    split
    case isTrue => rfl
    case isFalse hd => exact congrArg (fun b => { h.fsv.detectors[p] with silentDue := b }) (Bool.eq_false_of_not_eq_true hd)
  · by_cases hc : c = .ulSilent
    · subst hc
      simp only [true_and, if_true]
      rfl
    · simp only [hc, false_and, if_false]
      exact ite_self _
  · by_cases hd : h.fsv.detectors[p].silentDue = true
    · rw [if_pos hd, Option.none_or]
      exact if_congr (and_iff_right hd).symm rfl rfl
    · rw [if_neg hd]
      exact (if_neg fun hc => hd hc.1).symm
  · change d.silentDue = true ∧ (False ∨ (n = .fault ∧ r.enters h.tables k.row = true
      ∨ n = .quiet ∧ leaves ∧ h.isQuiet p = true)) ∨ ¬ d.silentDue = true ∧ False ↔ _
    tauto

theorem handled_silentWindow :
    let d := h.fsv.detectors[p]
    let k := FaultKey.port p .ulSilent
    let r := h.faultRecord k
    let leaves := r.detects h.tables k.row = true ∧ r.state = .idle
    let first := if d.silentDue = true then r.presented h.tables k.row else r
    let heard := h.heardWindow p net
    h.Handled p (h.silentWindow p void net) { d with
      silence := if h.measuredWindow p void ∧ ¬ heard then d.silence else 0
      silentMark := d.silentMark && decide (h.measuredWindow p void ∧ ¬ heard)
      silentDue := false }
      (fun c => if c = .ulSilent then if heard then first.cleared else first else h.faultRecord (.port p c))
      ((if d.silentDue = true then r.presentEntries h.tables k h.mga.seconds else [])
        ++ if heard then first.clearEntries k h.mga.seconds else [])
      (if d.silentDue = true ∧ leaves then some .fault else none)
      fun n => n = .fault ∧ d.silentDue = true ∧ r.enters h.tables k.row = true
        ∨ n = .quiet ∧ (d.silentDue = true ∧ leaves) ∧ h.isQuiet p = true := by
  intro d k r leaves first heard
  rw [silentWindow_eq]
  have hpres := handled_silentPresent h p
  have hdet := hpres.trans (handled_onDet (h.silentPresent p) p fun d => { d with
      silence := if h.measuredWindow p void ∧ ¬ h.heardWindow p net then d.silence else 0
      silentMark := d.silentMark && decide (h.measuredWindow p void ∧ ¬ h.heardWindow p net) })
  have hfirst : (h.silentPresent p).faultRecord k = first := by
    rw [hpres.own]
    exact if_congr (and_iff_right rfl) rfl rfl
  refine (handled_if (c := h.heardWindow p net) (hdet.trans (handled_clear _ p .ulSilent)) hdet).congr ?_ (fun c => ?_) ?_ ?_
    fun n => ?_
  · rw [hdet.det, hpres.det]
    exact ite_self _
  · rw [hdet.own, hdet.own, hfirst]
    by_cases hc : c = .ulSilent
    · subst hc
      simp only [if_true]
      rw [hfirst]
    · rw [hpres.own]
      simp only [hc, false_and, if_false]
      exact ite_self _
  · rw [hdet.own, hfirst, hdet.seconds]
    split
    case isTrue => rw [List.append_nil]
    case isFalse => rfl
  · simp only [Option.or_none]
    exact ite_self _
  · simp only [or_false]
    exact or_and_right.symm.trans (and_iff_right (Classical.em _))

/-- A port that its level wakes is not QUIET at the presentation that follows. -/
theorem raised_wake_then {A F Q L : Prop} [Decidable A] {q : Bool} {cause : WakeCause} :
    (Q ∧ A ∧ q = true) ∨ (F ∨ Q ∧ L ∧ (q && (if A then some cause else none).isNone) = true) ↔
      F ∨ Q ∧ (A ∨ L) ∧ q = true := by
  by_cases ha : A
  · simp only [ha, if_true, Option.isNone_some, Bool.and_false, Bool.false_eq_true, and_false, or_false, true_and, true_or]
    exact or_comm
  · simp only [ha, if_false, Option.isNone_none, Bool.and_true, false_and, and_false, false_or]

theorem handled_windows : h.Handled p (((h.levelWake p net).overloadWindow p void net).silentWindow p void net)
    (h.detectorsAfter p void net) (h.recordAfter p void net) (h.entriesAfter p void net) (h.wokenAfter p net)
    (h.raisedAfter p net) := by
  let d := h.fsv.detectors[p]
  let first := h.silentFirst p
  let calmed := h.calmedWindow p void net
  let overload := FaultKey.port p .ulOverload
  let silent := FaultKey.port p .ulSilent
  let r := h.faultRecord silent
  let stamp := h.mga.seconds
  have hwake := handled_levelWake h p net
  have hwindow : (h.levelWake p net).eventTables = h.eventTables := by
    unfold Hub.eventTables
    rw [hwake.bd, hwake.tables]
  have hmeasured : (h.levelWake p net).measuredWindow p void = h.measuredWindow p void := by
    unfold Hub.measuredWindow
    rw [hwake.frame]
  have hloud : (h.levelWake p net).loudWindow p net = h.loudWindow p net := by
    unfold Hub.loudWindow
    rw [hwake.frame, hwindow]
  have hcalmed : (h.levelWake p net).calmedWindow p void net = calmed := by
    unfold Hub.calmedWindow Hub.lowWindow
    rw [hmeasured, hloud, hwake.frame, hwindow]
  have hover : h.Handled p ((h.levelWake p net).overloadWindow p void net) { d with
        run := if h.measuredWindow p void ∧ h.loudWindow p net then min (d.run + 1) 255 else 0
        overloadDue := d.overloadDue || decide (h.measuredWindow p void ∧ h.loudWindow p net
          ∧ h.tables.param overload.row ≤ min (d.run + 1) 255) }
      (fun c => if c = .ulOverload ∧ calmed then (h.faultRecord (.port p c)).cleared else h.faultRecord (.port p c))
      (if calmed then (h.faultRecord overload).clearEntries overload stamp else [])
      (if h.awakeWindow p net then some .level else none)
      fun n => n = .quiet ∧ h.awakeWindow p net ∧ h.isQuiet p = true := by
    refine (hwake.trans (handled_overloadWindow (h.levelWake p net) p void net)).congr ?_ (fun c => ?_) ?_
      (Option.or_none ..) fun n => or_iff_left id
    · rw [hwake.det]
      simp only [hmeasured, hloud, hwake.tables]
      rfl
    · rw [hwake.own, hwake.own, if_congr (and_congr_right fun _ => Iff.of_eq hcalmed) rfl rfl]
      refine if_ctx_congr Iff.rfl (fun hc => ?_) fun _ => rfl
      rw [hc.1]
    · rw [hwake.own, hwake.seconds]
      exact if_congr (Iff.of_eq hcalmed) rfl rfl
  generalize (h.levelWake p net).overloadWindow p void net = g at hover ⊢
  have hmeasured' : g.measuredWindow p void = h.measuredWindow p void := by
    unfold Hub.measuredWindow
    rw [hover.frame]
  have hheard : g.heardWindow p net = h.heardWindow p net := by
    unfold Hub.heardWindow
    rw [hover.frame]
  have hsilent : g.faultRecord silent = r := by
    rw [hover.own]
    exact if_neg fun hc : PortClass.ulSilent = .ulOverload ∧ calmed => by cases hc.1
  have hdet := hover.det
  have hdue : g.fsv.detectors[p].silentDue = d.silentDue := by rw [hdet]
  have hquiet := hover.isQuiet p
  have hfirst : (if g.fsv.detectors[p].silentDue = true then (g.faultRecord silent).presented g.tables silent.row
      else g.faultRecord silent) = first := by
    rw [hsilent, hdue, hover.tables]
    rfl
  refine (hover.trans (handled_silentWindow g p void net)).congr ?_ (fun c => ?_) ?_ ?_ fun n => ?_
  · rw [hdet]
    simp only [hmeasured', hheard]
    rfl
  · unfold Hub.recordAfter
    by_cases hc : c = .ulSilent
    · subst hc
      rw [if_pos rfl, if_neg fun hc : PortClass.ulSilent = .ulOverload ∧ calmed => (nomatch hc.1), if_pos rfl]
      exact if_congr (Iff.of_eq hheard) (congrArg FaultRecord.cleared hfirst) hfirst
    · rw [if_neg hc, hover.own, if_neg hc]
  · unfold Hub.entriesAfter
    rw [List.append_assoc]
    refine congrArg₂ _ rfl (congrArg₂ _ ?_ ?_)
    · rw [hdue, hsilent, hover.tables, hover.seconds]
    · rw [hover.seconds]
      exact if_congr (Iff.of_eq hheard) (congrArg (fun r : FaultRecord => r.clearEntries silent stamp) hfirst) rfl
  · unfold Hub.wokenAfter
    by_cases ha : h.awakeWindow p net
    · rw [if_pos ha, if_pos ha, Option.some_or]
    · rw [if_neg ha, if_neg ha, Option.none_or, hdue, hsilent, hover.tables]
  · rw [hdue, hsilent, hover.tables, hquiet, if_pos rfl]
    exact raised_wake_then

end Detectors

/-! ## One port at a window end -/

/-- What is done of a port's faults does not depend on its gates and meters, and leaves them. -/
theorem Hub.Handled.carry {h g : Hub} {u : Ulc} {v : Lvm} {p : PortId} {d : Detectors} {r : PortClass → FaultRecord}
    {xs : List HistoryEntry} {w : Option WakeCause} {P : Notice → Prop}
    (x : ({ h with ulc := u, lvm := v } : Hub).Handled p g d r xs w P) :
    g = { h with ulc := u, lvm := v, fsv := g.fsv, sbl := g.sbl, mga := { h.mga with marks := g.mga.marks } }
    ∧ h.Handled p { h with fsv := g.fsv, sbl := g.sbl, mga := { h.mga with marks := g.mga.marks } } d r xs w P := by
  have hg := x.hub
  refine ⟨hg, ?_⟩
  obtain ⟨-, hdets, hown, hothers, heffect⟩ := x
  generalize g.fsv = f, g.sbl = b, g.mga.marks = m at hg hdets ⊢
  subst hg
  have hrec (k : FaultKey) : ({ h with fsv := f, sbl := b, mga := { h.mga with marks := m } } : Hub).faultRecord k =
      ({ h with ulc := u, lvm := v, fsv := f, sbl := b, mga := { h.mga with marks := m } } : Hub).faultRecord k := by
    cases k <;> rfl
  have hrec' (k : FaultKey) : h.faultRecord k = ({ h with ulc := u, lvm := v } : Hub).faultRecord k := by
    cases k <;> rfl
  exact ⟨rfl, hdets, fun c => hown c, fun k hk => (hrec k).trans ((hothers k hk).trans (hrec' k).symm),
    ⟨heffect.written, heffect.supervises, heffect.grows, heffect.marked, heffect.tables, heffect.seconds⟩⟩

section Port
variable (h : Hub) (p : PortId)

/-- What a window does of a port's faults, whatever its gates and meters have become. -/
theorem windows_carried (void : Bool) (net : Vector Nat 4) (u : Ulc) (v : Lvm) :
    let x := { h with ulc := u, lvm := v }
    let g := ((x.levelWake p net).overloadWindow p void net).silentWindow p void net
    g = { h with ulc := u, lvm := v, fsv := g.fsv, sbl := g.sbl, mga := { h.mga with marks := g.mga.marks } }
    ∧ h.Handled p { h with fsv := g.fsv, sbl := g.sbl, mga := { h.mga with marks := g.mga.marks } }
      (h.detectorsAfter p void net) (h.recordAfter p void net) (h.entriesAfter p void net) (h.wokenAfter p net)
      (h.raisedAfter p net) :=
  (handled_windows { h with ulc := u, lvm := v } p void net).carry

/-- The net levels of the window that ends (R98). -/
def Hub.windowNets : Vector Nat 4 := (h.lvm.ports[p].complete h.eventTables p h.frame[p]).nets

/-- A port outside its test window, whose meters stand, hands its results on (R102, R110). -/
abbrev Hub.handsOn : Prop := h.lvm.ports[p].loop.isRunning = false ∧ h.lvm.ports[p].cleared = false

def Hub.windowMeter : PortMeter :=
  if h.lvm.ports[p].loop.isRunning then { h.lvm.ports[p].dropWindow with loop := .none }
  else if h.lvm.ports[p].cleared then h.lvm.ports[p]
  else (h.lvm.ports[p].complete h.eventTables p h.frame[p]).startTest

def Hub.windowGates : Vector Gate 4 :=
  if h.handsOn p ∧ h.frame[p].combining = true ∧ h.dlc.combining[p] = true then tab fun b =>
    (h.ulc.gates[p][b]).update (h.windowNets p)[b] (h.eventTables.gateLevel p b) (h.eventTables.gateHold p)
  else h.ulc.gates[p]

def Hub.windowDetectors : Detectors :=
  if h.handsOn p then h.detectorsAfter p h.lvm.ports[p].void (h.windowNets p) else h.fsv.detectors[p]

def Hub.windowRecord (c : PortClass) : FaultRecord :=
  if h.handsOn p then h.recordAfter p h.lvm.ports[p].void (h.windowNets p) c else h.faultRecord (.port p c)

def Hub.windowEntries : List HistoryEntry :=
  if h.handsOn p then h.entriesAfter p h.lvm.ports[p].void (h.windowNets p) else []

def Hub.windowWoken : Option WakeCause := if h.handsOn p then h.wokenAfter p (h.windowNets p) else none

def Hub.windowRaised (n : Notice) : Prop := h.handsOn p ∧ h.raisedAfter p (h.windowNets p) n

def Hub.windowAnswer : Option Response := match h.lvm.ports[p].loop with
  | .running tag => some (okResponse tag (loopResult h.eventTables p h.lvm.ports[p]))
  | _ => none

/-- All that the turn of port `p` at a window end does. -/
structure Hub.WindowTurn (g : Hub) : Prop where
  hub : g = { h with
    ulc := { h.ulc with gates := upd h.ulc.gates p fun _ => h.windowGates p }
    lvm := { h.lvm with ports := upd h.lvm.ports p fun _ => h.windowMeter p }
    fsv := g.fsv, sbl := g.sbl, mga := g.mga }
  handled : h.Handled p { h with fsv := g.fsv, sbl := g.sbl, mga := { h.mga with marks := g.mga.marks } }
    (h.windowDetectors p) (h.windowRecord p) (h.windowEntries p) (h.windowWoken p) (h.windowRaised p)
  mga : g.mga = { h.mga with
    responses := h.mga.responses ++ (h.windowAnswer p).toList
    busy := if h.lvm.ports[p].loop.isRunning then none else h.mga.busy
    busyRipe := if h.lvm.ports[p].loop.isRunning then false else h.mga.busyRipe
    marks := g.mga.marks }

theorem windowEndPort_of_running {tag : Byte} (hl : h.lvm.ports[p].loop = .running tag) :
    h.windowEndPort p = h.loopComplete p tag := by
  unfold Hub.windowEndPort
  dsimp only
  rw [hl]

theorem windowEndPort_of_not (hr : h.lvm.ports[p].loop.isRunning = false) : h.windowEndPort p =
    if h.lvm.ports[p].cleared then h
    else ((h.onMeter p fun m => m.complete h.eventTables p h.frame[p]).handOn p h.lvm.ports[p].void).onMeter p
      PortMeter.startTest := by
  unfold Hub.windowEndPort
  dsimp only
  cases hl : h.lvm.ports[p].loop with
  | none => rfl
  | pending tag => rfl
  | running tag => rw [hl] at hr; cases hr

theorem handOn_eq : (h.onMeter p fun m => m.complete h.eventTables p h.frame[p]).handOn p h.lvm.ports[p].void =
    let g := { h with
      ulc := { h.ulc with gates := upd h.ulc.gates p fun x =>
        if h.frame[p].combining = true ∧ h.dlc.combining[p] = true then
          (tab fun b => (x[b]).update (h.windowNets p)[b] (h.eventTables.gateLevel p b) (h.eventTables.gateHold p))
        else x }
      lvm := { h.lvm with ports := upd h.lvm.ports p fun m => m.complete h.eventTables p h.frame[p] } }
    ((g.levelWake p (h.windowNets p)).overloadWindow p h.lvm.ports[p].void (h.windowNets p)).silentWindow p
      h.lvm.ports[p].void (h.windowNets p) := by
  have hnet : ((h.onMeter p fun m => m.complete h.eventTables p h.frame[p]).lvm.ports[p]).nets = h.windowNets p :=
    congrArg PortMeter.nets (upd_get_same ..)
  unfold Hub.handOn
  rw [hnet]
  refine congrArg (fun g : Hub => ((g.levelWake p (h.windowNets p)).overloadWindow p h.lvm.ports[p].void
    (h.windowNets p)).silentWindow p h.lvm.ports[p].void (h.windowNets p)) ?_
  unfold Hub.gateUpdate
  by_cases hc : h.frame[p].combining = true ∧ h.dlc.combining[p] = true
  · refine (if_pos hc).trans ?_
    simp only [if_pos hc]
    rfl
  · refine (if_neg hc).trans ?_
    simp only [if_neg hc]
    rw [upd_same (v := h.ulc.gates) rfl]
    rfl

theorem windowTurn_of_handled {h g : Hub} {p : PortId} (hhands : h.handsOn p)
    (hg : g = { h with
      ulc := { h.ulc with gates := upd h.ulc.gates p fun x =>
        if h.frame[p].combining = true ∧ h.dlc.combining[p] = true then
          (tab fun b => (x[b]).update (h.windowNets p)[b] (h.eventTables.gateLevel p b) (h.eventTables.gateHold p))
        else x }
      lvm := { h.lvm with ports := upd h.lvm.ports p fun m => m.complete h.eventTables p h.frame[p] }
      fsv := g.fsv, sbl := g.sbl, mga := { h.mga with marks := g.mga.marks } })
    (hhandled : h.Handled p { h with fsv := g.fsv, sbl := g.sbl, mga := { h.mga with marks := g.mga.marks } }
      (h.detectorsAfter p h.lvm.ports[p].void (h.windowNets p)) (h.recordAfter p h.lvm.ports[p].void (h.windowNets p))
      (h.entriesAfter p h.lvm.ports[p].void (h.windowNets p)) (h.wokenAfter p (h.windowNets p))
      (h.raisedAfter p (h.windowNets p))) :
    h.WindowTurn p (g.onMeter p PortMeter.startTest) := by
  have hall : h.Handled p { h with fsv := g.fsv, sbl := g.sbl, mga := { h.mga with marks := g.mga.marks } }
      (h.windowDetectors p) (h.windowRecord p) (h.windowEntries p) (h.windowWoken p) (h.windowRaised p) :=
    hhandled.congr (if_pos hhands).symm (fun _ => (if_pos hhands).symm) (if_pos hhands).symm (if_pos hhands).symm
      fun _ => (and_iff_right hhands).symm
  obtain ⟨hr, hk⟩ := hhands
  have hmeter : h.windowMeter p = (h.lvm.ports[p].complete h.eventTables p h.frame[p]).startTest :=
    (if_neg (ne_true_of_eq_false hr)).trans (if_neg (ne_true_of_eq_false hk))
  have hgates : h.windowGates p = if h.frame[p].combining = true ∧ h.dlc.combining[p] = true then
      (tab fun b => (h.ulc.gates[p][b]).update (h.windowNets p)[b] (h.eventTables.gateLevel p b)
        (h.eventTables.gateHold p))
      else h.ulc.gates[p] := if_congr (and_iff_right ⟨hr, hk⟩) rfl rfl
  have hans : h.windowAnswer p = none := by
    unfold Hub.windowAnswer
    cases hl : h.lvm.ports[p].loop with
    | running tag => rw [hl] at hr; cases hr
    | none => rfl
    | pending tag => rfl
  refine ⟨?_, hall, ?_⟩
  · rw [hgates, hmeter]
    generalize g.fsv = f, g.sbl = b, g.mga.marks = m at hg
    subst hg
    refine congrArg₂ (fun x y => { h with
      ulc := { h.ulc with gates := x }, lvm := { h.lvm with ports := y }, fsv := f, sbl := b
      mga := { h.mga with marks := m } }) (?_ : _ = upd h.ulc.gates p _) (?_ : upd (upd h.lvm.ports p _) p _ = _)
    · exact upd_congr rfl
    · rw [upd_upd]
      exact upd_congr rfl
  · rw [hr, hans, Option.toList_none, List.append_nil]
    exact (congrArg Hub.mga hg).trans rfl

theorem windowTurn_port : h.WindowTurn p (h.windowEndPort p) := by
  cases hr : h.lvm.ports[p].loop.isRunning with
  | true =>
    obtain ⟨tag, hl⟩ : ∃ tag, h.lvm.ports[p].loop = .running tag := by
      cases hl : h.lvm.ports[p].loop with
      | running tag => exact ⟨tag, rfl⟩
      | none => rw [hl] at hr; cases hr
      | pending tag => rw [hl] at hr; cases hr
    have hno : ¬ h.handsOn p := fun hc => ne_true_of_eq_false hc.1 hr
    have hans : h.windowAnswer p = some (okResponse tag (loopResult h.eventTables p h.lvm.ports[p])) := by
      unfold Hub.windowAnswer
      rw [hl]
    have hgates : h.windowGates p = h.ulc.gates[p] := if_neg fun hc => hno hc.1
    have hmeter : h.windowMeter p = { h.lvm.ports[p].dropWindow with loop := .none } := if_pos hr
    rw [windowEndPort_of_running h p hl]
    refine ⟨?_, (handled_nothing h p).congr ?_ (fun c => ?_) ?_ ?_ fun n => ?_, ?_⟩
    · rw [hgates, hmeter, upd_same (v := h.ulc.gates) rfl]
      exact congrArg (fun v => { h with
        lvm := { h.lvm with ports := v }, mga := (h.loopComplete p tag).mga }) (upd_congr rfl)
    · exact (if_neg hno).symm
    · exact (if_neg hno).symm
    · exact (if_neg hno).symm
    · exact (if_neg hno).symm
    · exact ⟨False.elim, fun hc => hno hc.1⟩
    · rw [hr, hans]
      rfl
  | false =>
    rw [windowEndPort_of_not h p hr]
    have hans : h.windowAnswer p = none := by
      unfold Hub.windowAnswer
      cases hl : h.lvm.ports[p].loop with
      | running tag => rw [hl] at hr; cases hr
      | none => rfl
      | pending tag => rfl
    cases hk : h.lvm.ports[p].cleared with
    | true =>
      have hno : ¬ h.handsOn p := fun hc => ne_true_of_eq_false hc.2 hk
      have hgates : h.windowGates p = h.ulc.gates[p] := if_neg fun hc => hno hc.1
      have hmeter : h.windowMeter p = h.lvm.ports[p] := (if_neg (ne_true_of_eq_false hr)).trans (if_pos hk)
      rw [if_pos rfl]
      refine ⟨?_, (handled_nothing h p).congr ?_ (fun c => ?_) ?_ ?_ fun n => ?_, ?_⟩
      · rw [hgates, hmeter, upd_same (v := h.ulc.gates) rfl, upd_same (v := h.lvm.ports) rfl]
      · exact (if_neg hno).symm
      · exact (if_neg hno).symm
      · exact (if_neg hno).symm
      · exact (if_neg hno).symm
      · exact ⟨False.elim, fun hc => hno hc.1⟩
      · rw [hr, hans, Option.toList_none, List.append_nil]
        rfl
    | false =>
      have hhands : h.handsOn p := ⟨hr, hk⟩
      rw [if_neg Bool.false_ne_true, handOn_eq]
      obtain ⟨hg, hhandled⟩ := windows_carried h p h.lvm.ports[p].void (h.windowNets p)
        { h.ulc with gates := upd h.ulc.gates p fun x =>
          if h.frame[p].combining = true ∧ h.dlc.combining[p] = true then
            (tab fun b => (x[b]).update (h.windowNets p)[b] (h.eventTables.gateLevel p b) (h.eventTables.gateHold p))
          else x }
        { h.lvm with ports := upd h.lvm.ports p fun m => m.complete h.eventTables p h.frame[p] }
      generalize Hub.silentWindow _ p h.lvm.ports[p].void (h.windowNets p) = g at hg hhandled ⊢
      exact windowTurn_of_handled hhands hg hhandled

end Port

end Sys2Proof.Machine
end

section
/-! The window end of all ports (O31, O32). -/

namespace Sys2Proof.Machine

/-! ## What the turn of one port leaves to the others -/

/-- All that the turn of port `p` reads is the same. -/
structure Hub.SameWindow (p : PortId) (h g : Hub) : Prop where
  meter : g.lvm.ports[p] = h.lvm.ports[p]
  gates : g.ulc.gates[p] = h.ulc.gates[p]
  detectors : g.fsv.detectors[p] = h.fsv.detectors[p]
  record : ∀ c : PortClass, g.faultRecord (.port p c) = h.faultRecord (.port p c)
  quiet : g.isQuiet p = h.isQuiet p
  frame : g.frame = h.frame
  dlc : g.dlc = h.dlc
  tables : g.tables = h.tables
  bd : g.bd = h.bd
  seconds : g.mga.seconds = h.mga.seconds

namespace Hub.SameWindow

variable {p : PortId} {h g : Hub} (x : h.SameWindow p g)
include x

theorem eventTables : g.eventTables = h.eventTables := by
  unfold Hub.eventTables
  rw [x.bd, x.tables]

theorem nets : g.windowNets p = h.windowNets p := by
  unfold Hub.windowNets
  rw [x.eventTables, x.frame, x.meter]

theorem windowMeter : g.windowMeter p = h.windowMeter p := by
  unfold Hub.windowMeter
  rw [x.eventTables, x.frame, x.meter]

theorem windowGates : g.windowGates p = h.windowGates p := by
  simp only [Hub.windowGates, Hub.handsOn, x.eventTables, x.frame, x.meter, x.nets, x.gates, x.dlc]

theorem first : g.silentFirst p = h.silentFirst p := by
  unfold Hub.silentFirst
  rw [x.detectors, x.record, x.tables]

theorem windowDetectors : g.windowDetectors p = h.windowDetectors p := by
  simp only [Hub.windowDetectors, Hub.handsOn, Hub.detectorsAfter, Hub.measuredWindow, Hub.loudWindow, Hub.heardWindow, x.eventTables,
    x.frame, x.meter, x.nets, x.detectors, x.tables]

theorem windowRecord (c : PortClass) : g.windowRecord p c = h.windowRecord p c := by
  simp only [Hub.windowRecord, Hub.handsOn, Hub.recordAfter, Hub.measuredWindow, Hub.loudWindow, Hub.lowWindow, Hub.heardWindow, Hub.calmedWindow,
    x.eventTables, x.frame, x.meter, x.nets, x.record, x.first]

theorem windowEntries : g.windowEntries p = h.windowEntries p := by
  simp only [Hub.windowEntries, Hub.handsOn, Hub.entriesAfter, Hub.measuredWindow, Hub.loudWindow, Hub.lowWindow, Hub.heardWindow, Hub.calmedWindow,
    x.eventTables, x.frame, x.meter, x.nets, x.record, x.first, x.detectors, x.tables, x.seconds]

theorem windowWoken : g.windowWoken p = h.windowWoken p := by
  simp only [Hub.windowWoken, Hub.handsOn, Hub.wokenAfter, Hub.awakeWindow, Hub.silentLeaves, x.eventTables, x.meter, x.nets, x.record,
    x.detectors, x.tables]

theorem windowRaised (n : Notice) : g.windowRaised p n ↔ h.windowRaised p n := by
  simp only [Hub.windowRaised, Hub.handsOn, Hub.raisedAfter, Hub.awakeWindow, Hub.silentLeaves, x.eventTables, x.meter, x.nets, x.record,
    x.detectors, x.tables, x.quiet]

theorem windowAnswer : g.windowAnswer p = h.windowAnswer p := by
  unfold Hub.windowAnswer
  rw [x.meter, x.eventTables]

end Hub.SameWindow

theorem sameWindow_turn {p q : PortId} {h g : Hub} (hqp : q ≠ p) (x : h.WindowTurn q g) : h.SameWindow p g := by
  obtain ⟨hg, ⟨-, hdets, hown, hothers, heffect⟩, hmga⟩ := x
  have hpq : p ≠ q := Ne.symm hqp
  have hquiet := (isQuiet_of_supervises heffect.supervises p)
  refine ⟨?_, ?_, ?_, fun c => ?_, ?_, ?_, ?_, ?_, ?_, ?_⟩
  · rw [hg]
    exact upd_get_other _ _ hqp
  · rw [hg]
    exact upd_get_other _ _ hqp
  · exact (hdets p).trans (if_neg hpq)
  · exact hothers (.port p c) fun e he => hpq (FaultKey.port.inj he).1
  · rw [if_neg hpq] at hquiet
    exact hquiet.trans (Bool.and_true _)
  · rw [hg]
  · rw [hg]
  · exact (congrArg Hub.tables hg).trans rfl
  · rw [hg]
  · rw [hmga]

theorem sameWindow_port (h : Hub) {p q : PortId} (hqp : q ≠ p) : h.SameWindow p (h.windowEndPort q) :=
  sameWindow_turn hqp (windowTurn_port h q)

/-! ## The ports one after the other -/

theorem faultRecord_of_blocks {h g : Hub} (hf : g.fsv = h.fsv) (k : FaultKey) : g.faultRecord k = h.faultRecord k := by
  unfold Hub.faultRecord
  rw [hf]

theorem windowTurn_own {p : PortId} {h g : Hub} (x : h.WindowTurn p g) (c : PortClass) :
    g.faultRecord (.port p c) = h.windowRecord p c :=
  (faultRecord_of_blocks (h := { h with fsv := g.fsv, sbl := g.sbl, mga := { h.mga with marks := g.mga.marks } }) rfl
    _).trans (x.handled.own c)

theorem windowTurn_donor {p : PortId} {h g : Hub} (x : h.WindowTurn p g) (d : DonorId) :
    g.faultRecord (.donor d) = h.faultRecord (.donor d) :=
  (faultRecord_of_blocks (h := { h with fsv := g.fsv, sbl := g.sbl, mga := { h.mga with marks := g.mga.marks } }) rfl
    (.donor d)).trans (x.handled.others (.donor d) fun _ he => FaultKey.noConfusion he)

theorem windowTurn_effect {p : PortId} {h g : Hub} (x : h.WindowTurn p g) :
    h.Effect g (h.windowEntries p) (fun q => if q = p then h.windowWoken p else none) (h.windowRaised p) := by
  obtain ⟨hg, hhandled, hmga⟩ := x
  obtain ⟨hwritten, hsup, hgrows, hmarked, -, -⟩ := hhandled.effect
  generalize g.fsv = f, g.sbl = b, g.mga = m at hg hwritten hsup hgrows hmarked hmga
  subst hg
  exact ⟨hwritten, hsup, hgrows, hmarked, rfl, by rw [hmga]⟩

section
variable (h : Hub)

theorem windowPorts_effect : h.Effect (each Hub.windowEndPort h) ((List.finRange 24).flatMap fun p => h.windowEntries p)
    (fun p => h.windowWoken p) fun n => ∃ p, h.windowRaised p n :=
  effect_each (E := fun p h => h.windowEntries p) (w := fun p h => h.windowWoken p) (R := fun p h => h.windowRaised p)
    (fun _ _ h hqp => ⟨(sameWindow_port h hqp).windowEntries, (sameWindow_port h hqp).windowWoken,
      (sameWindow_port h hqp).windowRaised⟩)
    (fun p h => windowTurn_effect (windowTurn_port h p)) h

theorem windowPorts_meter (p : PortId) : (each Hub.windowEndPort h).lvm.ports[p] = h.windowMeter p :=
  each_out (out := fun h : Hub => h.lvm.ports[p]) (view := fun h => h.windowMeter p) p
    (fun _ h hqp => (sameWindow_port h hqp).windowMeter) (fun _ h hqp => (sameWindow_port h hqp).meter)
    (fun h => (congrArg (fun g : Hub => g.lvm.ports[p]) (windowTurn_port h p).hub).trans (upd_get_same ..)) h

theorem windowPorts_gates (p : PortId) : (each Hub.windowEndPort h).ulc.gates[p] = h.windowGates p :=
  each_out (out := fun h : Hub => h.ulc.gates[p]) (view := fun h => h.windowGates p) p
    (fun _ h hqp => (sameWindow_port h hqp).windowGates) (fun _ h hqp => (sameWindow_port h hqp).gates)
    (fun h => (congrArg (fun g : Hub => g.ulc.gates[p]) (windowTurn_port h p).hub).trans (upd_get_same ..)) h

theorem windowPorts_detectors (p : PortId) : (each Hub.windowEndPort h).fsv.detectors[p] = h.windowDetectors p :=
  each_out (out := fun h : Hub => h.fsv.detectors[p]) (view := fun h => h.windowDetectors p) p
    (fun _ h hqp => (sameWindow_port h hqp).windowDetectors) (fun _ h hqp => (sameWindow_port h hqp).detectors)
    (fun h => (windowTurn_port h p).handled.det) h

theorem windowPorts_record (p : PortId) (c : PortClass) :
    (each Hub.windowEndPort h).faultRecord (.port p c) = h.windowRecord p c :=
  each_out (out := fun h : Hub => h.faultRecord (.port p c)) (view := fun h => h.windowRecord p c) p
    (fun _ h hqp => (sameWindow_port h hqp).windowRecord c) (fun _ h hqp => (sameWindow_port h hqp).record c)
    (fun h => windowTurn_own (windowTurn_port h p) c) h

theorem windowPorts_donor (d : DonorId) :
    (each Hub.windowEndPort h).faultRecord (.donor d) = h.faultRecord (.donor d) :=
  each_keep (out := fun h : Hub => h.faultRecord (.donor d))
    (fun q h => windowTurn_donor (windowTurn_port h q) d) h

theorem windowPorts_hub : let g := each Hub.windowEndPort h
    g = { h with
      ulc := { h.ulc with gates := g.ulc.gates }, lvm := { h.lvm with ports := g.lvm.ports }
      fsv := g.fsv, sbl := g.sbl, mga := g.mga } := by
  refine each_rel (R := fun a b : Hub => b = { a with
      ulc := { a.ulc with gates := b.ulc.gates }, lvm := { a.lvm with ports := b.lvm.ports }
      fsv := b.fsv, sbl := b.sbl, mga := b.mga }) (fun _ => rfl) (fun {a b c} x y => ?_) (fun p h => ?_) h
  · rw [y, x]
  · have hg := (windowTurn_port h p).hub
    rw [hg]

/-- The agent after the turns of some ports: the tests' responses, and no test under way. -/
theorem windowPorts_mga (ps : List PortId) (hn : ps.Nodup) : let g := ps.foldl (fun t p => Hub.windowEndPort p t) h
    g.mga = { h.mga with
      responses := h.mga.responses ++ ps.filterMap fun p => h.windowAnswer p
      busy := if ∃ p ∈ ps, h.lvm.ports[p].loop.isRunning = true then none else h.mga.busy
      busyRipe := if ∃ p ∈ ps, h.lvm.ports[p].loop.isRunning = true then false else h.mga.busyRipe
      marks := g.mga.marks } := by
  induction ps generalizing h with
  | nil => simp
  | cons p ps ih =>
    obtain ⟨hp, hn⟩ := List.nodup_cons.mp hn
    have hsame (q : PortId) (hq : q ∈ ps) := sameWindow_port h fun he : p = q => hp (he ▸ hq)
    have hans : (ps.filterMap fun q => (h.windowEndPort p).windowAnswer q) = ps.filterMap fun q => h.windowAnswer q :=
      List.filterMap_congr fun q hq => (hsame q hq).windowAnswer
    have hrun : (∃ q ∈ ps, (h.windowEndPort p).lvm.ports[q].loop.isRunning = true) ↔
        ∃ q ∈ ps, h.lvm.ports[q].loop.isRunning = true :=
      exists_congr fun q => and_congr_right fun hq => by rw [(hsame q hq).meter]
    have hmga := (windowTurn_port h p).mga
    dsimp only
    rw [List.foldl_cons, ih (h.windowEndPort p) hn]
    generalize (ps.foldl (fun t p => Hub.windowEndPort p t) (h.windowEndPort p)).mga.marks = m
    have hresponses : h.mga.responses ++ (h.windowAnswer p).toList ++ (ps.filterMap fun q => h.windowAnswer q) =
        h.mga.responses ++ (p :: ps).filterMap fun q => h.windowAnswer q := by
      rw [List.append_assoc]
      refine congrArg (h.mga.responses ++ ·) ?_
      cases ha : h.windowAnswer p with
      | none => rw [List.filterMap_cons_none ha, Option.toList_none, List.nil_append]
      | some r => rw [List.filterMap_cons_some ha, Option.toList_some, List.singleton_append]
    have hfree {α : Type} (x y : α) : (if ∃ q ∈ ps, h.lvm.ports[q].loop.isRunning = true then x
        else if h.lvm.ports[p].loop.isRunning then x else y) =
        if ∃ q ∈ p :: ps, h.lvm.ports[q].loop.isRunning = true then x else y := by
      rw [if_congr (List.exists_mem_cons_iff ..) rfl rfl]
      by_cases hr : h.lvm.ports[p].loop.isRunning = true
      · rw [if_pos hr, ite_self, if_pos (.inl hr)]
      · rw [if_neg hr]
        exact if_congr (or_iff_right hr).symm rfl rfl
    rw [hans, if_congr hrun rfl rfl, if_congr hrun rfl rfl, hmga]
    dsimp only
    rw [hresponses, hfree, hfree]

end

end Sys2Proof.Machine
end

section
/-! Meters, gates and detectors at a window end (O31, O32). -/

namespace Sys2Proof.Machine

theorem Gate.update_eq (net level g : Nat) (x : Gate) : x.update net level g =
    if level ≤ net then { state := .opened, count := g }
    else if x.state = .opened ∧ 0 < g then { state := .holding, count := x.count }
    else if x.state = .holding ∧ 2 ≤ x.count then { state := .holding, count := x.count - 1 }
    else { state := .closed, count := 0 } := by
  unfold Gate.update
  refine if_congr Iff.rfl rfl ?_
  cases hx : x.state with
  | opened =>
    by_cases hg : g = 0
    · simp [hg]
    · simp [hg, Nat.pos_of_ne_zero hg]
  | holding => simp
  | closed => simp

section Ports
variable (h : Hub) (p : PortId)

/-- The code of the window that ends (R98). -/
def Hub.windowCode (b : Lane) : Nat :=
  if h.lvm.ports[p].void then 0 else levelCode (windowMean h.lvm.ports[p].meters[b].acc h.eventTables.windowCode)

theorem windowNets_get (b : Lane) : (h.windowNets p)[b] = h.windowCode p b - h.eventTables.offset p b := by
  unfold Hub.windowNets PortMeter.nets
  refine (tab_get ..).trans ?_
  refine (congrArg (fun m : Meter => m.last.net) (tab_get ..)).trans ?_
  unfold Meter.complete Hub.windowCode
  cases h.lvm.ports[p].void <;> rfl

theorem startTest_meters (m : PortMeter) (t : Tables) (f : FrameInput) (b : Lane) :
    ((m.complete t p f).startTest).meters[b] = (m.meters[b]).complete t.windowCode (t.offset p b) m.void := by
  have hc : (m.complete t p f).meters[b] = (m.meters[b]).complete t.windowCode (t.offset p b) m.void := tab_get ..
  unfold PortMeter.startTest
  split
  · refine (tab_get ..).trans ?_
    rw [hc]
    rfl
  · exact hc

theorem startTest_rest (m : PortMeter) : m.startTest = { m with
    meters := m.startTest.meters
    loop := match m.loop with
      | .pending tag => .running tag
      | x => x } := by
  unfold PortMeter.startTest
  cases hl : m.loop <;> simp [PortMeter.dropWindow, ← hl]

theorem activityOf_eq (t : Tables) (net : Vector Nat 4) : activityOf t net =
    net[(0 : Lane)] * t.lambda 0 + net[(1 : Lane)] * t.lambda 1 + net[(2 : Lane)] * t.lambda 2
      + net[(3 : Lane)] * t.lambda 3 := by
  unfold activityOf
  have hl : List.finRange 4 = [0, 1, 2, 3] := rfl
  rw [hl]
  simp only [List.foldl_cons, List.foldl_nil, Nat.zero_add]

theorem windowEnd_eq (hw : h.tables.window ≤ h.lvm.windowCount) : h.windowEnd =
    let g := each Hub.windowEndPort h
    { g with lvm :=
      { ports := mapTab (fun m => { m with void := false }) g.lvm.ports
        windowCount := 0, windowNumber := g.lvm.windowNumber + 1 } } := by
  unfold Hub.windowEnd
  rw [if_neg (Nat.not_lt.mpr hw)]

theorem windowMeter_of_hands (hh : h.handsOn p) :
    h.windowMeter p = (h.lvm.ports[p].complete h.eventTables p h.frame[p]).startTest :=
  (if_neg (ne_true_of_eq_false hh.1)).trans (if_neg (ne_true_of_eq_false hh.2))

/-- The net level that the gates read is that of the meters after the window. -/
theorem windowMeter_net (hh : h.handsOn p) (b : Lane) : (h.windowMeter p).meters[b].last.net = (h.windowNets p)[b] := by
  rw [windowMeter_of_hands h p hh, startTest_meters]
  unfold Hub.windowNets PortMeter.nets
  exact ((tab_get ..).trans (congrArg (fun m : Meter => m.last.net) (tab_get ..))).symm

theorem windowEnd_meter (hw : h.tables.window ≤ h.lvm.windowCount) :
    h.windowEnd.lvm.ports[p] = { h.windowMeter p with void := false } := by
  rw [windowEnd_eq h hw, ← windowPorts_meter]
  exact tab_get ..

theorem windowGates_get (b : Lane) (net : Nat) (hn : h.handsOn p → net = (h.windowNets p)[b]) :
    (h.windowGates p)[b] =
      if h.lvm.ports[p].loop.isRunning = false ∧ h.lvm.ports[p].cleared = false
          ∧ h.frame[p].combining = true ∧ h.dlc.combining[p] = true then
        if h.eventTables.gateLevel p b ≤ net then { state := .opened, count := h.eventTables.gateHold p }
        else if (h.ulc.gates[p][b]).state = .opened ∧ 0 < h.eventTables.gateHold p then
          { state := .holding, count := (h.ulc.gates[p][b]).count }
        else if (h.ulc.gates[p][b]).state = .holding ∧ 2 ≤ (h.ulc.gates[p][b]).count then
          { state := .holding, count := (h.ulc.gates[p][b]).count - 1 }
        else { state := .closed, count := 0 }
      else h.ulc.gates[p][b] := by
  unfold Hub.windowGates
  by_cases hc : h.handsOn p ∧ h.frame[p].combining = true ∧ h.dlc.combining[p] = true
  · obtain ⟨hh, hf, hd⟩ := hc
    rw [if_pos ⟨hh, hf, hd⟩, if_pos ⟨hh.1, hh.2, hf, hd⟩, hn hh, ← Gate.update_eq]
    exact tab_get ..
  · rw [if_neg hc, if_neg fun hx => hc ⟨⟨hx.1, hx.2.1⟩, hx.2.2⟩]

end Ports

/-! ## COMBINING_JOIN -/

/-- The ports that join (R40, R89). -/
def Hub.joins (h : Hub) (p : PortId) : Bool := decide (h.frame[p].link = .up) && h.isUp p && !h.dlc.combining[p]

theorem joinPort_eq (h : Hub) (p : PortId) : h.joinPort p = { h with
    dlc := { h.dlc with combining := upd h.dlc.combining p fun x => x || h.joins p }
    ulc := { h.ulc with gates := upd h.ulc.gates p fun g => if h.joins p then
      (tab fun b => if h.tables.gateLevel p b = 0 then { state := .opened, count := h.tables.gateHold p }
        else { state := .closed, count := 0 }) else g } } := by
  unfold Hub.joinPort
  have hj : (h.frame[p].link = .up ∧ h.isUp p = true ∧ (!h.dlc.combining[p]) = true) ↔ h.joins p = true := by
    simp [Hub.joins, and_assoc]
  rw [if_congr hj rfl rfl]
  cases h.joins p with
  | true =>
    rw [if_pos rfl]
    have hc : h.dlc.combining.set p.val true p.isLt = upd h.dlc.combining p fun x => x || true :=
      congrArg (fun b => h.dlc.combining.set p.val b p.isLt) (Bool.or_true _).symm
    unfold Hub.setCombining
    rw [hc]
    rfl
  | false =>
    rw [if_neg Bool.false_ne_true, upd_same (v := h.dlc.combining) (Bool.or_false _), upd_same (v := h.ulc.gates) rfl]

theorem join_eq (h : Hub) (hd : h.bd.joinDone = false) : h.join = { h with
    bd := { h.bd with joinDone := true }
    dlc := { h.dlc with combining := tab fun p => h.dlc.combining[p] || h.joins p }
    ulc := { h.ulc with gates := tab fun p => if h.joins p then
      (tab fun b => if h.tables.gateLevel p b = 0 then { state := .opened, count := h.tables.gateHold p }
        else { state := .closed, count := 0 }) else h.ulc.gates[p] } } := by
  have hsame (q p : PortId) (h : Hub) (hqp : q ≠ p) : (h.joinPort q).joins p = h.joins p
      ∧ (h.joinPort q).dlc.combining[p] = h.dlc.combining[p] ∧ (h.joinPort q).ulc.gates[p] = h.ulc.gates[p]
      ∧ (h.joinPort q).tables = h.tables := by
    have hc : (h.joinPort q).dlc.combining[p] = h.dlc.combining[p] := by
      rw [joinPort_eq]
      exact upd_get_other _ _ hqp
    refine ⟨?_, hc, ?_, ?_⟩
    · unfold Hub.joins
      rw [hc, joinPort_eq]
      rfl
    · rw [joinPort_eq]
      exact upd_get_other _ _ hqp
    · rw [joinPort_eq]
  have hcombining (p : PortId) : (each Hub.joinPort h).dlc.combining[p] = (h.dlc.combining[p] || h.joins p) := by
    refine each_out (out := fun h : Hub => h.dlc.combining[p]) (view := fun h => h.dlc.combining[p] || h.joins p) p
      (fun q h hqp => ?_) (fun q h hqp => (hsame q p h hqp).2.1) (fun h => ?_) h
    · obtain ⟨hj, hc, -, -⟩ := hsame q p h hqp
      rw [hj, hc]
    · rw [joinPort_eq]
      exact upd_get_same ..
  have hgates (p : PortId) : (each Hub.joinPort h).ulc.gates[p] = if h.joins p then
      (tab fun b => if h.tables.gateLevel p b = 0 then { state := .opened, count := h.tables.gateHold p }
        else { state := .closed, count := 0 }) else h.ulc.gates[p] := by
    refine each_out (out := fun h : Hub => h.ulc.gates[p]) (view := fun h => if h.joins p then
      (tab fun b => if h.tables.gateLevel p b = 0 then { state := .opened, count := h.tables.gateHold p }
        else { state := .closed, count := 0 }) else h.ulc.gates[p]) p
      (fun q h hqp => ?_) (fun q h hqp => (hsame q p h hqp).2.2.1) (fun h => ?_) h
    · obtain ⟨hj, -, hg, ht⟩ := hsame q p h hqp
      rw [hj, hg, ht]
    · rw [joinPort_eq]
      exact upd_get_same ..
  have hhub : each Hub.joinPort h = { h with
      dlc := { h.dlc with combining := (each Hub.joinPort h).dlc.combining }
      ulc := { h.ulc with gates := (each Hub.joinPort h).ulc.gates } } := by
    refine each_rel (R := fun a b : Hub => b = { a with
      dlc := { a.dlc with combining := b.dlc.combining }, ulc := { a.ulc with gates := b.ulc.gates } }) (fun _ => rfl)
      (fun {a b c} x y => ?_) (fun p h => ?_) h
    · rw [y, x]
    · rw [joinPort_eq]
  unfold Hub.join
  rw [hd, if_neg Bool.false_ne_true]
  refine (congrArg (fun g : Hub => { g with bd := { g.bd with joinDone := true } }) hhub).trans ?_
  refine congrArg₂ (fun x y => { h with
    bd := { h.bd with joinDone := true }, dlc := { h.dlc with combining := x }, ulc := { h.ulc with gates := y } })
    (Vector.ext fun i hi => ?_) (Vector.ext fun i hi => ?_)
  · rw [tab_getElem]
    exact hcombining ⟨i, hi⟩
  · rw [tab_getElem]
    exact hgates ⟨i, hi⟩

end Sys2Proof.Machine

namespace Sys2Proof
open Machine

/-- Settles O32. -/
theorem gatesFollowTheirTable : Obligations.GatesFollowTheirTable := by
  constructor
  · intro s h hw
    refine ⟨_, next_congr rfl, fun p b => ?_⟩
    have hgates : h.windowEnd.ulc.gates[p] = h.windowGates p := by
      rw [windowEnd_eq h hw, ← windowPorts_gates]
    have hmeter := windowEnd_meter h p hw
    have hget := windowGates_get h p b (h.windowEnd.lvm.ports[p].meters[b].last.net) fun hh => by
      rw [hmeter]
      exact windowMeter_net h p hh b
    exact (congrArg (fun v : Vector Gate 4 => v[b]) hgates).trans hget
  · intro s h joins
    refine ⟨fun hd => next_congr (if_pos hd), fun hd => next_congr ?_⟩
    exact join_eq h hd

end Sys2Proof
end

section
/-! WINDOW_END (O31). -/

namespace Sys2Proof.Machine

section Ports
variable (h : Hub) (p : PortId)

theorem faultRecord_windowEnd (hw : h.tables.window ≤ h.lvm.windowCount) (k : FaultKey) :
    h.windowEnd.faultRecord k = (each Hub.windowEndPort h).faultRecord k := by
  rw [windowEnd_eq h hw]
  generalize each Hub.windowEndPort h = g
  exact faultRecord_of_blocks rfl k

theorem windowEnd_record (hw : h.tables.window ≤ h.lvm.windowCount) (p : PortId) (c : PortClass) :
    h.windowEnd.faultRecord (.port p c) = h.windowRecord p c :=
  (faultRecord_windowEnd h hw (.port p c)).trans (windowPorts_record h p c)

theorem windowEnd_effect (hw : h.tables.window ≤ h.lvm.windowCount) :
    h.Effect h.windowEnd ((List.finRange 24).flatMap fun p => h.windowEntries p) (fun p => h.windowWoken p)
      fun n => ∃ p, h.windowRaised p n := by
  have heffect := windowPorts_effect h
  rw [windowEnd_eq h hw]
  generalize each Hub.windowEndPort h = g at heffect ⊢
  obtain ⟨hwritten, hsup, hgrows, hmarked, htables, hseconds⟩ := heffect
  exact ⟨hwritten, hsup, hgrows, hmarked, htables, hseconds⟩

theorem windowEnd_hub (hw : h.tables.window ≤ h.lvm.windowCount) : h.windowEnd = { h with
    ulc := { h.ulc with gates := h.windowEnd.ulc.gates }
    lvm := h.windowEnd.lvm, fsv := h.windowEnd.fsv, sbl := h.windowEnd.sbl, mga := h.windowEnd.mga } := by
  have hg := windowPorts_hub h
  have he := windowEnd_eq h hw
  generalize each Hub.windowEndPort h = g at hg he
  rw [he, hg]

theorem windowEnd_counts (hw : h.tables.window ≤ h.lvm.windowCount) :
    h.windowEnd.lvm.windowCount = 0 ∧ h.windowEnd.lvm.windowNumber = h.lvm.windowNumber + 1 := by
  have hg := windowPorts_hub h
  rw [windowEnd_eq h hw]
  generalize each Hub.windowEndPort h = g at hg ⊢
  exact ⟨rfl, congrArg (· + 1) ((congrArg (fun g : Hub => g.lvm.windowNumber) hg).trans rfl)⟩

theorem windowEnd_mga (hw : h.tables.window ≤ h.lvm.windowCount) : h.windowEnd.mga = { h.mga with
    responses := h.mga.responses ++ (List.finRange 24).filterMap fun p => h.windowAnswer p
    busy := if ∃ p : PortId, h.lvm.ports[p].loop.isRunning = true then none else h.mga.busy
    busyRipe := if ∃ p : PortId, h.lvm.ports[p].loop.isRunning = true then false else h.mga.busyRipe
    marks := h.windowEnd.mga.marks } := by
  have hm := windowPorts_mga h (List.finRange 24) (List.nodup_finRange 24)
  have he : (List.finRange 24).foldl (fun t p => Hub.windowEndPort p t) h = each Hub.windowEndPort h := rfl
  dsimp only at hm
  rw [he] at hm
  have hall : (∃ p ∈ List.finRange 24, h.lvm.ports[p].loop.isRunning = true) ↔
      ∃ p : PortId, h.lvm.ports[p].loop.isRunning = true :=
    exists_congr fun p => and_iff_right (List.mem_finRange p)
  rw [if_congr hall rfl rfl, if_congr hall rfl rfl] at hm
  rw [windowEnd_eq h hw]
  generalize each Hub.windowEndPort h = g at hm ⊢
  exact hm

theorem windowEnd_donor (hw : h.tables.window ≤ h.lvm.windowCount) (d : DonorId) :
    h.windowEnd.faultRecord (.donor d) = h.faultRecord (.donor d) :=
  (faultRecord_windowEnd h hw (.donor d)).trans (windowPorts_donor h d)

theorem windowMeter_of_testing (hr : h.lvm.ports[p].loop.isRunning = true) :
    h.windowMeter p = { h.lvm.ports[p].dropWindow with loop := .none } := if_pos hr

theorem windowMeter_of_cleared (hr : h.lvm.ports[p].loop.isRunning = false) (hc : h.lvm.ports[p].cleared = true) :
    h.windowMeter p = h.lvm.ports[p] := (if_neg (ne_true_of_eq_false hr)).trans (if_pos hc)

theorem not_handsOn (hx : h.lvm.ports[p].loop.isRunning = true ∨ h.lvm.ports[p].cleared = true) : ¬ h.handsOn p :=
  fun hh => hx.elim (ne_true_of_eq_false hh.1) (ne_true_of_eq_false hh.2)

/-- A meter of a port that hands on, after the window (R98, R99). -/
theorem complete_eq (m : Meter) (k offset : Nat) (void : Bool) : m.complete k offset void =
    let code := if void then 0 else levelCode (windowMean m.acc k)
    { integrator := m.integrator, lastGood := m.lastGood
      acc := 0, held := 0
      last := { mean := if void then 0 else windowMean m.acc k
                code := code, net := code - offset, held := m.held, void := void }
      extremes := if void then m.extremes
        else if m.extremes.count = 0 then { largest := code - offset, smallest := code - offset, count := 1 }
        else { largest := max m.extremes.largest (code - offset), smallest := min m.extremes.smallest (code - offset)
               count := min (m.extremes.count + 1) (2 ^ 32 - 1) } } := by
  cases void <;> rfl

theorem windowMeter_rest (hh : h.handsOn p) :
    let m := h.windowMeter p
    let v := h.lvm.ports[p]
    let a := activityOf h.eventTables (h.windowNets p)
    m.activity = a
    ∧ m.smoothed = (if h.frame[p].link = .up ∧ v.void = false then
        ((v.smoothed : Int) + roundShift (((if h.frame[p].silenced then 0 else a : Nat) : Int) - v.smoothed)
          h.eventTables.alpha).toNat
      else v.smoothed)
    ∧ m.loop = (match v.loop with
        | .pending tag => .running tag
        | x => x) := by
  rw [windowMeter_of_hands h p hh, startTest_rest]
  dsimp only
  refine ⟨rfl, ?_, ?_⟩
  · unfold PortMeter.complete
    dsimp only
    refine if_congr (and_congr_right fun _ => ?_) rfl rfl
    cases h.lvm.ports[p].void <;> decide
  · rfl

end Ports

end Sys2Proof.Machine

namespace Sys2Proof
open Machine

/-- Settles O31. -/
theorem windowEndCompletesEveryMeter : Obligations.WindowEndCompletesEveryMeter := by
  intro s h T k testing mean overload silent hands code net inMask measured loud low heard awakes calmed due first leaves hw
  have hnet (p : PortId) (b : Lane) : (h.windowNets p)[b] = net p b := windowNets_get h p b
  have hloud (p : PortId) : h.loudWindow p (h.windowNets p) ↔ loud p :=
    exists_congr fun b => and_congr_right fun _ => Iff.of_eq (congrArg (T.overloadLevel p b ≤ ·) (hnet p b))
  have hlow (p : PortId) : h.lowWindow p (h.windowNets p) ↔ low p :=
    forall_congr' fun b => imp_congr_right fun _ => Iff.of_eq (congrArg (· + 4 < T.overloadLevel p b) (hnet p b))
  have hheard (p : PortId) : h.heardWindow p (h.windowNets p) ↔ heard p :=
    exists_congr fun b => and_congr_right fun _ => Iff.of_eq (congrArg (0 < ·) (hnet p b))
  have hawakes (p : PortId) : h.awakeWindow p (h.windowNets p) ↔ awakes p :=
    exists_congr fun b => Iff.of_eq (congrArg (T.wakeLevel p ≤ ·) (hnet p b))
  have hcalmed (p : PortId) : h.calmedWindow p h.lvm.ports[p].void (h.windowNets p) ↔ calmed p :=
    or_congr_right (and_congr (not_congr (hloud p)) (hlow p))
  have hmeter := fun p => windowEnd_meter h p hw
  have hdets (p : PortId) : h.windowEnd.fsv.detectors[p] = h.windowDetectors p := by
    rw [windowEnd_eq h hw, ← windowPorts_detectors]
  have hrecord := windowEnd_record h hw
  obtain ⟨hwritten, hsup, -, hmarked, -, -⟩ := windowEnd_effect h hw
  have hshape := windowEnd_hub h hw
  have hmga := windowEnd_mga h hw
  have hdonor := windowEnd_donor h hw
  obtain ⟨hcount, hnumber⟩ := windowEnd_counts h hw
  generalize hg : h.windowEnd = g at hmeter hdets hrecord hwritten hsup hmarked hshape hmga hdonor hcount hnumber
  refine ⟨_, next_congr hg, rfl, hcount, hnumber, fun p hr => ?_, fun p hr hc => ?_, fun p hx => ⟨?_, fun c => ?_⟩,
    fun p hr hc => ?_, fun p hh => ?_, ?_, ?_, ?_, ?_, fun e he => ?_, hshape⟩
  · exact (hmeter p).trans (congrArg (fun m : PortMeter => { m with void := false }) (windowMeter_of_testing h p hr))
  · exact (hmeter p).trans (congrArg (fun m : PortMeter => { m with void := false }) (windowMeter_of_cleared h p hr hc))
  · exact (hdets p).trans (if_neg (not_handsOn h p hx))
  · exact (hrecord p c).trans (if_neg (not_handsOn h p hx))
  · have hh : h.handsOn p := ⟨hr, hc⟩
    obtain ⟨hactivity, hsmoothed, hloop⟩ := windowMeter_rest h p hh
    have hsum : activityOf h.eventTables (h.windowNets p) =
        net p 0 * T.lambda 0 + net p 1 * T.lambda 1 + net p 2 * T.lambda 2 + net p 3 * T.lambda 3 := by
      rw [activityOf_eq, hnet, hnet, hnet, hnet]
      rfl
    rw [hsum] at hactivity hsmoothed
    refine ⟨fun b => ?_, ?_, ?_, ?_, ?_, ?_⟩
    · have hm := congrArg (fun m : PortMeter => m.meters[b]) (windowMeter_of_hands h p hh)
      exact ((congrArg (fun m : PortMeter => m.meters[b]) (hmeter p)).trans hm).trans
        ((startTest_meters p _ _ _ b).trans (complete_eq _ _ _ _))
    · exact (congrArg PortMeter.activity (hmeter p)).trans hactivity
    · exact (congrArg PortMeter.smoothed (hmeter p)).trans hsmoothed
    · exact congrArg PortMeter.void (hmeter p)
    · exact (congrArg PortMeter.loop (hmeter p)).trans hloop
    · have hm : h.measuredWindow p h.lvm.ports[p].void ↔ measured p := Iff.rfl
      rw [hdets p, show h.windowDetectors p = _ from if_pos hh]
      unfold Hub.detectorsAfter
      simp only [hloud p, hheard p]
      rfl
  · have hfirst : h.silentFirst p = first p := rfl
    rw [hrecord, hrecord, show h.windowRecord p .ulOverload = _ from if_pos hh,
      show h.windowRecord p .ulSilent = _ from if_pos hh]
    refine ⟨if_congr ((and_iff_right rfl).trans (hcalmed p)) rfl rfl, ?_⟩
    exact (if_neg fun hc => (nomatch hc.1)).trans ((if_pos rfl).trans (if_congr (hheard p) rfl rfl))
  · refine (congrArg (h.fsv.written g.fsv) (List.flatMap_congr fun p _ => ?_)).mp hwritten
    exact if_congr Iff.rfl (congrArg₂ (· ++ ·) (congrArg₂ (· ++ ·) (if_congr (hcalmed p) rfl rfl) rfl)
      (if_congr (hheard p) rfl rfl)) rfl
  · refine supervises_congr hsup fun p => ?_
    by_cases hh : hands p
    · exact (if_pos hh).trans (if_congr ((hawakes p).trans (and_iff_right hh).symm) rfl
        (if_congr (and_iff_right hh).symm rfl rfl))
    · exact (if_neg hh).trans ((if_neg fun hc => hh hc.1).trans (if_neg fun hc => hh hc.1)).symm
  · refine hmarked.congr fun n => ⟨?_, ?_⟩
    · rintro ⟨p, hh, ⟨hn, hd, hen⟩ | ⟨hn, hwake, hq⟩⟩
      · exact .inl ⟨hn, p, hh, hd, hen⟩
      · exact .inr ⟨hn, p, hh, hwake.imp_left (hawakes p).mp, hq⟩
    · rintro (⟨hn, p, hh, hd, hen⟩ | ⟨hn, p, hh, hwake, hq⟩)
      · exact ⟨p, hh, .inl ⟨hn, hd, hen⟩⟩
      · exact ⟨p, hh, .inr ⟨hn, hwake.imp_left (hawakes p).mpr, hq⟩⟩
  · refine hmga.trans ?_
    refine congrArg (fun x => { h.mga with
      responses := h.mga.responses ++ x
      busy := if ∃ p : PortId, testing p = true then none else h.mga.busy
      busyRipe := if ∃ p : PortId, testing p = true then false else h.mga.busyRipe
      marks := g.mga.marks }) (List.filterMap_congr fun p _ => ?_)
    unfold Hub.windowAnswer
    cases h.lvm.ports[p].loop <;> rfl
  · cases e with
    | donor d => exact hdonor d
    | port p c =>
      obtain ⟨ho, hs⟩ := he p
      have hco : c ≠ .ulOverload := fun hc => ho (congrArg (FaultKey.port p) hc)
      have hcs : c ≠ .ulSilent := fun hc => hs (congrArg (FaultKey.port p) hc)
      have hafter : h.recordAfter p h.lvm.ports[p].void (h.windowNets p) c = h.faultRecord (.port p c) :=
        (if_neg fun hc => hco hc.1).trans (if_neg hcs)
      refine (hrecord p c).trans ?_
      unfold Hub.windowRecord
      rw [hafter]
      exact ite_self _

end Sys2Proof
end

section
/-! Presentations of the detectors and of a recomputation (O29). -/

namespace Sys2Proof.Machine

/-! ## The ports one after the other -/

namespace Hub.Handled

variable {p q : PortId} {h g : Hub} {d : Detectors} {r : PortClass → FaultRecord} {xs : List HistoryEntry}
  {w : Option WakeCause} {P : Notice → Prop} (x : h.Handled q g d r xs w P) (hqp : q ≠ p)
include x hqp

theorem record_other (c : PortClass) : g.faultRecord (.port p c) = h.faultRecord (.port p c) :=
  x.others _ fun _ he => hqp (FaultKey.port.inj he).1.symm

theorem detectors_other : g.fsv.detectors[p] = h.fsv.detectors[p] := (x.detectors p).trans (if_neg (Ne.symm hqp))

theorem quiet_other : g.isQuiet p = h.isQuiet p := by
  rw [x.isQuiet p, if_neg (Ne.symm hqp)]
  exact Bool.and_true _

end Hub.Handled

/-- What is done of all ports: their detectors become `det`, their records `rec`, with the effect of all. -/
structure Hub.HandledAll (h g : Hub) (det : PortId → Detectors) (rec : PortId → PortClass → FaultRecord)
    (entries : List HistoryEntry) (woken : PortId → Option WakeCause) (raised : Notice → Prop) : Prop where
  hub : g = { h with fsv := g.fsv, sbl := g.sbl, mga := { h.mga with marks := g.mga.marks } }
  detectors : ∀ p : PortId, g.fsv.detectors[p] = det p
  ports : ∀ (p : PortId) (c : PortClass), g.faultRecord (.port p c) = rec p c
  donors : ∀ d : DonorId, g.faultRecord (.donor d) = h.faultRecord (.donor d)
  effect : h.Effect g entries woken raised

theorem handled_each {f : PortId → Hub → Hub} {D : PortId → Hub → Detectors} {Rec : PortId → Hub → PortClass → FaultRecord}
    {E : PortId → Hub → List HistoryEntry} {w : PortId → Hub → Option WakeCause} {R : PortId → Hub → Notice → Prop}
    (hsame : ∀ p q h, q ≠ p → D p (f q h) = D p h ∧ Rec p (f q h) = Rec p h ∧ E p (f q h) = E p h
      ∧ w p (f q h) = w p h ∧ ∀ n, R p (f q h) n ↔ R p h n)
    (hf : ∀ (p : PortId) (h : Hub), h.Handled p (f p h) (D p h) (Rec p h) (E p h) (w p h) (R p h)) (h : Hub) :
    h.HandledAll (each f h) (fun p => D p h) (fun p => Rec p h) ((List.finRange 24).flatMap fun p => E p h)
      (fun p => w p h) fun n => ∃ p, R p h n where
  hub := by
    refine each_rel (R := fun a b : Hub => b = { a with
      fsv := b.fsv, sbl := b.sbl, mga := { a.mga with marks := b.mga.marks } }) (fun _ => rfl) (fun {a b c} x y => ?_)
      (fun p h => (hf p h).hub) h
    rw [y, x]
  detectors p := each_out (out := fun h : Hub => h.fsv.detectors[p]) (view := D p) p (fun q h hqp => (hsame p q h hqp).1)
    (fun q h hqp => (hf q h).detectors_other hqp) (fun h => (hf p h).det) h
  ports p c := each_out (out := fun h : Hub => h.faultRecord (.port p c)) (view := fun h => Rec p h c) p
    (fun q h hqp => congrFun (hsame p q h hqp).2.1 c) (fun q h hqp => (hf q h).record_other hqp c)
    (fun h => (hf p h).own c) h
  donors d := each_keep (out := fun h : Hub => h.faultRecord (.donor d))
    (fun q h => (hf q h).others (.donor d) fun _ he => FaultKey.noConfusion he) h
  effect := effect_each (fun p q h hqp => (hsame p q h hqp).2.2) (fun p h => (hf p h).effect) h

/-! ## The changes of a recomputation -/

section Range
variable (was : Vector PortEq 24) (p : PortId) (h : Hub)

/-- The DELAY_RANGE state of a port has risen, and that is handed on (R75, R78). -/
def Hub.rangeRises : Bool :=
  decide (¬ (h.mga.busy = some .restart ∧ h.mga.busyRipe = true)) && h.deq.ports[p].range && !was[p].range

/-- The DELAY_RANGE state of a port has fallen, and that is handed on (R75, R78). -/
def Hub.rangeFalls : Bool :=
  decide (¬ (h.mga.busy = some .restart ∧ h.mga.busyRipe = true)) && !h.deq.ports[p].range && was[p].range

theorem rangeChange_eq : h.rangeChange was p =
    if h.rangeRises was p then h.present (.port p .delayRange)
    else if h.rangeFalls was p then h.clearCondition (.port p .delayRange) else h := by
  unfold Hub.rangeChange Hub.rangeRises Hub.rangeFalls
  by_cases hr : h.mga.busy = some .restart ∧ h.mga.busyRipe = true
  · rw [if_pos (.inr (restartDue_iff.mpr hr)), decide_eq_false (not_not.mpr hr)]
    rfl
  · have hd : ¬ h.restartDue = true := fun hd => hr (restartDue_iff.mp hd)
    rw [decide_eq_true hr]
    cases hn : h.deq.ports[p].range <;> cases hw : was[p].range <;> simp [hd]

def Hub.rangeRecord (c : PortClass) : FaultRecord :=
  let k := FaultKey.port p .delayRange
  if c = .delayRange then
    if h.rangeRises was p then (h.faultRecord k).presented h.tables k.row
    else if h.rangeFalls was p then (h.faultRecord k).cleared else h.faultRecord k
  else h.faultRecord (.port p c)

def Hub.rangeEntries : List HistoryEntry :=
  let k := FaultKey.port p .delayRange
  if h.rangeRises was p then (h.faultRecord k).presentEntries h.tables k h.mga.seconds
  else if h.rangeFalls was p then (h.faultRecord k).clearEntries k h.mga.seconds else []

/-- A risen DELAY_RANGE takes a record out of IDLE. -/
def Hub.rangeLeaves : Bool :=
  let k := FaultKey.port p .delayRange
  h.rangeRises was p && (h.faultRecord k).detects h.tables k.row && decide ((h.faultRecord k).state = .idle)

def Hub.rangeRaised (n : Notice) : Prop :=
  let k := FaultKey.port p .delayRange
  n = .fault ∧ h.rangeRises was p = true ∧ (h.faultRecord k).enters h.tables k.row = true
  ∨ n = .quiet ∧ h.rangeLeaves was p = true ∧ h.isQuiet p = true

theorem handled_rangeChange : h.Handled p (h.rangeChange was p) h.fsv.detectors[p] (h.rangeRecord was p)
    (h.rangeEntries was p) (if h.rangeLeaves was p then some .fault else none) (h.rangeRaised was p) := by
  rw [rangeChange_eq]
  refine (handled_if (c := h.rangeRises was p = true) (handled_present h p .delayRange)
    (handled_if (c := h.rangeFalls was p = true) (handled_clear h p .delayRange) (handled_nothing h p))).congr
    ?_ (fun c => ?_) rfl ?_ fun n => ?_
  · rw [ite_self, ite_self]
  · unfold Hub.rangeRecord
    by_cases hc : c = .delayRange
    · subst hc
      rfl
    · simp only [if_neg hc, ite_self]
  · unfold Hub.rangeLeaves
    cases h.rangeRises was p with
    | true => simp
    | false => simp
  · unfold Hub.rangeRaised Hub.rangeLeaves
    cases h.rangeRises was p with
    | true => simp
    | false => simp

end Range

theorem rangeTurns (was : Vector PortEq 24) (h : Hub) : h.HandledAll (each (Hub.rangeChange was) h)
    (fun p => h.fsv.detectors[p]) (fun p => h.rangeRecord was p) ((List.finRange 24).flatMap fun p => h.rangeEntries was p)
    (fun p => if h.rangeLeaves was p then some .fault else none) fun n => ∃ p, h.rangeRaised was p n := by
  refine handled_each (D := fun p h => h.fsv.detectors[p]) (Rec := fun p h => h.rangeRecord was p)
    (E := fun p h => h.rangeEntries was p) (w := fun p h => if h.rangeLeaves was p then some .fault else none)
    (R := fun p h => h.rangeRaised was p) (fun p q h hqp => ?_) (fun p h => handled_rangeChange was p h) h
  have x := handled_rangeChange was q h
  have hrec := fun c => x.record_other hqp c
  have hdeq : (h.rangeChange was q).deq = h.deq := (congrArg Hub.deq x.hub).trans rfl
  have hbusy : (h.rangeChange was q).mga.busy = h.mga.busy := (congrArg Mga.busy x.mga).trans rfl
  have hripe : (h.rangeChange was q).mga.busyRipe = h.mga.busyRipe := (congrArg Mga.busyRipe x.mga).trans rfl
  have hrises : (h.rangeChange was q).rangeRises was p = h.rangeRises was p := by
    unfold Hub.rangeRises
    rw [hdeq, hbusy, hripe]
  have hfalls : (h.rangeChange was q).rangeFalls was p = h.rangeFalls was p := by
    unfold Hub.rangeFalls
    rw [hdeq, hbusy, hripe]
  have hleaves : (h.rangeChange was q).rangeLeaves was p = h.rangeLeaves was p := by
    unfold Hub.rangeLeaves
    dsimp only
    rw [hrises, hrec, x.tables]
  refine ⟨x.detectors_other hqp, funext fun c => ?_, ?_, congrArg (fun b : Bool => if b then some _ else none) hleaves,
    fun n => ?_⟩
  · unfold Hub.rangeRecord
    dsimp only
    rw [hrises, hfalls, hrec, hrec, x.tables]
  · unfold Hub.rangeEntries
    dsimp only
    rw [hrises, hfalls, hrec, x.tables, x.seconds]
  · unfold Hub.rangeRaised
    dsimp only
    rw [hrises, hleaves, hrec, x.tables, x.quiet_other hqp]

/-- A detector's presentation (R139 to R141). -/
theorem present_onDet (h : Hub) (p : PortId) (k : PortClass) (f : Detectors → Detectors) :
    let g := (h.onDet p f).present (.port p k)
    h.presents g p k ∧ g.fsv.detectors = upd h.fsv.detectors p f
    ∧ g = { h with fsv := g.fsv, sbl := g.sbl, mga := g.mga } := by
  obtain ⟨hpres, hdets, hframes⟩ := present_spec (h.onDet p f) p k
  exact ⟨hpres, hdets, hframes⟩

end Sys2Proof.Machine

namespace Sys2Proof
open Machine

/-- Settles O29. -/
theorem detectorsPresentByMode : Obligations.DetectorsPresentByMode := by
  refine ⟨?_, ?_, ?_⟩
  · intro h p action ha
    have hacts (r : FaultRecord) (m : ResponseMode) : r.acts m = true ↔
        r.state ∈ [RecordState.active, .cooling, .latched] ∧ (m = .latched ∨ m = .retry) := by
      unfold FaultRecord.acts
      cases r.state <;> cases m <;> decide
    have hiff : action (h.actions p) = true ↔ _ := actions_iff (action := action) ?_ ?_ h p
    · rw [hiff]
      simp only [hacts, and_assoc]
    · simp only [List.mem_cons, List.not_mem_nil, or_false] at ha
      rcases ha with rfl | rfl | rfl <;> exact fun _ _ => rfl
    · simp only [List.mem_cons, List.not_mem_nil, or_false] at ha
      rcases ha with rfl | rfl | rfl <;> rfl
  · intro p k c s h d hc
    rcases hc with ⟨rfl, rfl, hd⟩ | ⟨rfl, rfl, hd⟩ | ⟨rfl, rfl, hd⟩
    · obtain ⟨hpres, hdets, hhub⟩ := present_onDet h p .crcRate fun d => { d with crcDue := false }
      refine ⟨_, next_congr (if_pos hd), rfl, hpres, hdets.trans (upd_congr ?_), hhub⟩
      simp
    · obtain ⟨hpres, hdets, hhub⟩ := present_onDet h p .ulOverload fun d => { d with overloadDue := false }
      refine ⟨_, next_congr (if_pos hd), rfl, hpres, hdets.trans (upd_congr ?_), hhub⟩
      simp
    · obtain ⟨hpres, hdets, hhub⟩ := present_onDet h p .ulSilent fun d => { d with silentDue := false }
      refine ⟨_, next_congr (if_pos hd), rfl, hpres, hdets.trans (upd_congr ?_), hhub⟩
      simp
  · intro s h hd
    have hturns := rangeTurns h.deq.ports h.recomputed
    have hexec : exec (.frameBoundary .deqRecompute) s =
        .next { s with hub := each (Hub.rangeChange h.deq.ports) h.recomputed } := next_congr (deqRecompute_eq hd)
    generalize each (Hub.rangeChange h.deq.ports) h.recomputed = g at hturns hexec
    obtain ⟨hhub, -, hports, hdonors, ⟨hwritten, hsup, -, hmarked, -, -⟩⟩ := hturns
    have hdeq : g.deq = h.recomputed.deq := (congrArg Hub.deq hhub).trans rfl
    refine ⟨_, hexec, ?_⟩
    intro key r stamp acts rises falls leaves
    have hrises (p : PortId) : h.recomputed.rangeRises h.deq.ports p = rises p := by
      change _ = (decide acts && g.deq.ports[p].range && !h.deq.ports[p].range)
      rw [hdeq]
      rfl
    have hfalls (p : PortId) : h.recomputed.rangeFalls h.deq.ports p = falls p := by
      change _ = (decide acts && !g.deq.ports[p].range && h.deq.ports[p].range)
      rw [hdeq]
      rfl
    have hleaves (p : PortId) : h.recomputed.rangeLeaves h.deq.ports p = leaves p :=
      congrArg (fun b => b && (r p).detects h.tables (key p).row && decide ((r p).state = .idle)) (hrises p)
    refine ⟨fun p => ?_, fun k hk => ?_, ?_, ?_, ?_, ?_⟩
    · refine (hports p .delayRange).trans ?_
      unfold Hub.rangeRecord
      dsimp only
      rw [if_pos rfl, hrises, hfalls]
      rfl
    · cases k with
      | donor d => exact hdonors d
      | port p c =>
        exact (hports p c).trans (if_neg fun hc => hk p (congrArg (FaultKey.port p) hc))
    · refine (congrArg (h.fsv.written g.fsv) (List.flatMap_congr fun p _ => ?_)).mp hwritten
      unfold Hub.rangeEntries
      rw [hrises, hfalls]
      rfl
    · exact supervises_congr hsup fun p => congrArg (fun b : Bool => if b then some _ else none) (hleaves p)
    · exact (congrArg Hub.mga hhub).trans rfl
    · refine hmarked.congr fun n => ⟨?_, ?_⟩
      · rintro ⟨p, ⟨hn, hr, he⟩ | ⟨hn, hl, hq⟩⟩
        · exact .inl ⟨hn, p, hrises p ▸ hr, he⟩
        · exact .inr ⟨hn, p, hleaves p ▸ hl, hq⟩
      · rintro (⟨hn, p, hr, he⟩ | ⟨hn, p, hl, hq⟩)
        · exact ⟨p, .inl ⟨hn, hrises p ▸ hr, he⟩⟩
        · exact ⟨p, .inr ⟨hn, hleaves p ▸ hl, hq⟩⟩

end Sys2Proof
end

section
/-! SECOND_MARK (O28). -/

namespace Sys2Proof.Machine

/-! ## The counts toward the intervals -/

theorem markPoll_eq (h : Hub) : h.markPoll = { h with cte := { h.cte with
    pollCount := if h.eventTables.pollInterval ≤ h.cte.pollCount + 1 then 0 else h.cte.pollCount + 1
    pollDue := h.cte.pollDue || decide (h.eventTables.pollInterval ≤ h.cte.pollCount + 1) } } := by
  rcases markPoll_cases h with ⟨hlt, he⟩ | ⟨hle, he⟩
  · rw [he, if_neg (Nat.not_le.mpr hlt), decide_eq_false (Nat.not_le.mpr hlt), Bool.or_false]
  · rw [he, if_pos hle, decide_eq_true hle, Bool.or_true]

/-- A second mark completes a balance interval (R114, R133). -/
abbrev Hub.intervalReached (h : Hub) : Prop :=
  h.inService = true ∧ h.bd.serviceBegun = false ∧ h.eventTables.interval ≤ h.sbl.intervalCount + 1

theorem markInterval_eq (h : Hub) : h.markInterval = { h with sbl := { h.sbl with
    intervalCount := if h.intervalReached then 0
      else if h.inService = true ∧ h.bd.serviceBegun = false then h.sbl.intervalCount + 1 else h.sbl.intervalCount
    intervalDue := h.sbl.intervalDue || decide h.intervalReached } } := by
  rcases markInterval_cases h with ⟨hno, he⟩ | ⟨hs, hlt, he⟩ | ⟨⟨hs, hb⟩, hle, he⟩
  · have hn : ¬ (h.inService = true ∧ h.bd.serviceBegun = false) := fun hc =>
      hno.elim (ne_false_of_eq_true hc.1) (ne_true_of_eq_false hc.2)
    have hr : ¬ h.intervalReached := fun hc => hn ⟨hc.1, hc.2.1⟩
    rw [he, if_neg hr, if_neg hn, decide_eq_false hr, Bool.or_false]
  · have hr : ¬ h.intervalReached := fun hc => Nat.not_le.mpr hlt hc.2.2
    rw [he, if_neg hr, if_pos hs, decide_eq_false hr, Bool.or_false]
  · have hr : h.intervalReached := ⟨hs, hb, hle⟩
    rw [he, if_pos hr, decide_eq_true hr, Bool.or_true]

/-! ## The completed second of every port -/

section Errored
variable (h : Hub) (p : PortId)

/-- CRC_RATE clears at a second mark (R139). -/
def Hub.crcClears : Bool :=
  decide (h.lnk.remote[p].erroredSec ≤ h.tables.param (FaultKey.row (.port p .crcRate)) / 4)

def Hub.crcRecord (c : PortClass) : FaultRecord :=
  if c = .crcRate ∧ h.crcClears p = true then (h.faultRecord (.port p c)).cleared else h.faultRecord (.port p c)

def Hub.crcEntries : List HistoryEntry :=
  if h.crcClears p then (h.faultRecord (.port p .crcRate)).clearEntries (.port p .crcRate) h.mga.seconds else []

theorem markErrored_eq : h.markErrored p =
    (if h.crcClears p then h.clearCondition (.port p .crcRate) else h).onRemote p fun r => { r with erroredSec := 0 } := by
  unfold Hub.markErrored Hub.crcClears
  exact congrArg (fun g : Hub => g.onRemote p fun r => { r with erroredSec := 0 }) (if_congr decide_eq_true_iff.symm rfl rfl)

theorem handled_crcClear : h.Handled p (if h.crcClears p then h.clearCondition (.port p .crcRate) else h)
    h.fsv.detectors[p] (h.crcRecord p) (h.crcEntries p) none fun _ => False := by
  refine (handled_if (c := h.crcClears p = true) (handled_clear h p .crcRate) (handled_nothing h p)).congr
    (ite_self _) (fun c => ?_) rfl (ite_self _) fun n => by simp
  unfold Hub.crcRecord
  by_cases hc : c = .crcRate
  · subst hc
    simp only [true_and, if_true]
  · simp only [hc, false_and, if_false, ite_self]

/-- All that a completed second does of one port. -/
structure Hub.ErroredTurn (g : Hub) : Prop where
  hub : g = { h with
    lnk := { h.lnk with remote := upd h.lnk.remote p fun r => { r with erroredSec := 0 } }
    fsv := g.fsv }
  detectors : g.fsv.detectors = h.fsv.detectors
  own : ∀ c : PortClass, g.faultRecord (.port p c) = h.crcRecord p c
  others : ∀ k : FaultKey, (∀ c, k ≠ .port p c) → g.faultRecord k = h.faultRecord k
  effect : h.Effect g (h.crcEntries p) (fun _ => none) fun _ => False

theorem erroredTurn : h.ErroredTurn p (h.markErrored p) := by
  rw [markErrored_eq]
  have x := handled_crcClear h p
  have hblock : (if h.crcClears p then h.clearCondition (.port p .crcRate) else h) = { h with
      fsv := (if h.crcClears p then h.clearCondition (.port p .crcRate) else h).fsv } := by
    cases h.crcClears p with
    | true =>
      obtain ⟨-, -, -, he⟩ := clear_spec h (.port p .crcRate)
      exact he
    | false => rfl
  have hdets : (if h.crcClears p then h.clearCondition (.port p .crcRate) else h).fsv.detectors = h.fsv.detectors := by
    cases h.crcClears p with
    | true =>
      obtain ⟨-, -, hdets, -⟩ := clear_spec h (.port p .crcRate)
      exact hdets
    | false => rfl
  generalize (if h.crcClears p then h.clearCondition (.port p .crcRate) else h) = g at x hblock hdets ⊢
  refine ⟨?_, hdets, x.own, x.others, ?_⟩
  · rw [hblock]
    rfl
  · refine (x.effect.trans (.nothing (h := g) (g := g.onRemote p fun r => { r with erroredSec := 0 }) rfl rfl rfl
      (fun _ => rfl) rfl rfl rfl)).congr (List.append_nil _) (fun q => ?_) fun n => or_self_iff
    split <;> rfl

end Errored

theorem erroredTurn_other {h g : Hub} {p q : PortId} (hqp : q ≠ p) (x : h.ErroredTurn q g) :
    g.lnk.remote[p] = h.lnk.remote[p] ∧ (∀ c, g.faultRecord (.port p c) = h.faultRecord (.port p c))
    ∧ g.crcClears p = h.crcClears p ∧ g.mga = h.mga := by
  have hg := x.hub
  have hr : g.lnk.remote[p] = h.lnk.remote[p] := by
    rw [hg]
    exact upd_get_other _ _ hqp
  have ht : g.tables = h.tables := (congrArg Hub.tables hg).trans rfl
  refine ⟨hr, fun c => x.others _ fun _ he => hqp (FaultKey.port.inj he).1.symm, ?_, (congrArg Hub.mga hg).trans rfl⟩
  unfold Hub.crcClears
  rw [hr, ht]

/-- All that the completed second does of all ports (R13, R139). -/
theorem erroredTurns (h : Hub) : let g := each Hub.markErrored h
    g = { h with
      lnk := { h.lnk with remote := g.lnk.remote }
      fsv := g.fsv }
    ∧ (∀ p : PortId, g.lnk.remote[p] = { h.lnk.remote[p] with erroredSec := 0 })
    ∧ g.fsv.detectors = h.fsv.detectors
    ∧ (∀ (p : PortId) (c : PortClass), g.faultRecord (.port p c) = h.crcRecord p c)
    ∧ (∀ d : DonorId, g.faultRecord (.donor d) = h.faultRecord (.donor d))
    ∧ h.fsv.written g.fsv ((List.finRange 24).flatMap fun p => h.crcEntries p) := by
  intro g
  refine ⟨?_, fun p => ?_, ?_, fun p c => ?_, fun d => ?_, ?_⟩
  · refine each_rel (R := fun a b : Hub => b = { a with lnk := { a.lnk with remote := b.lnk.remote }, fsv := b.fsv })
      (fun _ => rfl) (fun {a b c} x y => ?_) (fun p h => ?_) h
    · rw [y, x]
    · have hg := (erroredTurn h p).hub
      rw [hg]
  · refine each_out (out := fun h : Hub => h.lnk.remote[p]) (view := fun h => { h.lnk.remote[p] with erroredSec := 0 }) p
      (fun q h hqp => ?_) (fun q h hqp => (erroredTurn_other hqp (erroredTurn h q)).1) (fun h => ?_) h
    · exact congrArg (fun r : RemoteLink => { r with erroredSec := 0 }) (erroredTurn_other hqp (erroredTurn h q)).1
    · exact (congrArg (fun g : Hub => g.lnk.remote[p]) (erroredTurn h p).hub).trans (upd_get_same ..)
  · exact each_keep (out := fun h : Hub => h.fsv.detectors) (fun p h => (erroredTurn h p).detectors) h
  · refine each_out (out := fun h : Hub => h.faultRecord (.port p c)) (view := fun h => h.crcRecord p c) p
      (fun q h hqp => ?_) (fun q h hqp => (erroredTurn_other hqp (erroredTurn h q)).2.1 c)
      (fun h => (erroredTurn h p).own c) h
    obtain ⟨-, hrec, hclears, -⟩ := erroredTurn_other hqp (erroredTurn h q)
    unfold Hub.crcRecord
    rw [hrec, hclears]
  · exact each_keep (out := fun h : Hub => h.faultRecord (.donor d))
      (fun q h => (erroredTurn h q).others (.donor d) fun _ he => FaultKey.noConfusion he) h
  · refine (effect_each (E := fun p h => h.crcEntries p) (w := fun _ _ => none) (R := fun _ _ _ => False)
      (fun p q h hqp => ⟨?_, rfl, fun _ => Iff.rfl⟩) (fun p h => ?_) h).written
    · obtain ⟨-, hrec, hclears, hmga⟩ := erroredTurn_other hqp (erroredTurn h q)
      unfold Hub.crcEntries
      rw [hrec, hclears, hmga]
    · exact (erroredTurn h p).effect.congr rfl (fun q => (ite_self _).symm) fun _ => Iff.rfl

/-! ## The second mark -/

/-- The detectors of port `p` after a second mark (R141). -/
def Hub.silentMarked (h : Hub) (p : PortId) (d : Detectors) : Detectors :=
  let counts := h.isUp p = true ∧ d.silentMark = true
  let n := min (d.silence + 1) 3600
  { d with
    silentMark := true
    silence := if h.isUp p = false then 0 else if counts then n else d.silence
    silentDue := d.silentDue || decide (counts ∧ h.tables.param (FaultKey.row (.port p .ulSilent)) ≤ n) }

theorem markSilent_eq (h : Hub) (p : PortId) : h.markSilent p = h.onDet p (h.silentMarked p) := by
  unfold Hub.markSilent
  refine onDet_congr ?_
  unfold Hub.silentMarked
  cases hu : h.isUp p with
  | false => simp
  | true =>
    cases hm : h.fsv.detectors[p].silentMark with
    | false => simp
    | true => simp [bump]

/-- The hub whose counts of a second have taken their step (R114, R152, R167). -/
def Hub.secondCounted (h : Hub) : Hub :=
  { h with
    mga := { h.mga with frameCount := 0, seconds := min (h.mga.seconds + 1) (2 ^ 32 - 1) }
    cte := { h.cte with
      pollCount := if h.eventTables.pollInterval ≤ h.cte.pollCount + 1 then 0 else h.cte.pollCount + 1
      pollDue := h.cte.pollDue || decide (h.eventTables.pollInterval ≤ h.cte.pollCount + 1) }
    sbl := { h.sbl with
      intervalCount := if h.intervalReached then 0
        else if h.inService = true ∧ h.bd.serviceBegun = false then h.sbl.intervalCount + 1 else h.sbl.intervalCount
      intervalDue := h.sbl.intervalDue || decide h.intervalReached } }

theorem secondCounted_eq (h : Hub) :
    ({ h with mga := { h.mga with frameCount := 0, seconds := sat32 h.mga.seconds 1 } } : Hub).markPoll.markInterval =
      h.secondCounted := by
  rw [markPoll_eq, markInterval_eq]
  rfl

theorem secondMark_eq (h : Hub) (ho : h.bd.isOpen = true) (hf : 16000 ≤ h.mga.frameCount) : h.secondMark =
    let g := each Hub.markErrored h.secondCounted
    { g with fsv := { g.fsv with
      portRecords := mapTab (mapTab FaultRecord.tick) g.fsv.portRecords
      donorRecords := mapTab FaultRecord.tick g.fsv.donorRecords
      detectors := tab fun p => g.silentMarked p g.fsv.detectors[p] } } := by
  have hdue : h.markDue = true := by
    unfold Hub.markDue
    rw [ho, decide_eq_true hf]
    rfl
  unfold Hub.secondMark
  rw [hdue]
  refine (if_neg Bool.false_ne_true).trans ?_
  dsimp only
  rw [secondCounted_eq]
  generalize each Hub.markErrored h.secondCounted = g
  have hsilent : (Hub.markSilent : PortId → Hub → Hub) = fun p g => g.onDet p (g.silentMarked p) :=
    funext fun p => funext fun g => markSilent_eq g p
  rw [hsilent]
  exact each_onDet (f := Hub.silentMarked) (fun _ _ => rfl) _

/-- A record that a clearing has changed is lowered as it would have been (R136). -/
theorem cleared_tick (r : FaultRecord) : r.cleared.tick = { r with
    timer := if r.fresh = false ∧ (r.state = .cooling ∨ r.state = .idle) then r.timer - 1 else r.timer
    present := false, state := r.cleared.state } := by
  unfold FaultRecord.tick FaultRecord.cleared
  cases hs : r.state <;> cases hp : r.present <;> cases hf : r.fresh <;> simp

theorem tick_eq (r : FaultRecord) : r.tick = { r with
    timer := if r.fresh = false ∧ (r.state = .cooling ∨ r.state = .idle) then r.timer - 1 else r.timer } := by
  unfold FaultRecord.tick
  by_cases hc : r.fresh = false ∧ (r.state = .cooling ∨ r.state = .idle)
  · rw [if_pos hc]
    exact if_pos (by simpa using hc)
  · rw [if_neg hc]
    exact if_neg (by simpa using hc)

/-- A second mark lowers a timer, and beside that only what it changes of the condition and the state. -/
theorem tick_parts (r : FaultRecord) : r.tick = { r with
    timer := if r.fresh = false ∧ (r.state = .cooling ∨ r.state = .idle) then r.timer - 1 else r.timer
    present := r.tick.present, state := r.tick.state } := by
  rw [tick_eq]

theorem cleared_tick_parts (r : FaultRecord) : r.cleared.tick = { r with
    timer := if r.fresh = false ∧ (r.state = .cooling ∨ r.state = .idle) then r.timer - 1 else r.timer
    present := r.cleared.tick.present, state := r.cleared.tick.state } := by
  rw [cleared_tick]

theorem faultRecord_tick (g : Hub) (v : Vector Detectors 24) (k : FaultKey) :
    ({ g with fsv := { g.fsv with
      portRecords := mapTab (mapTab FaultRecord.tick) g.fsv.portRecords
      donorRecords := mapTab FaultRecord.tick g.fsv.donorRecords
      detectors := v } } : Hub).faultRecord k = (g.faultRecord k).tick := by
  cases k with
  | port p c => exact (congrArg (fun v : Vector FaultRecord 8 => v[c.idx]) (mapTab_get _ _ p)).trans (mapTab_get _ _ c.idx)
  | donor d => exact mapTab_get _ _ d

end Sys2Proof.Machine

namespace Sys2Proof
open Machine

/-- Settles O28. -/
theorem secondMarkServesTheSecond : Obligations.SecondMarkServesTheSecond := by
  intro s h old polls crc cleared reached hf
  have hmark := secondMark_eq h (openBoundary_isOpen s.hub) hf
  obtain ⟨hhub, hremote, hdets, hports, hdonors, hwritten⟩ := erroredTurns h.secondCounted
  generalize each Hub.markErrored h.secondCounted = g at hmark hhub hremote hdets hports hdonors hwritten
  have hcrc (p : PortId) : h.secondCounted.crcClears p = cleared p := rfl
  have hother (p : PortId) (c : PortClass) (hc : c ≠ .crcRate) : g.faultRecord (.port p c) = h.faultRecord (.port p c) :=
    (hports p c).trans (if_neg fun hx => hc hx.1)
  have hown (p : PortId) : g.faultRecord (.port p .crcRate) = if cleared p then (crc p).cleared else crc p :=
    (hports p .crcRate).trans (if_congr (and_iff_right rfl) rfl rfl)
  have hmga : g.mga = h.secondCounted.mga := (congrArg Hub.mga hhub).trans rfl
  have hcte : g.cte = h.secondCounted.cte := (congrArg Hub.cte hhub).trans rfl
  have hsbl : g.sbl = h.secondCounted.sbl := (congrArg Hub.sbl hhub).trans rfl
  have htables : g.tables = h.tables := (congrArg Hub.tables hhub).trans rfl
  have hup (p : PortId) : g.isUp p = h.isUp p := by
    unfold Hub.isUp Hub.linkOf
    rw [hremote p]
    rfl
  refine ⟨_, next_congr hmark, rfl, hmga, hcte, ?_, hsbl, hremote, fun k => ?_, fun p => ?_, fun k hk => ?_, fun p => ?_, ?_⟩
  · refine (congrArg (h.fsv.written g.fsv) (List.flatMap_congr fun p _ => ?_)).mp hwritten
    rw [hmga]
    rfl
  · rw [faultRecord_tick]
    cases k with
    | donor d =>
      rw [hdonors]
      exact tick_parts _
    | port p c =>
      by_cases hc : c = .crcRate
      · subst hc
        rw [hown]
        cases cleared p with
        | true =>
          rw [if_pos rfl]
          exact cleared_tick_parts _
        | false =>
          rw [if_neg Bool.false_ne_true]
          exact tick_parts _
      · rw [hother p c hc]
        exact tick_parts _
  · rw [faultRecord_tick, hown]
    cases cleared p with
    | true =>
      rw [if_pos rfl, cleared_tick, Bool.not_true, Bool.and_false]
      refine ⟨rfl, if_congr (and_congr_right fun _ => (and_iff_right rfl).symm) rfl rfl⟩
    | false =>
      rw [if_neg Bool.false_ne_true, tick_eq, Bool.not_false, Bool.and_true]
      exact ⟨rfl, (if_neg fun hx => Bool.false_ne_true hx.2.1).symm⟩
  · rw [faultRecord_tick]
    have hsame : g.faultRecord k = h.faultRecord k := by
      cases k with
      | donor d => exact hdonors d
      | port p c => exact hother p c fun hc => hk p (congrArg (FaultKey.port p) hc)
    rw [hsame, tick_eq]
    exact ⟨rfl, rfl⟩
  · refine (tab_get _ p).trans ?_
    rw [hdets]
    unfold Hub.silentMarked
    rw [hup, htables]
    rfl
  · have hparts := congrArg (fun x : Hub => { x with fsv := { g.fsv with
      portRecords := mapTab (mapTab FaultRecord.tick) g.fsv.portRecords
      donorRecords := mapTab FaultRecord.tick g.fsv.donorRecords
      detectors := tab fun p => g.silentMarked p g.fsv.detectors[p] } }) hhub
    refine hparts.trans ?_
    rw [hsbl, hcte, hmga]
    rfl

end Sys2Proof
end

section
/-! A remote port leaves PROVING or UP (O16). -/

namespace Sys2Proof.Machine

/-! ## Responses that free the agent -/

/-- The agent gives some responses; any of them frees it (R18, R19, R107). -/
def Mga.given (m : Mga) (rs : List Response) : Mga :=
  { m with
    responses := m.responses ++ rs
    busy := if rs = [] then m.busy else none
    busyRipe := if rs = [] then m.busyRipe else false }

theorem Mga.given_nil (m : Mga) : m.given [] = m := by
  unfold Mga.given
  rw [List.append_nil]
  rfl

theorem Mga.given_given (m : Mga) (rs ts : List Response) : (m.given rs).given ts = m.given (rs ++ ts) := by
  unfold Mga.given
  dsimp only
  rw [List.append_assoc]
  cases rs <;> cases ts <;> rfl

theorem respond_free {h : Hub} {st : Status} (hs : st ≠ .ok) (tag reason : Byte) (report : List Byte) :
    (h.respond tag st reason report).free = { h with mga := h.mga.given [badResponse tag st reason report] } := by
  rw [respond_eq hs]
  rfl

section Exit
variable (h : Hub) (p : PortId)

/-- The responses to a MEASURE_DELAY that the exit of port `p` ends (R18, R19). -/
def Hub.measureAnswers : List Response :=
  let r := h.lnk.remote[p]
  let measured : List Response := match r.meas.running, r.meas.origin with
    | true, .request tag => [badResponse tag .timeout 0 (measureReport r r.meas.taken)]
    | _, _ => []
  let waiting : List Response := match h.mga.busy with
    | some (.measureStart tag q) =>
      if q = p ∧ measured = [] then [badResponse tag .timeout 0 (measureReport r 0)] else []
    | _ => []
  measured ++ waiting

/-- The response to a loop test of port `p` that ends as ABORTED (R107). -/
def Hub.testAnswers : List Response :=
  match h.lvm.ports[p].loop with
  | .none => []
  | .pending tag | .running tag => [badResponse tag .timeout 0 [0]]

theorem exitAnswers_eq : h.exitAnswers p = h.measureAnswers p ++ if h.isUp p then h.testAnswers p else [] := by
  unfold Hub.exitAnswers Hub.measureAnswers Hub.testAnswers
  dsimp only
  refine congrArg₂ _ rfl ?_
  cases h.lvm.ports[p].loop <;> cases h.isUp p <;> rfl

/-- The answer to a MEASURE_DELAY that still waits to start (R19). -/
theorem waiting_eq (report : List Byte) : (match h.mga.busy with
    | some (.measureStart tag q) => if q = p then (h.respond tag .timeout 0 report).free else h
    | _ => h) = { h with mga := h.mga.given (match h.mga.busy with
      | some (.measureStart tag q) => if q = p then [badResponse tag .timeout 0 report] else []
      | _ => []) } := by
  have hnil : h = { h with mga := h.mga.given [] } := by rw [Mga.given_nil]
  cases h.mga.busy with
  | none => exact hnil
  | some b =>
    cases b with
    | measureStart tag q =>
      dsimp only
      by_cases hq : q = p
      · rw [if_pos hq, if_pos hq, respond_free (by decide)]
      · rw [if_neg hq, if_neg hq]
        exact hnil
    | _ => exact hnil

theorem abortMeasurement_eq : h.abortMeasurement p = { h with
    lnk := { h.lnk with remote := upd h.lnk.remote p fun r => { r with meas := { r.meas with running := false } } }
    mga := h.mga.given (h.measureAnswers p) } := by
  unfold Hub.abortMeasurement Hub.measureAnswers
  dsimp only
  cases hr : h.lnk.remote[p].meas.running with
  | false =>
    rw [if_neg Bool.false_ne_true]
    have hsame : (upd h.lnk.remote p fun r => { r with meas := { r.meas with running := false } }) = h.lnk.remote := by
      refine upd_same ?_
      rw [← hr]
    rw [hsame]
    refine (waiting_eq h p _).trans ?_
    simp
  | true =>
    rw [if_pos rfl]
    cases ho : h.lnk.remote[p].meas.origin with
    | entry =>
      rw [endMeasurement_entry ho]
      refine (waiting_eq _ p _).trans ?_
      have hreport : measureReport
          (h.onRemote p fun r => { r with meas := { r.meas with running := false } }).lnk.remote[p] 0 =
          measureReport h.lnk.remote[p] 0 := by
        dsimp only [Hub.onRemote]
        rw [upd_get_same]
        rfl
      rw [hreport]
      simp [Hub.onRemote]
    | request tag =>
      rw [endMeasurement_request ho]
      have hno (b : Option Busy) (x : Response) (report : List Byte) : (match b with
          | some (.measureStart tag q) => if q = p ∧ [x] = [] then [badResponse tag .timeout 0 report] else []
          | _ => []) = ([] : List Response) := by
        split
        · exact if_neg fun hc => List.cons_ne_nil _ _ hc.2
        · rfl
      rw [hno, List.append_nil]
      rfl

theorem loopAbort_eq (leftUp : Bool) : h.loopAbort p leftUp = { h with
    lvm := { h.lvm with ports := upd h.lvm.ports p fun m =>
      if m.loop ≠ .none then { m.dropWindow with loop := .none, void := m.void || leftUp } else m }
    mga := h.mga.given (h.testAnswers p) } := by
  have hfinish (tag : Byte) (hl : h.lvm.ports[p].loop ≠ .none) :
      ((h.onMeter p fun m => { m.dropWindow with loop := .none, void := m.void || leftUp }).respond tag .timeout 0 [0]).free
      = { h with
        lvm := { h.lvm with ports := upd h.lvm.ports p fun m =>
          if m.loop ≠ .none then { m.dropWindow with loop := .none, void := m.void || leftUp } else m }
        mga := h.mga.given [badResponse tag .timeout 0 [0]] } := by
    rw [respond_free (by decide)]
    refine congrArg (fun v => { h with
      lvm := { h.lvm with ports := v }, mga := h.mga.given [badResponse tag .timeout 0 [0]] }) (upd_congr ?_)
    exact (if_pos hl).symm
  unfold Hub.loopAbort Hub.testAnswers
  dsimp only
  cases hl : h.lvm.ports[p].loop with
  | none =>
    dsimp only
    rw [Mga.given_nil, upd_same (v := h.lvm.ports)]
    exact if_neg fun hn => hn hl
  | pending tag => exact hfinish tag fun hn => by rw [hl] at hn; cases hn
  | running tag => exact hfinish tag fun hn => by rw [hl] at hn; cases hn

/-! ## The exit -/

/-- What the exit of port `p` from PROVING or UP does, up to LINK_LOSS (R10). -/
def Hub.exited (leave : LinkCore → LinkCore) : Hub :=
  { h with
    lnk := { h.lnk with remote := upd h.lnk.remote p fun r => { r with
      meas := { r.meas with running := false }, core := leave r.core, mask := 0 } }
    cte := { h.cte with
      transaction := if h.cte.inFlight p then none else h.cte.transaction
      ports := upd h.cte.ports p fun c => { c with pending := false, misses := 0, field := none } }
    dlc := { h.dlc with combining := h.dlc.combining.set p.val false p.isLt }
    ulc := { h.ulc with gates := upd h.ulc.gates p fun _ => .replicate 4 .closed }
    lvm := { h.lvm with
      ports := upd h.lvm.ports p fun m =>
        if h.isUp p = true ∧ m.loop ≠ .none then { m.dropWindow with loop := .none, void := true } else m }
    sbl := if h.isUp p then { h.sbl with
        ports := upd h.sbl.ports p fun b => if h.isQuiet p then
          { b with quiet := false, quietDue := false, quietCount := 0, wakeCause := .link } else b
        flight := h.sbl.flight.map fun m =>
          if m.entry.port = p ∧ m.ending = none then { m with ending := some .link } else m }
      else h.sbl
    mga := if h.isUp p then
        (if h.isQuiet p then (h.mga.given (h.exitAnswers p)).raised .quiet else h.mga.given (h.exitAnswers p)).raised .link
      else h.mga.given (h.exitAnswers p) }

/-- The exit of an UP port: its loop test is ABORTED, its move marked, and it wakes (R107, R126, R131). -/
theorem leftUp_eq : ((((h.loopAbort p true).markMove p .link).wakePort p .link).raise .link) = { h with
    lvm := { h.lvm with ports := upd h.lvm.ports p fun m =>
      if m.loop ≠ .none then { m.dropWindow with loop := .none, void := true } else m }
    sbl := { h.sbl with
      ports := upd h.sbl.ports p fun b => if h.isQuiet p then
        { b with quiet := false, quietDue := false, quietCount := 0, wakeCause := .link } else b
      flight := h.sbl.flight.map fun m =>
        if m.entry.port = p ∧ m.ending = none then { m with ending := some .link } else m }
    mga := (if h.isQuiet p then (h.mga.given (h.testAnswers p)).raised .quiet else h.mga.given (h.testAnswers p)).raised .link } := by
  have hvoid (b : Bool) : (b || true) = true := Bool.or_true b
  rw [loopAbort_eq, markMove_eq, wakePort_eq]
  simp only [hvoid]
  cases hq : h.isQuiet p with
  | true =>
    refine (congrArg (fun g : Hub => g.raise .link) (if_pos hq)).trans ?_
    simp only [if_true]
    rfl
  | false =>
    refine (congrArg (fun g : Hub => g.raise .link) (if_neg (ne_true_of_eq_false hq))).trans ?_
    simp only [Bool.false_eq_true, if_false]
    rw [upd_same (v := h.sbl.ports) rfl]
    rfl

theorem exitRemote_eq (leave : LinkCore → LinkCore) (loss : Bool) : h.exitRemote p leave loss =
    if loss then ((h.exited p leave).onCore (.remote p) LinkCore.countDrop).present (.port p .linkLoss)
    else h.exited p leave := by
  have hexit (g : Hub) (hg : g = h.exited p leave) :
      (if loss then (g.onCore (.remote p) LinkCore.countDrop).present (.port p .linkLoss) else g) =
      if loss then ((h.exited p leave).onCore (.remote p) LinkCore.countDrop).present (.port p .linkLoss)
      else h.exited p leave := by rw [hg]
  refine hexit _ ?_
  rw [abortMeasurement_eq]
  unfold Hub.exited
  rw [exitAnswers_eq]
  have hbase : (((({ h with
        lnk := { h.lnk with remote := upd h.lnk.remote p fun r => { r with meas := { r.meas with running := false } } }
        mga := h.mga.given (h.measureAnswers p) } : Hub).cteExit p).onRemote p fun r =>
          { r with core := leave r.core, mask := 0 }).setCombining p false).closeGates p = { h with
      lnk := { h.lnk with remote := upd h.lnk.remote p fun r => { r with
        meas := { r.meas with running := false }, core := leave r.core, mask := 0 } }
      cte := { h.cte with
        transaction := if h.cte.inFlight p then none else h.cte.transaction
        ports := upd h.cte.ports p fun c => { c with pending := false, misses := 0, field := none } }
      dlc := { h.dlc with combining := h.dlc.combining.set p.val false p.isLt }
      ulc := { h.ulc with gates := upd h.ulc.gates p fun _ => .replicate 4 .closed }
      mga := h.mga.given (h.measureAnswers p) } := by
    dsimp only [Hub.cteExit, Hub.onRemote, Hub.onCte, Hub.setCombining, Hub.closeGates, Hub.onGates]
    rw [upd_upd]
  dsimp only
  rw [hbase]
  cases hu : h.isUp p with
  | true =>
    have htest (u : Lnk) (v : Cte) (x : Dlc) (y : Ulc) (m : Mga) :
        ({ h with lnk := u, cte := v, dlc := x, ulc := y, mga := m } : Hub).testAnswers p = h.testAnswers p := rfl
    rw [if_pos rfl, leftUp_eq, htest]
    simp only [if_true, Mga.given_given, true_and]
    rfl
  | false =>
    simp only [Bool.false_eq_true, if_false, false_and, List.append_nil]
    rw [upd_same (v := h.lvm.ports) rfl]

end Exit

end Sys2Proof.Machine
end

section
/-! A remote port leaves PROVING or UP, after what its frame has decided (O16). -/

namespace Sys2Proof.Machine

/-! ## What the frame has decided -/

theorem lnk_present (h : Hub) (p : PortId) (c : PortClass) : (h.present (.port p c)).lnk = h.lnk := by
  obtain ⟨f, b, m, he, -⟩ := present_blocks h p c
  rw [he]

theorem lnk_clear (h : Hub) (k : FaultKey) : (h.clearCondition k).lnk = h.lnk := by
  obtain ⟨f, he, -⟩ := clear_blocks h k
  rw [he]

theorem lnk_answerTransaction (h : Hub) (p : PortId) : (h.answerTransaction p).lnk = h.lnk := lnk_clear _ _

theorem endMeasurement_keeps (h : Hub) (p : PortId) (st : Status) : let g := h.endMeasurement p st
    g.cte = h.cte ∧ g.bd = h.bd
    ∧ g.lnk.remote[p] = { h.lnk.remote[p] with meas := { h.lnk.remote[p].meas with running := false } } := by
  cases ho : h.lnk.remote[p].meas.origin with
  | entry =>
    rw [endMeasurement_entry ho]
    exact ⟨rfl, rfl, upd_get_same ..⟩
  | request tag =>
    rw [endMeasurement_request ho]
    exact ⟨rfl, rfl, upd_get_same ..⟩

/-- The end of a measurement leaves the engine, and the port's core and lane mask (R18). -/
theorem measurementDone_keeps (h : Hub) (p : PortId) : let g := h.measurementDone p
    g.cte = h.cte ∧ g.bd = h.bd ∧ g.lnk.remote[p].core = h.lnk.remote[p].core
    ∧ g.lnk.remote[p].mask = h.lnk.remote[p].mask := by
  unfold Hub.measurementDone
  dsimp only
  split
  · generalize h.lnk.remote[p].meas.minimum.getD (0, false) = x
    have hrem : (h.onRemote p fun r => { r with lastRT := x.1, delay := (x.1 + 1) / 2, rtRange := x.2 }).lnk.remote[p] =
        { h.lnk.remote[p] with lastRT := x.1, delay := (x.1 + 1) / 2, rtRange := x.2 } := upd_get_same ..
    obtain ⟨hcte, hbd, hr⟩ := endMeasurement_keeps
      (h.onRemote p fun r => { r with lastRT := x.1, delay := (x.1 + 1) / 2, rtRange := x.2 }) p .ok
    dsimp only at hr
    rw [hrem] at hr
    exact ⟨hcte, hbd, (congrArg RemoteLink.core hr).trans rfl, (congrArg RemoteLink.mask hr).trans rfl⟩
  · exact ⟨rfl, rfl, rfl, rfl⟩

/-- Four round trips complete a measurement (R18). -/
theorem measurementDone_done {h : Hub} {p : PortId} {rt : Nat} {out : Bool} (hr : (h.lnk.remote[p]).meas.running = true)
    (ht : (h.lnk.remote[p]).meas.taken = 4) (hm : (h.lnk.remote[p]).meas.minimum = some (rt, out)) :
    let r := (h.measurementDone p).lnk.remote[p]
    r.lastRT = rt ∧ r.delay = (rt + 1) / 2 ∧ r.rtRange = out ∧ r.meas.running = false := by
  have hrem : (h.onRemote p fun r => { r with lastRT := rt, delay := (rt + 1) / 2, rtRange := out }).lnk.remote[p] =
      { h.lnk.remote[p] with lastRT := rt, delay := (rt + 1) / 2, rtRange := out } := upd_get_same ..
  obtain ⟨-, -, hrest⟩ := endMeasurement_keeps
    (h.onRemote p fun r => { r with lastRT := rt, delay := (rt + 1) / 2, rtRange := out }) p .ok
  rw [measurementDone_eq hr ht hm]
  dsimp only at hrest ⊢
  rw [hrest, hrem]
  exact ⟨rfl, rfl, rfl, rfl⟩

theorem statusReply_lnk (h : Hub) : h.statusReply.lnk = h.lnk := by
  by_cases hn : ∃ x f, h.cte.transaction = some x ∧ x.kind = .status ∧ h.replyOf x = some f
  · obtain ⟨x, f, hx, hk, hf⟩ := hn
    rw [statusReply_eq hx hk hf]
    dsimp only
    split
    · exact (lnk_present _ _ _).trans (lnk_answerTransaction h x.port)
    · exact (lnk_clear _ _).trans (lnk_answerTransaction h x.port)
  · rw [statusReply_of_not hn]

/-- What an identify reply leaves of a port's link, and that an aligned one stays aligned (R8, R11). -/
theorem identifyReply_remote (h : Hub) (p : PortId) : let r := h.lnk.remote[p]
    let r' := h.identifyReply.lnk.remote[p]
    r'.meas = r.meas ∧ r'.delay = r.delay ∧ r'.lastRT = r.lastRT ∧ r'.rtRange = r.rtRange
    ∧ (r.core.state.aligned = true → r'.core.state.aligned = true) ∧ r'.core.bad = r.core.bad := by
  by_cases hn : ∃ x f, h.cte.transaction = some x ∧ x.kind = .identify ∧ h.replyOf x = some f
  · obtain ⟨x, f, hx, hk, hf⟩ := hn
    rw [identifyReply_eq hx hk hf]
    have hlnk : ((h.answerTransaction x.port).onCte x.port fun c =>
        { c with nextAttempt := 1, identify := some (identifyFields f) }).lnk = h.lnk := lnk_answerTransaction h x.port
    generalize (h.answerTransaction x.port).onCte x.port (fun c =>
        { c with nextAttempt := 1, identify := some (identifyFields f) }) = g at hlnk ⊢
    obtain ⟨fsv, he, -⟩ := goodIdentify_blocks g x.port (identifyFields f).mask
    rw [he, ← hlnk]
    dsimp only [Hub.identified]
    by_cases hp : x.port = p
    · subst hp
      rw [upd_get_same]
      refine ⟨rfl, rfl, rfl, rfl, fun ha => ?_, rfl⟩
      dsimp only
      split
      · rfl
      · exact ha
    · rw [upd_get_other _ _ hp]
      exact ⟨rfl, rfl, rfl, rfl, id, rfl⟩
  · rw [identifyReply_of_not hn]
    exact ⟨rfl, rfl, rfl, rfl, id, rfl⟩

section Due
variable {h : Hub} {p : PortId} (ha : (h.linkOf p).aligned = true)
include ha

theorem takeDue_of_aligned : h.takeDue p =
    let g := h.measurementDone p
    if g.cte.inFlight p then g.identifyReply.statusReply else g := by
  have hsame : h.linkAligned (.remote p) = h := linkAligned_of_not fun hn => by
    have hs : (h.linkOf p) = .hunt := hn.1
    rw [hs] at ha
    cases ha
  unfold Hub.takeDue
  rw [hsame]
  exact if_pos ha

theorem takeDue_lnk : (h.takeDue p).lnk =
    if (h.measurementDone p).cte.inFlight p then (h.measurementDone p).identifyReply.lnk else (h.measurementDone p).lnk := by
  rw [takeDue_of_aligned ha]
  refine (apply_ite Hub.lnk _ _ _).trans ?_
  rw [statusReply_lnk]

theorem takeDue_aligned : ((h.takeDue p).linkOf p).aligned = true := by
  obtain ⟨-, -, hcore, -⟩ := measurementDone_keeps h p
  have hg : ((h.measurementDone p).linkOf p).aligned = true :=
    (congrArg (fun c : LinkCore => c.state.aligned) hcore).trans ha
  unfold Hub.linkOf
  rw [takeDue_lnk ha]
  split
  · obtain ⟨-, -, -, -, hkeeps, -⟩ := identifyReply_remote (h.measurementDone p) p
    exact hkeeps hg
  · exact hg

theorem takeDue_bad : ((h.takeDue p).lnk.remote[p]).core.bad = h.lnk.remote[p].core.bad := by
  obtain ⟨-, -, hcore, -⟩ := measurementDone_keeps h p
  rw [takeDue_lnk ha]
  split
  · obtain ⟨-, -, -, -, -, hbad⟩ := identifyReply_remote (h.measurementDone p) p
    exact hbad.trans (congrArg LinkCore.bad hcore)
  · exact congrArg LinkCore.bad hcore

theorem takeDue_measured {rt : Nat} {out : Bool} (hr : (h.lnk.remote[p]).meas.running = true)
    (ht : (h.lnk.remote[p]).meas.taken = 4) (hm : (h.lnk.remote[p]).meas.minimum = some (rt, out)) :
    (h.takeDue p).lnk.remote[p].lastRT = rt ∧ (h.takeDue p).lnk.remote[p].delay = (rt + 1) / 2
    ∧ (h.takeDue p).lnk.remote[p].rtRange = out ∧ (h.takeDue p).lnk.remote[p].meas.running = false := by
  obtain ⟨hlast, hdelay, hrange, hrunning⟩ := measurementDone_done hr ht hm
  rw [takeDue_lnk ha]
  split
  · obtain ⟨hmeas, hd, hl, hrt, -⟩ := identifyReply_remote (h.measurementDone p) p
    exact ⟨hl.trans hlast, hd.trans hdelay, hrt.trans hrange, (congrArg Measurement.running hmeas).trans hrunning⟩
  · exact ⟨hlast, hdelay, hrange, hrunning⟩

theorem takeDue_identified {x : Transaction} {f : List Byte} (hx : h.cte.transaction = some x) (hp : x.port = p)
    (hk : x.kind = .identify) (hf : h.replyOf x = some f) :
    (h.takeDue p).linkOf p = .up ∧ (h.takeDue p).lnk.remote[p].mask = (identifyFields f).mask
    ∧ (h.takeDue p).cte.transaction = none := by
  obtain ⟨hcte, hbd, hcore, -⟩ := measurementDone_keeps h p
  have hg : ((h.measurementDone p).linkOf p).aligned = true :=
    (congrArg (fun c : LinkCore => c.state.aligned) hcore).trans ha
  rw [takeDue_of_aligned ha]
  generalize h.measurementDone p = g at hcte hbd hg ⊢
  have hfly : g.cte.inFlight p = true := by
    unfold Cte.inFlight
    rw [hcte, hx]
    exact decide_eq_true hp
  have hreply : g.replyOf x = some f := by
    unfold Hub.replyOf at hf ⊢
    rwa [hcte, hbd]
  dsimp only
  rw [if_pos hfly, identifyReply_eq (hcte ▸ hx) hk hreply]
  subst hp
  have hlnk : ((g.answerTransaction x.port).onCte x.port fun c =>
      { c with nextAttempt := 1, identify := some (identifyFields f) }).lnk = g.lnk := lnk_answerTransaction g x.port
  have hnone : ((g.answerTransaction x.port).onCte x.port fun c =>
      { c with nextAttempt := 1, identify := some (identifyFields f) }).cte.transaction = none := by
    obtain ⟨fsv, he, -⟩ := answerTransaction_blocks g x.port fun c =>
      { c with nextAttempt := 1, identify := some (identifyFields f) }
    rw [he]
    rfl
  generalize (g.answerTransaction x.port).onCte x.port (fun c =>
    { c with nextAttempt := 1, identify := some (identifyFields f) }) = k at hlnk hnone ⊢
  obtain ⟨fsv, he, -⟩ := goodIdentify_blocks k x.port (identifyFields f).mask
  have hdone : (k.goodIdentify x.port (identifyFields f).mask).cte.transaction = none := by
    rw [he]
    exact hnone
  have hstatus : (k.goodIdentify x.port (identifyFields f).mask).statusReply =
      k.goodIdentify x.port (identifyFields f).mask := statusReply_of_not fun ⟨y, _, hy, _⟩ => by
    rw [hdone] at hy
    cases hy
  have hremote : (k.goodIdentify x.port (identifyFields f).mask).lnk.remote[x.port] = { k.lnk.remote[x.port] with
      mask := (identifyFields f).mask
      core := { k.lnk.remote[x.port].core with
        state := if k.lnk.remote[x.port].core.state = .proving then .up else k.lnk.remote[x.port].core.state } } := by
    rw [he]
    exact upd_get_same ..
  rw [hstatus]
  refine ⟨?_, ?_, hdone⟩
  · unfold Hub.linkOf
    rw [hremote]
    have hst : (k.lnk.remote[x.port].core.state).aligned = true := by
      rw [hlnk]
      exact hg
    dsimp only
    generalize k.lnk.remote[x.port].core.state = st at hst
    cases st <;> cases hst <;> rfl
  · rw [hremote]

end Due

/-! ## The exit and LINK_LOSS -/

section Exit
variable (h : Hub) (p : PortId)

theorem onCore_exited (leave f : LinkCore → LinkCore) :
    (h.exited p leave).onCore (.remote p) f = h.exited p fun c => f (leave c) := by
  dsimp only [Hub.onCore, Hub.onRemote, Hub.exited]
  rw [upd_upd]

theorem exited_onCore (leave f : LinkCore → LinkCore) (hf : ∀ c, (f c).state = c.state) :
    (h.onCore (.remote p) f).exited p leave = h.exited p fun c => leave (f c) := by
  have hr : (h.onCore (.remote p) f).lnk.remote[p] = { h.lnk.remote[p] with core := f h.lnk.remote[p].core } :=
    upd_get_same ..
  have hup : (h.onCore (.remote p) f).isUp p = h.isUp p := by
    unfold Hub.isUp Hub.linkOf
    rw [hr, hf]
  have hans : (h.onCore (.remote p) f).exitAnswers p = h.exitAnswers p := by
    unfold Hub.exitAnswers
    rw [hr, hup]
    rfl
  have hquiet : (h.onCore (.remote p) f).isQuiet p = h.isQuiet p := rfl
  unfold Hub.exited
  rw [hup, hans, hquiet]
  dsimp only [Hub.onCore, Hub.onRemote]
  rw [upd_upd]
  rfl

/-- A remote port that is aligned when a signal-absent reaches it leaves its aligned state (R3, R10). -/
theorem signalAbsent_remote (ha : (h.linkOf p).aligned = true) : h.signalAbsent (.remote p) =
    ((h.takeDue p).exited p fun c => (LinkCore.enterDown { c with signal := false }).countDrop).present
      (.port p .linkLoss) := by
  have hd := takeDue_aligned ha
  unfold Hub.signalAbsent Hub.takeLinkDue
  dsimp only
  rw [Hub.onCore_core_same]
  have hne : ((h.takeDue p).core (.remote p)).state ≠ .disabled := fun he => by
    have hd' : (((h.takeDue p).core (.remote p)).state).aligned = true := hd
    rw [he] at hd'
    cases hd'
  refine (if_neg hne).trans ((if_pos hd).trans ?_)
  unfold Hub.loseLink
  dsimp only
  rw [exitRemote_eq, if_pos rfl, exited_onCore _ _ _ (fun c => { c with signal := false }) fun _ => rfl, onCore_exited]

theorem alignmentLost_remote (ha : (h.linkOf p).aligned = true) (hb : 8 ≤ h.lnk.remote[p].core.bad) :
    h.alignmentLost (.remote p) =
      ((h.takeDue p).exited p fun c => c.enterHunt.countDrop).present (.port p .linkLoss) := by
  unfold Hub.alignmentLost Hub.loseLink Hub.takeLinkDue
  refine (if_pos ⟨ha, hb⟩).trans ?_
  dsimp only
  rw [exitRemote_eq, if_pos rfl, onCore_exited]

/-- What the exit wakes and marks, with the presentation of LINK_LOSS after it (R126, R131). -/
theorem sbl_lost (leave : LinkCore → LinkCore) :
    let r := h.faultRecord (.port p .linkLoss)
    let leaves := r.detects h.tables (FaultKey.port p .linkLoss).row = true ∧ r.state = .idle
    let g := (h.exited p leave).present (.port p .linkLoss)
    (h.isUp p = false → h.supervises g fun q => if q = p ∧ leaves then some .fault else none)
    ∧ (h.isUp p = true → g.sbl = { h.sbl with
      ports := upd h.sbl.ports p fun b => if h.isQuiet p then
        { b with quiet := false, quietDue := false, quietCount := 0, wakeCause := .link } else b
      flight := h.sbl.flight.map fun m =>
        if m.entry.port = p ∧ m.ending = none then { m with ending := some .link } else m }) := by
  intro r leaves g
  obtain ⟨⟨hrec, -, hsup, -, -⟩, -, hframes⟩ := present_spec (h.exited p leave) p .linkLoss
  refine ⟨fun hu => ?_, fun hu => ?_⟩
  · have hsbl : (h.exited p leave).sbl = h.sbl := if_neg (ne_true_of_eq_false hu)
    have hq (q : PortId) : (h.exited p leave).isQuiet q = h.isQuiet q := by
      unfold Hub.isQuiet
      rw [hsbl]
    unfold Hub.supervises at hsup ⊢
    rw [hsbl] at hsup
    simp only [hq] at hsup
    exact hsup
  · have hsbl : (h.exited p leave).sbl = { h.sbl with
        ports := upd h.sbl.ports p fun b => if h.isQuiet p then
          { b with quiet := false, quietDue := false, quietCount := 0, wakeCause := .link } else b
        flight := h.sbl.flight.map fun m =>
          if m.entry.port = p ∧ m.ending = none then { m with ending := some .link } else m } := if_pos hu
    have hawake : (h.exited p leave).isQuiet p = false := by
      unfold Hub.isQuiet
      rw [hsbl]
      dsimp only
      rw [upd_get_same]
      cases hq : h.isQuiet p
      · exact hq
      · rfl
    have hothers (q : PortId) (hqp : q ≠ p) : g.actions q = (h.exited p leave).actions q :=
      actions_congr (congrArg Tld.tables (supervised_present (h.exited p leave) _).tld) fun e => by
        rw [hrec, if_neg fun he => hqp (FaultKey.port.inj he).1]
    rw [← hsbl]
    have hsup' : (h.exited p leave).supervises g fun q => if q = p ∧ leaves then some .fault else none := hsup
    clear_value g
    generalize h.exited p leave = e at hsup' hsbl hawake hothers ⊢
    have hports : (tab fun q => match if q = p ∧ leaves then some WakeCause.fault else none with
        | some cause => if e.isQuiet q then
            { e.sbl.ports[q] with quiet := false, quietDue := false, quietCount := 0, wakeCause := cause }
          else e.sbl.ports[q]
        | none => e.sbl.ports[q]) = e.sbl.ports := by
      refine Vector.ext fun i hi => (tab_getElem ..).trans ?_
      by_cases hip : (⟨i, hi⟩ : PortId) = p ∧ leaves
      · rw [if_pos hip]
        exact if_neg (ne_true_of_eq_false (hip.1.symm ▸ hawake))
      · rw [if_neg hip]
        rfl
    have hflight : e.sbl.flight.map (fun m =>
        if m.ending = none ∧ ((g.actions m.entry.port).mute = true ∧ (e.actions m.entry.port).mute = false
            ∨ (g.actions m.entry.port).isolate = true ∧ (e.actions m.entry.port).isolate = false)
        then { m with ending := some .action } else m) = e.sbl.flight := by
      rw [hsbl]
      dsimp only
      rw [Option.map_map]
      refine congrArg (fun f => h.sbl.flight.map f) (funext fun m => ?_)
      have hnot (x : MoveRecord) (hx : x.ending = none → x.entry.port ≠ p) : ¬ (x.ending = none
          ∧ ((g.actions x.entry.port).mute = true ∧ (e.actions x.entry.port).mute = false
            ∨ (g.actions x.entry.port).isolate = true ∧ (e.actions x.entry.port).isolate = false)) := by
        rintro ⟨hnone, hact⟩
        rw [hothers x.entry.port (hx hnone)] at hact
        rcases hact with ⟨hn, ho⟩ | ⟨hn, ho⟩
        · exact ne_true_of_eq_false ho hn
        · exact ne_true_of_eq_false ho hn
      refine if_neg (hnot _ fun hnone => ?_)
      dsimp only at hnone ⊢
      split at hnone
      case isTrue => cases hnone
      case isFalse hm =>
        rw [if_neg hm]
        exact fun he => hm ⟨he, hnone⟩
    exact Eq.trans hsup' (congrArg₂ (fun v f => { e.sbl with ports := v, flight := f }) hports hflight)

/-- The pending marks that the exit sets before LINK_LOSS (R10, R131). -/
theorem exited_marked (leave : LinkCore → LinkCore) : h.mga.marked (h.exited p leave).mga fun n =>
    n = .link ∧ h.isUp p = true ∨ n = .quiet ∧ h.isQuiet p = true ∧ h.isUp p = true := by
  have hgiven : h.mga.marked (h.mga.given (h.exitAnswers p)) fun _ => False := .same rfl
  unfold Hub.exited
  cases hu : h.isUp p with
  | true =>
    have hquiet := (hgiven.raise_if (h.isQuiet p) .quiet).trans (Mga.marked_raised _ .link)
    refine hquiet.congr fun n => ?_
    simp only [false_or, and_true]
    exact or_comm
  | false => exact hgiven.congr fun n => by simp

theorem exited_mga (leave : LinkCore → LinkCore) : (h.exited p leave).mga =
    { h.mga.given (h.exitAnswers p) with marks := (h.exited p leave).mga.marks } := by
  unfold Hub.exited
  cases h.isUp p <;> cases h.isQuiet p <;> rfl

theorem transaction_of_others : (if h.cte.inFlight p then none else h.cte.transaction) =
    h.cte.transaction.filter fun x => x.port ≠ p := by
  unfold Cte.inFlight
  cases h.cte.transaction with
  | none => rfl
  | some x =>
    by_cases hx : x.port = p
    · simp [Option.filter, hx]
    · simp [Option.filter, hx]

theorem exitAnswers_spelt : h.exitAnswers p = h.measureAnswers p ++
    if h.isUp p then match h.lvm.ports[p].loop with
      | .none => []
      | .pending tag => [badResponse tag .timeout 0 [0]]
      | .running tag => [badResponse tag .timeout 0 [0]]
    else [] := by
  rw [exitAnswers_eq]
  unfold Hub.testAnswers
  cases h.lvm.ports[p].loop <;> exact rfl

/-- The link notice, a wake with it, and then what the presentation of LINK_LOSS raises. -/
theorem raised_exit {L F Q leaves : Prop} {u q : Bool} :
    (L ∧ u = true ∨ Q ∧ q = true ∧ u = true) ∨ (F ∨ Q ∧ leaves ∧ (q && !u) = true) ↔
      L ∧ u = true ∨ F ∨ Q ∧ q = true ∧ (u = true ∨ leaves) := by
  cases u <;> cases q <;> simp
  tauto

/-- An UP port is AWAKE when LINK_LOSS is presented (R131). -/
theorem exited_isQuiet (leave : LinkCore → LinkCore) : (h.exited p leave).isQuiet p = (h.isQuiet p && !h.isUp p) := by
  cases hu : h.isUp p with
  | true =>
    have hsbl : (h.exited p leave).sbl = _ := if_pos hu
    unfold Hub.isQuiet at hsbl ⊢
    rw [hsbl]
    dsimp only
    rw [upd_get_same]
    cases hq : (h.sbl.ports[p].quiet || h.sbl.ports[p].quietDue)
    · exact hq
    · rfl
  | false =>
    have hsbl : (h.exited p leave).sbl = h.sbl := if_neg (ne_true_of_eq_false hu)
    unfold Hub.isQuiet
    rw [hsbl]
    exact (Bool.and_true _).symm

end Exit

end Sys2Proof.Machine

namespace Sys2Proof
open Machine

/-- Settles O16. -/
theorem remotePortLeavesAlignment : Obligations.RemotePortLeavesAlignment := by
  intro p c s h₀ h ha hc
  have hd : (h.linkOf p).aligned = true := takeDue_aligned ha
  refine ⟨fun hm hf => ?_, fun x f hx hp hk hs hfield hbyte hseq hmask => ?_, fun rt out hr ht hm => ?_, ?_⟩
  · refine takeDue_of_not (fun hn => ?_) (fun hn => ?_) hf
    · rw [hn.1] at ha
      cases ha
    · exact hm.elim (ne_false_of_eq_true hn.1) fun hne => hne hn.2
  · exact takeDue_identified ha hx hp hk (replyOf_eq_some.mpr ⟨hs, hp.symm ▸ hfield,
      (fieldKind_identify.mpr hbyte).trans (congrArg some hk.symm), hseq, fun _ => hmask⟩)
  · exact takeDue_measured ha hr ht hm
  · obtain ⟨leave, hexec, hcore⟩ : ∃ leave : LinkCore → LinkCore,
        exec c s = .next { s with hub := (h.exited p leave).present (.port p .linkLoss) }
        ∧ ∀ r : LinkCore, leave r = { r with
            state := if c = .signalAbsent (.remote p) then .down else .hunt
            signal := if c = .signalAbsent (.remote p) then false else r.signal
            good := 0, cand := none, last := none
            bad := if c = .signalAbsent (.remote p) then 0 else r.bad
            drops := min (r.drops + 1) (2 ^ 32 - 1) } := by
      rcases hc with rfl | ⟨rfl, hbad⟩
      · refine ⟨_, next_congr (signalAbsent_remote h₀ p ha), fun r => ?_⟩
        simp [LinkCore.enterDown, LinkCore.countDrop, sat32]
      · refine ⟨_, next_congr (alignmentLost_remote h₀ p ha hbad), fun r => ?_⟩
        simp [LinkCore.enterHunt, LinkCore.countDrop, sat32]
    obtain ⟨hdown, hup⟩ := sbl_lost h p leave
    obtain ⟨⟨hrec, hwritten, -, hmga, hmarks⟩, hdets, hframes⟩ := present_spec (h.exited p leave) p .linkLoss
    have hstart := exited_marked h p leave
    have hawake := exited_isQuiet h p leave
    have hexited := exited_mga h p leave
    have hseconds : (h.exited p leave).mga.seconds = h.mga.seconds := (congrArg Mga.seconds hexited).trans rfl
    rw [hseconds] at hwritten
    have hhub : (h.exited p leave).present (.port p .linkLoss) = { h.exited p leave with
      fsv := ((h.exited p leave).present (.port p .linkLoss)).fsv
      sbl := ((h.exited p leave).present (.port p .linkLoss)).sbl
      mga := ((h.exited p leave).present (.port p .linkLoss)).mga } := hframes
    generalize (h.exited p leave).present (.port p .linkLoss) = g at hexec hdown hup hrec hwritten hmga hmarks hdets hhub
    refine ⟨_, hexec, rfl, ⟨?_, ?_⟩, ⟨hrec, hwritten, hdets, ?_, hdown, hup⟩, ?_, ?_, ?_, ?_, ?_⟩
    · refine (congrArg Hub.lnk hhub).trans ?_
      refine congrArg (fun v => { h.lnk with remote := v }) (upd_congr ?_)
      dsimp only
      rw [hcore]
    · refine (hmga.trans (congrArg (fun m : Mga => { m with marks := g.mga.marks }) hexited)).trans ?_
      rw [exitAnswers_spelt]
      rfl
    · refine (hstart.trans hmarks).congr fun n => ?_
      rw [hawake]
      exact raised_exit
    · exact (congrArg Hub.dlc hhub).trans rfl
    · exact (congrArg Hub.ulc hhub).trans rfl
    · exact (congrArg Hub.lvm hhub).trans rfl
    · refine (congrArg Hub.cte hhub).trans ?_
      refine congrArg (fun x => { h.cte with
        transaction := x
        ports := upd h.cte.ports p fun x => { x with pending := false, misses := 0, field := none } }) ?_
      exact transaction_of_others h p
    · rw [hhub]
      rfl

end Sys2Proof
end

section
/-! The records that READ returns, laid out field by field (O44, R181). -/

namespace Sys2Proof.Machine

/-! ## Layouts and the fields of the model -/

theorem layout_nil : layout [] = [] := rfl

theorem layout_cons (n v : Nat) (xs : List (Nat × Nat)) : layout ((n, v) :: xs) = toBytes n v ++ layout xs := rfl

theorem layout_append (xs ys : List (Nat × Nat)) : layout (xs ++ ys) = layout xs ++ layout ys := List.flatMap_append

theorem layout_flatMap {α : Type} (xs : List α) (f : α → List (Nat × Nat)) :
    layout (xs.flatMap f) = xs.flatMap fun x => layout (f x) := List.flatMap_assoc

theorem layout_map {α : Type} (xs : List α) (f : α → Nat × Nat) :
    layout (xs.map f) = xs.flatMap fun x => layout [f x] := by
  rw [← layout_flatMap, List.map_eq_flatMap]

theorem layout_yesNo (b : Bool) (xs : List (Nat × Nat)) : layout (yesNo b :: xs) = flag b ++ layout xs := by
  cases b <;> rfl

theorem toBytes_allOnes (n k : Nat) : toBytes n (256 ^ n * (k + 1) - 1) = ones n := by
  induction n generalizing k with
  | zero => rfl
  | succ n ih =>
    have hpow : 0 < 256 ^ n := Nat.pow_pos (by decide)
    have hnext : 256 ^ (n + 1) * (k + 1) - 1 = 256 ^ n * ((256 * k + 255) + 1) - 1 := by
      rw [Nat.pow_succ, Nat.mul_assoc]
      rfl
    have hdigit : (256 ^ n * ((256 * k + 255) + 1) - 1) / 256 ^ n = 256 * k + 255 := by
      refine Nat.div_eq_of_lt_le ?_ ?_
      · rw [Nat.mul_succ, Nat.mul_comm]
        omega
      · rw [Nat.mul_comm]
        exact Nat.sub_lt (Nat.mul_pos (Nat.succ_pos _) hpow) Nat.one_pos
    have hbyte : BitVec.ofNat 8 (256 * k + 255) = 0xFF := by
      apply BitVec.eq_of_toNat_eq
      simp
    rw [hnext]
    unfold toBytes
    rw [hdigit, hbyte, ih]
    rfl

theorem toBytes_zero (n : Nat) : toBytes n 0 = List.replicate n 0 := by
  induction n with
  | zero => rfl
  | succ n ih =>
    unfold toBytes
    rw [ih, Nat.zero_div]
    rfl

theorem layout_allOnes (n : Nat) (xs : List (Nat × Nat)) : layout ((n, 256 ^ n - 1) :: xs) = ones n ++ layout xs := by
  have hones := toBytes_allOnes n 0
  rw [Nat.zero_add, Nat.mul_one] at hones
  rw [layout_cons, hones]

theorem layout_orAllOnes (n : Nat) (v : Option Nat) (xs : List (Nat × Nat)) :
    layout (orAllOnes n v :: xs) = orOnes n v ++ layout xs := by
  cases v with
  | none => exact layout_allOnes n xs
  | some v => rfl

theorem layout_behindPresence (n : Nat) (v : Option Nat) : layout (behindPresence n v) = withPresence n v := by
  unfold behindPresence
  rw [layout_yesNo, layout_cons, layout_nil, List.append_nil]
  cases v with
  | none => exact congrArg (0 :: ·) (toBytes_zero n)
  | some v => rfl

theorem layout_codedIn {α : Type} [DecidableEq α] (order : List α) (x : α) (xs : List (Nat × Nat)) :
    layout (codedIn order x :: xs) = toBytes 1 (order.idxOf x) ++ layout xs := rfl

theorem maskNat_eq {k : Nat} (f : Fin k → Bool) :
    maskNat f = ((List.finRange k).map fun i => if f i then 2 ^ i.val else 0).sum := by
  unfold maskNat
  rw [List.sum_eq_foldl, List.foldl_map]

theorem layout_maskOf {k : Nat} (n : Nat) (f : Fin k → Bool) (xs : List (Nat × Nat)) :
    layout (maskOf n f :: xs) = toBytes n (maskNat f) ++ layout xs := by
  rw [maskNat_eq]
  rfl

theorem layout_eachLane (f : Lane → List (Nat × Nat)) : layout (eachLane f) = perLane fun b => layout (f b) :=
  layout_flatMap _ _

theorem layout_listOf {α : Type} (xs : List α) (f : α → List (Nat × Nat)) :
    layout (listOf xs f) = counted (fun x => layout (f x)) xs :=
  congrArg (b1 xs.length ++ ·) (layout_flatMap xs f)

theorem b1_bytes (v : Nat) : b1 v = toBytes 1 v := rfl
theorem b2_bytes (v : Nat) : b2 v = toBytes 2 v := rfl
theorem b4_bytes (v : Nat) : b4 v = toBytes 4 v := rfl

/-- A byte as a field of its own. -/
theorem toBytes_byte (x : Byte) : toBytes 1 x.toNat = [x] := by
  unfold toBytes toBytes
  simp

/-! ## Codes of enumerations -/

theorem gateState_coded (x : GateState) : [GateState.opened, .holding, .closed].idxOf x = x.code := by
  cases x <;> rfl
theorem reason_coded (x : Reason) :
    [Reason.none, .link, .frame, .lane, .action, .loop, .gate].idxOf x = x.code := by cases x <;> rfl
theorem carrierState_coded (x : CarrierState) : [CarrierState.absent, .active, .lost, .held].idxOf x = x.code := by
  cases x <;> rfl
theorem frameClass_coded (x : FrameClass) : [FrameClass.excess, .between, .clean].idxOf x = x.code := by
  cases x <;> rfl
theorem limiterMode_coded (x : LimiterMode) : [LimiterMode.next, .step, .hold].idxOf x = x.code := by
  cases x <;> rfl
theorem recordState_coded (x : RecordState) : [RecordState.idle, .active, .cooling, .latched].idxOf x = x.code := by
  cases x <;> rfl
theorem transition_coded (x : Transition) :
    [Transition.detected, .retryExpired, .escalated, .latched, .cleared].idxOf x = x.code := by cases x <;> rfl
theorem moveCause_coded (x : MoveCause) : [MoveCause.auto, .returning, .manual].idxOf x = x.code := by
  cases x <;> rfl
theorem endingCause_coded (x : EndingCause) : [EndingCause.link, .action, .cancel].idxOf x = x.code := by
  cases x <;> rfl
theorem phase_coded (x : Phase) : [Phase.none, .opened, .closing].idxOf x = x.code := by cases x <;> rfl
theorem loadErrorKind_coded (x : LoadErrorKind) :
    [LoadErrorKind.sequence, .crcMismatch, .lateCell].idxOf x = x.code := by cases x <;> rfl
theorem abandonCause_coded (x : AbandonCause) : [AbandonCause.request, .trunk, .restart].idxOf x = x.code := by
  cases x <;> rfl
theorem wakeCause_coded (x : WakeCause) :
    [WakeCause.none, .level, .move, .fault, .request, .reset, .link, .table].idxOf x = x.code := by cases x <;> rfl
theorem linkState_coded (x : LinkState) :
    toBytes 1 ([LinkState.disabled, .down, .hunt, .proving, .up].idxOf x) = [x.code] := by cases x <;> rfl
theorem donorState_coded {x : LinkState} (hx : x.ofDonor) :
    toBytes 1 ([LinkState.down, .hunt, .up].idxOf x) = [x.shortCode] := by
  rcases hx with rfl | rfl | rfl <;> rfl

/-! ## The records -/

section Records
variable (h : Hub)

theorem remoteFields_layout (r : RemoteLink) : r.statusFields = layout (
    [(4, r.core.errored), (2, r.erroredSec), (4, r.core.slips), (4, r.core.drops), (2, r.delay), (2, r.lastRT),
     yesNo r.rtRange, yesNo r.meas.running]
    ++ (match r.meas.origin with
      | .entry => (1, 0) :: behindPresence 1 none
      | .request tag => (1, 1) :: behindPresence 1 (some tag.toNat))
    ++ [(1, r.meas.taken), orAllOnes 2 (r.meas.minimum.map Prod.fst),
        orAllOnes 1 (r.meas.minimum.map fun least => if least.2 then 1 else 0), (1, r.meas.elapsed)]) := by
  simp only [layout_append, layout_cons, layout_yesNo, layout_orAllOnes, layout_nil, List.append_nil,
    RemoteLink.statusFields, b1_bytes, b2_bytes, b4_bytes, List.append_assoc]
  generalize r.meas.origin = origin
  generalize r.meas.minimum = least
  have hleast (xs : List Byte) : (match least with
      | some (rt, out) => toBytes 2 rt ++ flag out
      | none => ones 3) ++ xs = orOnes 2 (least.map Prod.fst) ++
        (orOnes 1 (least.map fun least => if least.2 then 1 else 0) ++ xs) := by
    cases least with
    | none => rfl
    | some x => cases hx : x.2 <;> simp [orOnes, flag, boolByte, toBytes, hx]
  rw [← hleast]
  cases origin with
  | entry => rfl
  | request tag =>
    simp only [layout_cons, layout_behindPresence, List.append_assoc] <;> rfl

theorem combinerFields_layout (p : PortId) : h.combinerFields p = layout (
    eachLane (fun l => [yesNo h.dlc.records[p].combining, (1, h.dlc.records[p].lanes[l].summands.length),
      (1, h.dlc.records[p].lanes[l].summands.countP fun y => y.contributing), (2, h.dlc.records[p].lanes[l].output),
      (4, h.dlc.clips[p][l])])
    ++ [yesNo h.dlc.records[p].swap]) := by
  simp only [layout_append, layout_eachLane, layout_yesNo, layout_cons, layout_nil, List.append_nil,
    Hub.combinerFields, b1_bytes, b2_bytes, b4_bytes, List.append_assoc]

theorem equalizerFields_layout (e : PortEq) : e.statusFields = layout
    [orAllOnes 1 (e.countedIn.map Fin.val), (2, e.delayTaken), (2, e.comp), yesNo e.compRange, yesNo e.rtTaken,
     yesNo e.range, (4, e.steps)] := by
  simp only [layout_orAllOnes, layout_yesNo, layout_cons, layout_nil, List.append_nil,
    PortEq.statusFields, b2_bytes, b4_bytes, List.append_assoc]

theorem gateFields_layout (p : PortId) : h.gateFields p = layout (eachLane fun l =>
    [codedIn [GateState.opened, .holding, .closed] h.ulc.gates[p][l].state, (1, h.ulc.gates[p][l].count),
     (1, h.tables.gateLevel p l), (1, h.tables.gateHold p)]
    ++ listOf ((List.finRange 12).filterMap fun z =>
        h.ulc.records[z][l].contributors.find? fun y => y.port = p) fun y =>
      [codedIn [Reason.none, .link, .frame, .lane, .action, .loop, .gate] y.reason, (2, y.gain)]) := by
  simp only [layout_append, layout_eachLane, layout_codedIn, gateState_coded, reason_coded, layout_listOf,
    layout_cons, layout_nil, List.append_nil, Hub.gateFields, b1_bytes, b2_bytes, List.append_assoc]

theorem place_eq (p : PortId) : (h.sbl.queue.findIdx? fun e => e.port = p).map (· + 1) =
    if h.queued p then some ((h.sbl.queue.map fun q => q.port).idxOf p + 1) else none := by
  unfold Hub.queued
  generalize h.sbl.queue = queue
  induction queue with
  | nil => rfl
  | cons e es ih =>
    rw [List.findIdx?_cons, List.any_cons, List.map_cons, List.idxOf_cons]
    by_cases he : e.port = p
    · simp [he]
    · have hne : (e.port == p) = false := beq_eq_false_iff_ne.mpr he
      simp only [he, decide_false, Bool.false_or, hne, cond_false, Option.map_map, Bool.false_eq_true, if_false]
      cases hany : es.any fun e => decide (e.port = p) with
      | true =>
        rw [hany, if_pos rfl] at ih
        rw [if_pos rfl, ← Option.map_map, ih]
        rfl
      | false =>
        rw [hany, if_neg Bool.false_ne_true] at ih
        rw [if_neg Bool.false_ne_true, ← Option.map_map, ih]
        rfl

theorem balanceFields_layout (p : PortId) : h.balanceFields p = layout
    [orAllOnes 1 (h.sbl.ports[p].assign.sectors[0]?.map Fin.val),
     orAllOnes 1 (h.sbl.ports[p].assign.sectors[1]?.map Fin.val),
     orAllOnes 2 (h.sbl.ports[p].assign.sectors[0]?.map (h.weight p)),
     orAllOnes 2 (h.sbl.ports[p].assign.sectors[1]?.map (h.weight p)),
     (1, h.sbl.ports[p].holdOff), (1, h.sbl.ports[p].returns), yesNo (h.isQuiet p), (1, h.sbl.ports[p].quietCount),
     orAllOnes 1 (if h.queued p then some ((h.sbl.queue.map fun q => q.port).idxOf p + 1) else none),
     yesNo (h.ramping p)] := by
  simp only [layout_orAllOnes, layout_yesNo, layout_cons, layout_nil, List.append_nil, ← place_eq,
    Hub.balanceFields, b1_bytes, List.append_assoc]

theorem transactionFields_layout (p : PortId) (x : Option Transaction)
    (hx : (h.cte.transaction.filter fun x => x.port = p) = x) : h.transactionFields p = layout (
    [orAllOnes 1 (x.map fun x => x.port.val), orAllOnes 1 (x.map fun x => if x.kind = .identify then 0 else 1),
     orAllOnes 1 (x.map fun x => x.attempt)]
    ++ behindPresence 1 (x.map fun x => x.sequence.toNat) ++ [orAllOnes 2 (x.map fun x => x.remaining)]) := by
  unfold Hub.transactionFields
  rw [hx]
  simp only [layout_append, layout_orAllOnes, layout_behindPresence, layout_nil, List.append_nil]
  cases x with
  | none => rfl
  | some x => cases hk : x.kind <;> simp [orOnes, b1, b2, hk, TxKind.code]

theorem cteFields_layout (p : PortId) (c : PortCte) (hc : h.cte.ports[p] = c) : h.cteFields p = layout (
    behindPresence 1 (c.identify.map fun i => i.rauClass.toNat)
    ++ [orAllOnes 1 (c.identify.map fun i => i.mask.toNat)]
    ++ behindPresence 4 (c.identify.map fun i => i.serial.toNat)
    ++ behindPresence 2 (c.status.map fun i => i.alarms.toNat)
    ++ behindPresence 1 (c.status.map fun i => i.temperature.toNat)
    ++ [orAllOnes 1 (c.status.map fun i => i.paOn.toNat)] ++ behindPresence 4 (c.status.map fun i => i.stamp)
    ++ [yesNo c.pending, yesNo c.hold, (1, c.nextAttempt), (1, c.misses), yesNo h.cte.priority[p]])
    ++ h.transactionFields p := by
  unfold Hub.cteFields
  rw [hc]
  simp only [layout_append, layout_orAllOnes, layout_behindPresence, layout_yesNo, layout_cons, layout_nil,
    List.append_nil, b1_bytes, List.append_assoc]

theorem sectorStatus_layout (z : SectorId) : h.sectorStatus z = layout (
    [(2, h.deq.sectors[z].target), (1, h.deq.sectors[z].counted), (2, h.deq.sectors[z].least)]
    ++ eachLane (fun l =>
        [yesNo h.ulc.records[z][l].gated, (1, h.ulc.records[z][l].contributors.length),
         (1, h.ulc.records[z][l].contributors.countP fun y => y.reason = .none)]
        ++ listOf h.ulc.records[z][l].contributors fun y =>
          [codedIn [Reason.none, .link, .frame, .lane, .action, .loop, .gate] y.reason])
    ++ [(1, h.assignedCount z), (4, h.sbl.sectors[z].lastLoad), yesNo h.sbl.sectors[z].overloaded,
        (1, h.sbl.intervalCount)]) := by
  simp only [layout_append, layout_eachLane, layout_codedIn, reason_coded, layout_listOf, layout_yesNo,
    layout_cons, layout_nil, List.append_nil, Hub.sectorStatus, b1_bytes, b2_bytes, b4_bytes, List.append_assoc]

theorem carrierStatus_layout (hl : h.linksLegal) (c : CarrierId) : h.carrierStatus c = layout (
    [codedIn [CarrierState.absent, .active, .lost, .held] h.dlc.carriers[c], (1, (h.tables.operator c).val),
     (1, (h.tables.lane c).val), (1, (h.tables.carrierHome c).val),
     codedIn [LinkState.down, .hunt, .up] h.lnk.donor[carrierDonor c].state]
    ++ (List.finRange 6).map (fun o => yesNo h.dlc.holds[o]) ++ [(2, h.tables.upGain c), (4, h.ulc.clips[c])]) := by
  simp only [layout_append, layout_codedIn, carrierState_coded, donorState_coded (hl.1 _), layout_map, layout_yesNo,
    layout_cons, layout_nil, List.append_nil, Hub.carrierStatus, b1_bytes, b2_bytes, b4_bytes, List.append_assoc]

theorem meterRecord_layout (p : PortId) : h.meterRecord p = layout (
    eachLane (fun l =>
      [(4, h.lvm.ports[p].meters[l].last.mean), (1, h.lvm.ports[p].meters[l].last.code),
       (1, h.lvm.ports[p].meters[l].last.net), (1, h.tables.offset p l), (1, h.lvm.ports[p].meters[l].last.held),
       orAllOnes 6 h.lvm.ports[p].meters[l].lastGood])
    ++ [(2, h.lvm.ports[p].activity), (2, h.lvm.ports[p].smoothed),
        yesNo h.lvm.ports[p].meters[(0 : Lane)].last.void, (1, h.lvm.ports[p].loop.code),
        (1, h.tables.windowCode), (1, h.lvm.windowCount), (4, h.lvm.windowNumber.toNat)]) := by
  simp only [layout_append, layout_eachLane, layout_orAllOnes, layout_yesNo, layout_cons, layout_nil, List.append_nil,
    Hub.meterRecord, b1_bytes, b2_bytes, b4_bytes, List.append_assoc]

theorem loopTest_code (x : LoopTest) :
    (match x with | .none => 0 | .pending _ => 1 | .running _ => 2) = x.code := by cases x <;> rfl

theorem extremesRecord_layout (p : PortId) : h.extremesRecord p = layout (eachLane fun l =>
    let e := h.lvm.ports[p].meters[l].extremes
    let some' := fun v : Nat => if e.count = 0 then none else some v
    [orAllOnes 1 (some' e.largest), orAllOnes 1 (some' e.smallest), orAllOnes 4 (some' e.count)]) := by
  rw [layout_eachLane]
  refine congrArg perLane (funext fun l => ?_)
  simp only [layout_orAllOnes, layout_nil, List.append_nil]
  by_cases he : h.lvm.ports[p].meters[l].extremes.count = 0
  · simp only [he, if_true]
    rfl
  · simp only [he, if_false, orOnes, b1_bytes, b4_bytes, List.append_assoc]

theorem powerRecord_layout (p : PortId) : h.powerRecord p = layout (
    eachLane (fun l => [(6, h.plm[p].lanes[l].power), (1, levelCode h.plm[p].lanes[l].power),
      (1, h.tables.ceiling p l), codedIn [FrameClass.excess, .between, .clean] h.plm[p].lanes[l].cls,
      (2, h.dlc.records[p].lanes[l].factor), (1, h.plm[p].lanes[l].hold), (1, h.plm[p].lanes[l].overdrive),
      (4, h.plm[p].lanes[l].attack)])
    ++ [codedIn [LimiterMode.next, .step, .hold] (h.tables.limiterMode p), (2, h.tables.releaseStep p),
        (1, h.tables.holdFrames p), yesNo h.plm[p].flag, (1, h.plm[p].clean)]) := by
  simp only [layout_append, layout_eachLane, layout_codedIn, frameClass_coded, limiterMode_coded, layout_yesNo,
    layout_cons, layout_nil, List.append_nil, Hub.powerRecord, b1_bytes, b2_bytes, b4_bytes, List.append_assoc]

theorem faultFields_layout (r : FaultRecord) : r.fields = layout
    [codedIn [RecordState.idle, .active, .cooling, .latched] r.state, yesNo r.present, (1, r.occurrences),
     (1, r.retries), (1, r.timer)] := by
  simp only [layout_codedIn, recordState_coded, layout_yesNo, layout_cons, layout_nil, List.append_nil,
    FaultRecord.fields, b1_bytes, List.append_assoc]

theorem faultSummary_layout : h.faultSummary = layout
    [maskOf 4 fun p : PortId => PortClass.all.any fun c => decide ((h.faultRecord (.port p c)).state ≠ .idle),
     maskOf 1 fun d : DonorId => decide ((h.faultRecord (.donor d)).state ≠ .idle)] := by
  have hidle (p : PortId) : (!h.allIdle p) =
      PortClass.all.any fun c => decide ((h.faultRecord (.port p c)).state ≠ .idle) := by
    rw [Bool.eq_iff_iff]
    simp only [Hub.allIdle, Hub.faultRecord, List.not_all_eq_any_not, List.any_eq_true]
    refine exists_congr fun c => and_congr_right fun _ => ?_
    rw [Bool.not_eq_true', decide_eq_false_iff_not]
    exact decide_eq_true_iff.symm
  simp only [layout_maskOf, layout_nil, List.append_nil, Hub.faultSummary, hidle]
  rfl

theorem actionSet_code (a : ActionSet) :
    (if a.mute then 1 else 0) + (if a.isolate then 2 else 0) + (if a.attenuate then 4 else 0) = a.code := rfl

theorem portFaults_layout (p : PortId) : h.faultsRecord (some p) = layout (
    PortClass.all.flatMap (fun c =>
      let r := h.faultRecord (.port p c)
      [codedIn [RecordState.idle, .active, .cooling, .latched] r.state, yesNo r.present, (1, r.occurrences),
       (1, r.retries), (1, r.timer)])
    ++ [(1, (h.actions p).code)]
    ++ [maskOf 4 fun p : PortId => PortClass.all.any fun c => decide ((h.faultRecord (.port p c)).state ≠ .idle),
        maskOf 1 fun d : DonorId => decide ((h.faultRecord (.donor d)).state ≠ .idle)]) := by
  have hrecords : (List.finRange 8).flatMap (fun c => (h.fsv.portRecords[p][c]).fields) =
      PortClass.all.flatMap fun c => (h.faultRecord (.port p c)).fields := rfl
  simp only [layout_append, layout_flatMap, ← faultFields_layout, ← faultSummary_layout, Hub.faultsRecord,
    hrecords, layout_cons, layout_nil, List.append_nil, b1_bytes]

theorem donorFaults_layout : h.faultsRecord none = layout (
    (List.finRange 8).flatMap (fun d =>
      let r := h.faultRecord (.donor d)
      [codedIn [RecordState.idle, .active, .cooling, .latched] r.state, yesNo r.present, (1, r.occurrences),
       (1, r.retries), (1, r.timer)])
    ++ [maskOf 4 fun p : PortId => PortClass.all.any fun c => decide ((h.faultRecord (.port p c)).state ≠ .idle),
        maskOf 1 fun d : DonorId => decide ((h.faultRecord (.donor d)).state ≠ .idle)]) := by
  simp only [layout_append, layout_flatMap, ← faultFields_layout, ← faultSummary_layout]
  rfl

theorem historyRecord_layout : h.historyRecord = layout (
    (match h.fsv.history with
      | [] => [(7, 256 ^ 7 - 1), (1, 0)]
      | e :: rest =>
        (match e.key with
          | .port p c => [(1, p.val), (1, c.idx.val)]
          | .donor d => [(1, 24 + d.val), (1, 8)])
        ++ [codedIn [Transition.detected, .retryExpired, .escalated, .latched, .cleared] e.transition,
            (4, e.stamp), (1, rest.length)])
    ++ [(4, h.fsv.lost)]) := by
  unfold Hub.historyRecord
  cases h.fsv.history with
  | nil => rw [layout_append, layout_allOnes]; rfl
  | cons e rest =>
    dsimp only
    simp only [layout_append, layout_codedIn, transition_coded, layout_cons, layout_nil, List.append_nil, b1_bytes,
      b4_bytes, List.append_assoc]
    cases e.key <;> rfl

theorem moveFields_layout (e : MoveEntry) : e.fields = layout
    [(1, e.port.val), (1, e.source.val), (1, e.target.val),
     codedIn [MoveCause.auto, .returning, .manual] e.cause] := by
  simp only [layout_codedIn, moveCause_coded, layout_cons, layout_nil, List.append_nil, MoveEntry.fields, b1_bytes,
    List.append_assoc]

theorem countedMoves_layout (xs : List MoveEntry) : counted MoveEntry.fields xs = counted (fun e => layout
    [(1, e.port.val), (1, e.source.val), (1, e.target.val),
     codedIn [MoveCause.auto, .returning, .manual] e.cause]) xs := by
  rw [funext moveFields_layout]

theorem queueRecord_layout : h.queueRecord = layout (
    listOf h.sbl.queue (fun e => [(1, e.port.val), (1, e.source.val), (1, e.target.val),
      codedIn [MoveCause.auto, .returning, .manual] e.cause])
    ++ match h.sbl.flight with
      | some m => [(1, m.entry.port.val), (1, m.entry.source.val), (1, m.entry.target.val),
            codedIn [MoveCause.auto, .returning, .manual] m.entry.cause]
          ++ [(2, m.length), (2, m.step), yesNo m.ending.isSome,
            orAllOnes 1 (m.ending.map fun c => [EndingCause.link, .action, .cancel].idxOf c)]
          ++ behindPresence 4 (some m.stamp)
      | none => [(10, 256 ^ 10 - 1)] ++ behindPresence 4 none) := by
  unfold Hub.queueRecord
  rw [layout_append, layout_listOf, countedMoves_layout]
  rw [List.append_right_inj]
  cases h.sbl.flight with
  | none => rw [layout_append, layout_allOnes]; rfl
  | some m =>
    dsimp only
    have hcode : (fun c => [EndingCause.link, .action, .cancel].idxOf c) = EndingCause.code :=
      funext endingCause_coded
    simp only [layout_append, moveFields_layout, hcode, layout_orAllOnes, layout_behindPresence, layout_yesNo,
      layout_cons, layout_nil, List.append_nil, b2_bytes, List.append_assoc]

theorem logRecord_layout : h.logRecord = layout (
    listOf h.sbl.log (fun e => (4, e.sequence.toNat)
      :: [(1, e.entry.port.val), (1, e.entry.source.val), (1, e.entry.target.val),
          codedIn [MoveCause.auto, .returning, .manual] e.entry.cause]
      ++ [(1, e.outcome.codes.1), orAllOnes 1 e.outcome.codes.2] ++ [(4, e.stamp)])
    ++ [(4, h.sbl.logSequence.toNat)]) := by
  simp only [layout_append, layout_listOf, layout_cons, moveFields_layout, layout_orAllOnes, layout_nil,
    List.append_nil, Hub.logRecord, b1_bytes, b4_bytes, List.append_assoc]

theorem moveOutcome_detail (details : List (List MoveOutcome)) (hd : details =
      [[.done],
       [.refusedNotUp, .refusedTargetFull, .refusedSourceMin, .refusedSpread, .refusedAction],
       [.abandonedLink, .abandonedAction, .abandonedCancel, .abandonedActivation, .abandonedReset],
       [.cancelledRequest, .cancelledActivation, .cancelledReset]]) (o : MoveOutcome) :
    (details.zipIdx.flatMap fun d => if o ∈ d.1 then
      [(1, d.2), orAllOnes 1 (if d.2 = 0 then none else some (d.1.idxOf o))] else []) =
    [(1, o.codes.1), orAllOnes 1 o.codes.2] := by
  subst hd
  cases o <;> rfl

theorem adviceRecord_layout : h.adviceRecord = layout (
    listOf h.sbl.advice (fun e => [(1, e.port.val), (1, e.source.val), (1, e.target.val),
      codedIn [MoveCause.auto, .returning, .manual] e.cause]) ++ [(4, h.sbl.adviceStamp)]) := by
  simp only [layout_append, layout_listOf, countedMoves_layout, layout_cons, layout_nil,
    List.append_nil, Hub.adviceRecord, b4_bytes]

theorem countersRecord_layout : h.countersRecord = layout
    [yesNo h.inService, (4, h.mga.seconds), (4, h.mga.overrun), (4, h.mga.unexpected), (4, h.sbl.skips),
     (4, h.fsv.lost), (4, h.tld.stray)] := by
  simp only [layout_yesNo, layout_cons, layout_nil, List.append_nil, Hub.countersRecord, b4_bytes, List.append_assoc]

theorem noticesRecord_layout : h.noticesRecord = layout
    [maskOf 1 fun n : Fin 7 => h.mga.marks[n], maskOf 1 h.tables.attends, (1, h.attention)] := by
  simp only [layout_maskOf, layout_cons, layout_nil, List.append_nil, Hub.noticesRecord, b1_bytes, List.append_assoc]

theorem outcomeFields_layout (o : LoadOutcome) (table : TableId) : b1 o.code ++ o.detail table = layout (match o with
    | .failed burst kind => [(1, 0), (2, burst), codedIn [LoadErrorKind.sequence, .crcMismatch, .lateCell] kind]
    | .length received => [(1, 1), (2, received)]
    | .unchecked burst => [(1, 2), (2, burst)]
    | .rejected check idx => [(1, 3), (1, check.code.toNat), (1, idx)]
    | .scheduled => [(1, 4), (1, table.code.toNat)]
    | .timeout => [(1, 5)]
    | .abandoned cause => [(1, 6), codedIn [AbandonCause.request, .trunk, .restart] cause]
    | .activated => [(1, 7)]) := by
  cases o <;> simp only [layout_cons, layout_codedIn, loadErrorKind_coded, abandonCause_coded, toBytes_byte,
    layout_nil, List.append_nil, LoadOutcome.code, LoadOutcome.detail, b1_bytes, b2_bytes]

theorem loadStatus_layout (d : Tld) (here : Nat → Option Nat)
    (hh : here = fun v : Nat => if d.phase ≠ .none then some v else none) (error : Option (Nat × LoadErrorKind))
    (he : error = if d.phase ≠ .none then d.firstError else none) : d.statusRecord = layout (
    [codedIn [Phase.none, .opened, .closing] d.phase, orAllOnes 1 (here d.table.code.toNat),
     orAllOnes 2 (here d.declared), orAllOnes 2 (here d.received)]
    ++ behindPresence 1 (here d.expectedTag.toNat) ++ behindPresence 1 (here d.burstsClosed)
    ++ behindPresence 1 (here d.burstCells)
    ++ [orAllOnes 2 (error.map Prod.fst), orAllOnes 1 (error.map fun e =>
          [LoadErrorKind.sequence, .crcMismatch, .lateCell].idxOf e.2), orAllOnes 2 (here d.silence),
        yesNo d.scheduled.isSome, orAllOnes 1 (d.scheduled.map fun x => x.1.code.toNat)]
    ++ (match d.last with
      | none => [(2, 256 ^ 2 - 1)] ++ behindPresence 4 none
      | some l => (1, l.table.code.toNat) ::
        (match l.outcome with
          | .failed burst kind => [(1, 0), (2, burst),
              codedIn [LoadErrorKind.sequence, .crcMismatch, .lateCell] kind]
          | .length received => [(1, 1), (2, received)]
          | .unchecked burst => [(1, 2), (2, burst)]
          | .rejected check idx => [(1, 3), (1, check.code.toNat), (1, idx)]
          | .scheduled => [(1, 4), (1, l.table.code.toNat)]
          | .timeout => [(1, 5)]
          | .abandoned cause => [(1, 6), codedIn [AbandonCause.request, .trunk, .restart] cause]
          | .activated => [(1, 7)])
        ++ behindPresence 4 (some l.stamp))
    ++ [yesNo d.carrierLoaded, yesNo d.sectorLoaded, yesNo d.portLoaded, (4, d.stray)]) := by
  subst hh he
  have hlast : d.lastFields = layout (match d.last with
      | none => [(2, 256 ^ 2 - 1)] ++ behindPresence 4 none
      | some l => (1, l.table.code.toNat) ::
        (match l.outcome with
          | .failed burst kind => [(1, 0), (2, burst),
              codedIn [LoadErrorKind.sequence, .crcMismatch, .lateCell] kind]
          | .length received => [(1, 1), (2, received)]
          | .unchecked burst => [(1, 2), (2, burst)]
          | .rejected check idx => [(1, 3), (1, check.code.toNat), (1, idx)]
          | .scheduled => [(1, 4), (1, l.table.code.toNat)]
          | .timeout => [(1, 5)]
          | .abandoned cause => [(1, 6), codedIn [AbandonCause.request, .trunk, .restart] cause]
          | .activated => [(1, 7)])
        ++ behindPresence 4 (some l.stamp)) := by
    unfold Tld.lastFields
    cases d.last with
    | none => rw [layout_append, layout_allOnes]; rfl
    | some l =>
      dsimp only
      rw [layout_append, layout_cons, ← outcomeFields_layout, layout_behindPresence, toBytes_byte]
      simp only [List.append_assoc]
  simp only [layout_append, ← hlast, layout_codedIn, phase_coded, loadErrorKind_coded, layout_orAllOnes,
    layout_behindPresence, layout_yesNo, layout_cons, layout_nil, List.append_nil, Tld.statusRecord, b1_bytes,
    b4_bytes, List.append_assoc]

theorem linkCounters_layout (c : LinkCore) : c.counters = layout [(4, c.errored), (4, c.slips), (4, c.drops)] := by
  simp only [layout_cons, layout_nil, List.append_nil, LinkCore.counters, b4_bytes, List.append_assoc]

theorem remoteCounters_layout (r : RemoteLink) : r.counters =
    layout [(4, r.core.errored), (2, r.erroredSec), (4, r.core.slips), (4, r.core.drops)] := by
  simp only [layout_cons, layout_nil, List.append_nil, RemoteLink.counters, b2_bytes, b4_bytes, List.append_assoc]

theorem flatMap_byte {α : Type} (xs : List α) (f : α → Byte) : (xs.flatMap fun x => [f x]) = xs.map f :=
  (List.map_eq_flatMap ..).symm

theorem linkSummary_layout (hl : h.linksLegal) : h.linkSummary = layout (
    (List.finRange 24).map (fun p => codedIn [LinkState.disabled, .down, .hunt, .proving, .up] (h.linkOf p))
    ++ (List.finRange 8).map (fun d => codedIn [LinkState.down, .hunt, .up] h.lnk.donor[d].state)
    ++ [codedIn [LinkState.down, .hunt, .up] h.lnk.trunk.state]
    ++ (List.finRange 24).map (fun p => (1, h.lnk.remote[p].mask.toNat))
    ++ (List.finRange 24).flatMap (fun p => [(4, h.lnk.remote[p].core.errored), (2, h.lnk.remote[p].erroredSec),
        (4, h.lnk.remote[p].core.slips), (4, h.lnk.remote[p].core.drops)])
    ++ (List.finRange 8).flatMap (fun d =>
        [(4, h.lnk.donor[d].errored), (4, h.lnk.donor[d].slips), (4, h.lnk.donor[d].drops)])
    ++ [(4, h.lnk.trunk.errored), (4, h.lnk.trunk.slips), (4, h.lnk.trunk.drops)]) := by
  simp only [layout_append, layout_map, layout_flatMap, linkCounters_layout, remoteCounters_layout,
    layout_codedIn, linkState_coded, donorState_coded (hl.1 _), donorState_coded hl.2, layout_cons, layout_nil,
    List.append_nil, flatMap_byte, Hub.linkSummary, b1_bytes]

theorem quietSummary_layout : h.quietSummary = layout (
    (List.finRange 24).flatMap (fun p => [yesNo (h.isQuiet p), (1, h.sbl.ports[p].quietCount),
      codedIn [WakeCause.none, .level, .move, .fault, .request, .reset, .link, .table] h.sbl.ports[p].wakeCause])
    ++ [(1, h.tables.quietLimit)]) := by
  simp only [layout_append, layout_flatMap, layout_codedIn, wakeCause_coded, layout_yesNo, layout_cons, layout_nil,
    List.append_nil, Hub.quietSummary, b1_bytes, List.append_assoc]

end Records

end Sys2Proof.Machine
end

section
/-! READ: one part of a record, and the effects of reading it (O44). -/

namespace Sys2Proof.Machine

/-! ## The record of an object -/

theorem readObjectOf_eq_none {n : Nat} (h : 16 ≤ n) : readObjectOf n = none := List.getElem?_eq_none h

theorem lt_of_readObjectOf {n : Nat} {o : ReadObject} (h : readObjectOf n = some o) : n < 16 := by
  by_contra hn
  rw [readObjectOf_eq_none (Nat.not_lt.mp hn)] at h
  cases h

/-- The requests that wait, and the responses, are in no record (R172). -/
theorem readRecord_asked (h : Hub) (rest : List Cell) (o : ReadObject) (i : Nat) :
    (h.asked rest).readRecord o i = h.readRecord o i := by
  cases o <;> rfl

theorem portStatus_eq (h : Hub) (p : PortId) : h.portStatus p = (h.lnk.remote[p]).statusFields ++ h.combinerFields p
    ++ (h.deq.ports[p]).statusFields ++ h.gateFields p ++ h.balanceFields p ++ h.cteFields p := rfl

theorem toBytes_length (n v : Nat) : (toBytes n v).length = n := by
  induction n with
  | zero => rfl
  | succ n ih => exact congrArg Nat.succ ih

theorem layout_length (fields : List (Nat × Nat)) : (layout fields).length = (fields.map Prod.fst).sum := by
  induction fields with
  | nil => rfl
  | cons x xs ih => rw [← Prod.mk.eta (p := x), layout_cons, List.length_append, toBytes_length, ih]; rfl

theorem perLane_length {f : Lane → List Byte} {k : Nat} (hf : ∀ b, (f b).length = k) : (perLane f).length = 4 * k := by
  unfold perLane
  rw [List.length_flatMap]
  simp [hf]
  omega

/-- METER is 68 bytes long. -/
theorem meterRecord_length (h : Hub) (p : PortId) : (h.meterRecord p).length = 68 := by
  rw [meterRecord_layout, layout_append, layout_eachLane, List.length_append,
    perLane_length (k := 14) fun b => layout_length _, layout_length]
  rfl

/-! ## Taking a READ -/

theorem exec_read (o : ReadObject) (s : State) : exec (readCommand o) s = s.onHub (Hub.takeRead o) := by
  cases o <;> rfl

theorem takeRead_taken {h : Hub} {c : Cell} {rest : List Cell} (o : ReadObject) (ho : h.offers c rest)
    (hk : c.reqKind = some .read) (hc : readObjectOf (c.arg 0) = some o ∨ 16 ≤ c.arg 0) :
    h.takeRead o = if c.length.toNat ≠ 5 then (h.asked rest).refuse c.tag .badLength []
      else if readObjectOf (c.arg 0) = none then (h.asked rest).refuse c.tag .badArgument []
      else (h.asked rest).actRead o c := by
  obtain ⟨hq, hb, hr⟩ := ho
  have hreads : c.reads o = true := by
    unfold Cell.reads
    rcases hc with hc | hc
    · simp [hk, hc]
    · simp [hk, readObjectOf_eq_none hc]
  have htake : h.canTake ∧ c.reads o := ⟨by simp [Hub.canTake, hb, hr], hreads⟩
  have hnext : h.dequeue = h.asked rest := by
    unfold Hub.dequeue
    rw [hq]
    rfl
  unfold Hub.takeRead Hub.takeHead
  rw [hq]
  dsimp only
  rw [if_pos htake, hnext]
  rfl

/-! ## The effects of reading -/

/-- The notice that the READ of an object clears (R174). -/
theorem clears_iff (o : ReadObject) (n : Notice) : o.clears = some n ↔
    (o = .faults ∧ n = .fault) ∨ (o = .counters ∧ n = .overrun) ∨ (o = .loadStatus ∧ n = .load)
      ∨ (o = .moveLog ∧ n = .move) ∨ (o = .linkSummary ∧ n = .link) ∨ (o = .advice ∧ n = .advice)
      ∨ (o = .quietSummary ∧ n = .quiet) := by
  cases o <;> simp [ReadObject.clears, eq_comm]

/-- The marks with that of a notice cleared (R174). -/
def clearedMarks (marks : Vector Bool 7) : Option Notice → Vector Bool 7
  | some n => marks.set n.idx.val false n.idx.isLt
  | none => marks

theorem clearedMarks_get (marks : Vector Bool 7) (cleared : Option Notice) (n : Notice) :
    (clearedMarks marks cleared)[n.idx] = (marks[n.idx] && decide (cleared ≠ some n)) := by
  cases cleared with
  | none => simp [clearedMarks]
  | some m =>
    unfold clearedMarks
    by_cases hm : m = n
    · subst hm
      simp
    · have hne : m.idx.val ≠ n.idx.val := fun he => hm (Notice.idx_inj.mp (Fin.ext he))
      have hd : some m ≠ some n := fun he => hm (Option.some.inj he)
      rw [decide_eq_true hd, Bool.and_true]
      exact Vector.getElem_set_ne _ _ hne

/-- The meters after a READ: the reset option empties the four extremes records of a port (R99). -/
def readPorts (ports : Vector PortMeter 24) (o : ReadObject) (i option : Nat) : Vector PortMeter 24 :=
  if o = .extremes ∧ option = 1 then
    match fin? 24 i with
    | some p => upd ports p fun m => { m with meters := mapTab (fun x : Meter => { x with extremes := .empty }) m.meters }
    | none => ports
  else ports

theorem readPorts_meter (ports : Vector PortMeter 24) (p : PortId) (b : Lane) {o : ReadObject} {i option : Nat}
    (hi : i < o.indices) : ((readPorts ports o i option)[p]).meters[b] =
    if o = .extremes ∧ option = 1 ∧ i = p.val then
      { ports[p].meters[b] with extremes := { largest := 0, smallest := 0, count := 0 } }
    else ports[p].meters[b] := by
  unfold readPorts
  by_cases ho : o = .extremes ∧ option = 1
  · obtain ⟨rfl, hopt⟩ := ho
    rw [if_pos ⟨rfl, hopt⟩]
    have hq : fin? 24 i = some ⟨i, hi⟩ := fin?_val (n := 24) ⟨i, hi⟩
    rw [hq]
    dsimp only
    by_cases hp : i = p.val
    · have hpi : (⟨i, hi⟩ : PortId) = p := Fin.ext hp
      rw [if_pos ⟨rfl, hopt, hp⟩, hpi, upd_get_same, mapTab_get]
      rfl
    · have hpi : p ≠ (⟨i, hi⟩ : PortId) := fun he => hp (congrArg Fin.val he).symm
      rw [if_neg fun hc => hp hc.2.2, upd_get_other _ _ (Ne.symm hpi)]
  · rw [if_neg ho, if_neg fun hc => ho ⟨hc.1, hc.2.1⟩]

theorem readPorts_rest (ports : Vector PortMeter 24) (p : PortId) {o : ReadObject} {i option : Nat} :
    (readPorts ports o i option)[p] = { ports[p] with meters := ((readPorts ports o i option)[p]).meters } := by
  unfold readPorts
  split
  · split
    next q _ =>
      by_cases hp : p = q
      · subst hp
        rw [upd_get_same]
      · rw [upd_get_other _ _ (Ne.symm hp)]
    next => rfl
  · rfl

theorem readEffect_eq (h : Hub) (o : ReadObject) (i option : Nat) : h.readEffect o i option = { h with
    mga := { h.mga with marks := clearedMarks h.mga.marks o.clears }
    fsv := if o = .faultHistory then { h.fsv with history := h.fsv.history.drop 1 } else h.fsv
    lvm := { h.lvm with ports := readPorts h.lvm.ports o i option } } := by
  unfold Hub.readEffect readPorts
  cases o with
  | extremes =>
    dsimp only [ReadObject.clears]
    by_cases ho : option = 1
    · rw [if_pos ⟨rfl, ho⟩]
      cases fin? 24 i with
      | none => rfl
      | some p => exact if_pos ho
    · rw [if_neg fun hc => ho hc.2]
      cases fin? 24 i with
      | none => rfl
      | some p => exact if_neg ho
  | _ => rfl

theorem actRead_invalid {h : Hub} {o : ReadObject} {c : Cell}
    (hv : ¬ (c.arg 1 < o.indices ∧ 12 * c.arg 2 < (h.readRecord o (c.arg 1)).length
      ∧ (c.arg 3 = 0 ∨ o = .extremes ∧ c.arg 3 = 1))) : h.actRead o c = h.refuse c.tag .badArgument [] := by
  unfold Hub.actRead ReadObject.topOption
  refine if_pos ?_
  by_contra hc
  obtain ⟨hi, hc⟩ := not_or.mp hc
  obtain ⟨hopt, hl⟩ := not_or.mp hc
  refine hv ⟨Nat.not_le.mp hi, Nat.not_le.mp hl, ?_⟩
  split at hopt
  next ho =>
    rcases Nat.le_one_iff_eq_zero_or_eq_one.mp (Nat.not_lt.mp hopt) with h0 | h1
    · exact .inl h0
    · exact .inr ⟨ho, h1⟩
  next => exact .inl (Nat.eq_zero_of_not_pos hopt)

theorem actRead_valid {h : Hub} {o : ReadObject} {c : Cell}
    (hv : c.arg 1 < o.indices ∧ 12 * c.arg 2 < (h.readRecord o (c.arg 1)).length
      ∧ (c.arg 3 = 0 ∨ o = .extremes ∧ c.arg 3 = 1)) : h.actRead o c =
    (h.answerOk c.tag (((h.readRecord o (c.arg 1)).drop (12 * c.arg 2)).take 12)).readEffect o (c.arg 1) (c.arg 3) := by
  unfold Hub.actRead ReadObject.topOption
  refine if_neg ?_
  obtain ⟨hi, hl, hopt⟩ := hv
  rintro (hc | hc | hc)
  · omega
  · split at hc
    · omega
    · rcases hopt with h0 | ⟨ho, h1⟩
      · omega
      · contradiction
  · omega

theorem readRecord_port (h : Hub) (o : ReadObject) (f : PortId → List Byte)
    (hf : ∀ i, h.readRecord o i = ((fin? 24 i).map f).getD []) (p : PortId) : h.readRecord o p.val = f p := by
  rw [hf, fin?_val]
  rfl

theorem assign_sectors (a : Assign) : a.sectors = match a with
    | .none => []
    | .one z => [z]
    | .two source target => [source, target] := by
  cases a <;> exact rfl

end Sys2Proof.Machine

namespace Sys2Proof
open Machine

/-- Settles O44. -/
theorem readsAnswerOnePart : Obligations.ReadsAnswerOnePart := by
  refine ⟨fun h => ?_, fun o c rest s ho hk hc hl => ?_, fun o c rest s ho hc => ?_, fun o c rest s => ?_⟩
  · intro t state5 state3 causes record summary move counters details
    refine ⟨fun p => ?_, fun z => ?_, fun hl c => ?_, fun p => ⟨?_, ?_⟩, fun p => ?_, fun p => ?_, fun p => ?_, ?_, ?_,
      ?_, ?_, ?_, ?_, ?_, ?_, fun hl => ?_, ?_⟩
    · rw [readRecord_port h .portStatus h.portStatus (fun _ => rfl), portStatus_eq, remoteFields_layout,
        combinerFields_layout, equalizerFields_layout, gateFields_layout, balanceFields_layout, assign_sectors,
        cteFields_layout h p _ rfl, transactionFields_layout h p _ rfl]
      simp only [layout_append, List.append_assoc]
      rfl
    · exact (congrArg (fun x => (x.map h.sectorStatus).getD []) (fin?_val z)).trans (sectorStatus_layout h z)
    · exact (congrArg (fun x => (x.map h.carrierStatus).getD []) (fin?_val c)).trans (carrierStatus_layout h hl c)
    · rw [readRecord_port h .meter h.meterRecord (fun _ => rfl), meterRecord_layout, ← loopTest_code] <;> rfl
    · rw [readRecord_port h .meter h.meterRecord (fun _ => rfl)]
      exact meterRecord_length h p
    · rw [readRecord_port h .extremes h.extremesRecord (fun _ => rfl)]
      exact extremesRecord_layout h p
    · rw [readRecord_port h .dlPower h.powerRecord (fun _ => rfl)]
      exact powerRecord_layout h p
    · exact (congrArg h.faultsRecord (fin?_val p)).trans (portFaults_layout h p)
    · exact donorFaults_layout h
    · exact historyRecord_layout h
    · exact queueRecord_layout h
    · refine (logRecord_layout h).trans ?_
      simp only [move, causes, moveOutcome_detail details rfl]
    · exact adviceRecord_layout h
    · exact countersRecord_layout h
    · exact noticesRecord_layout h
    · exact loadStatus_layout h.tld _ rfl _ rfl
    · exact linkSummary_layout h hl
    · exact quietSummary_layout h
  · refine (exec_read o s).trans (next_congr ((takeRead_taken o ho (reqKind_eq_some.mpr hk) hc).trans ?_))
    exact if_pos fun he => hl (BitVec.eq_of_toNat_eq he)
  · refine (exec_read o s).trans (next_congr ((takeRead_taken o ho.1 ho.2.1 (.inr hc)).trans ?_))
    exact (if_neg (not_not_intro ho.2.2)).trans (if_pos (readObjectOf_eq_none hc))
  · intro h record valid ho hc
    have htake := takeRead_offered ho hc
    have hrec := readRecord_asked h rest o (c.arg 1)
    refine ⟨fun hv => ?_, fun hv => ?_⟩
    · refine (exec_read o s).trans (next_congr (htake.trans (actRead_invalid ?_)))
      rw [hrec]
      exact hv
    · have hread := actRead_valid (h := h.asked rest) (o := o) (c := c) (by rw [hrec]; exact hv)
      rw [hrec, answerOk_eq, readEffect_eq] at hread
      refine ⟨_, (exec_read o s).trans (next_congr (htake.trans hread)), rfl, rfl, fun n => ?_, rfl, fun p b => ?_,
        fun p => ?_, rfl⟩
      · refine (clearedMarks_get h.mga.marks o.clears n).trans ?_
        rw [decide_eq_decide.mpr (not_congr (clears_iff o n))]
      · exact readPorts_meter h.lvm.ports p b hv.1
      · exact readPorts_rest h.lvm.ports p

end Sys2Proof
end

section
/-! What a boundary has decided of a port before its reset (O48): it answers nothing that the agent does not owe, and
leaves the limiter and the record of DL_OVERDRIVE to the overdrive flag. -/

namespace Sys2Proof.Machine

/-! ## Steps that answer nothing, or free the agent -/

/-- No response is given, or the agent is free: every response given within a boundary frees it (R170, R171). -/
def Hub.silent (h g : Hub) : Prop :=
  g.mga.responses = h.mga.responses ∧ g.mga.busy = h.mga.busy ∨ g.mga.busy = none

theorem Hub.silent.of_mga {h g : Hub} (hr : g.mga.responses = h.mga.responses) (hb : g.mga.busy = h.mga.busy) :
    h.silent g := .inl ⟨hr, hb⟩

theorem Hub.silent.trans {h g k : Hub} (x : h.silent g) (y : g.silent k) : h.silent k := by
  rcases y with ⟨hr, hb⟩ | hn
  · rcases x with ⟨hr', hb'⟩ | hn'
    · exact .inl ⟨hr.trans hr', hb.trans hb'⟩
    · exact .inr (hb.trans hn')
  · exact .inr hn

theorem Calm.silent {h g : Hub} (x : Calm h g) : h.silent g :=
  .of_mga (congrArg Outline.responses x.outline) (congrArg Outline.busy x.outline)

theorem silent_given {h g : Hub} (rs : List Response) (hr : g.mga.responses = (h.mga.given rs).responses)
    (hb : g.mga.busy = (h.mga.given rs).busy) : h.silent g := by
  cases rs with
  | nil => exact .of_mga (hr.trans (List.append_nil _)) hb
  | cons r rs => exact .inr hb

/-- A step that gives no response that is not owed, and after which the agent is still busy, gives none. -/
theorem Hub.silent.responses {h g : Hub} (x : h.silent g) {b : Busy} (hb : g.mga.busy = some b) :
    g.mga.responses = h.mga.responses := by
  rcases x with ⟨hr, -⟩ | hn
  · exact hr
  · rw [hb] at hn
    cases hn

/-! ## Steps before the overdrive flag -/

/-- `g` is `h` after steps that leave the limiters and the record of DL_OVERDRIVE of port `p`. -/
structure Hub.Prepares (p : PortId) (h g : Hub) : Prop where
  plm : g.plm = h.plm
  done : g.bd.limiterDone = h.bd.limiterDone
  overdrive : g.faultRecord (.port p .dlOverdrive) = h.faultRecord (.port p .dlOverdrive)
  silent : h.silent g

section Steps
variable {p : PortId} {h g k : Hub}

theorem Hub.Prepares.same (p : PortId) (h : Hub) : h.Prepares p h := ⟨rfl, rfl, rfl, .of_mga rfl rfl⟩

theorem Hub.Prepares.trans (x : h.Prepares p g) (y : g.Prepares p k) : h.Prepares p k :=
  ⟨y.plm.trans x.plm, y.done.trans x.done, y.overdrive.trans x.overdrive, x.silent.trans y.silent⟩

theorem Hub.Prepares.ite (c : Prop) [Decidable c] (x : c → h.Prepares p g) (y : ¬ c → h.Prepares p k) :
    h.Prepares p (if c then g else k) := by
  split
  next hc => exact x hc
  next hc => exact y hc

theorem prepares_present (h : Hub) (p q : PortId) {c : PortClass} (hc : c ≠ .dlOverdrive) :
    h.Prepares p (h.present (.port q c)) := by
  have hsilent := (calm_present h (.port q c)).silent
  obtain ⟨f, b, m, he, ⟨hrec, -⟩, -⟩ := present_blocks h q c
  rw [he] at hsilent ⊢
  exact ⟨rfl, rfl, (hrec _).trans (if_neg fun heq => hc (FaultKey.port.inj heq).2.symm), hsilent⟩

theorem prepares_clear (h : Hub) (p q : PortId) {c : PortClass} (hc : c ≠ .dlOverdrive) :
    h.Prepares p (h.clearCondition (.port q c)) := by
  obtain ⟨f, he, hrec, -⟩ := clear_blocks h (.port q c)
  rw [he]
  exact ⟨rfl, rfl, (hrec _).trans (if_neg fun heq => hc (FaultKey.port.inj heq).2.symm), .of_mga rfl rfl⟩

theorem prepares_linkAligned (p q : PortId) (h : Hub) : h.Prepares p (h.linkAligned (.remote q)) := by
  unfold Hub.linkAligned
  dsimp only
  split
  · refine .ite _ (fun _ => ?_) fun _ => .same p h
    rw [deliver_remote]
    exact ⟨rfl, rfl, rfl, .of_mga rfl rfl⟩
  · exact .same p h

theorem prepares_measurementDone (p q : PortId) (h : Hub) : h.Prepares p (h.measurementDone q) := by
  unfold Hub.measurementDone
  dsimp only
  refine .ite _ (fun _ => ?_) fun _ => .same p h
  generalize h.lnk.remote[q].meas.minimum.getD (0, false) = x
  have hstep : h.Prepares p (h.onRemote q fun r => { r with lastRT := x.1, delay := (x.1 + 1) / 2, rtRange := x.2 }) :=
    ⟨rfl, rfl, rfl, .of_mga rfl rfl⟩
  refine hstep.trans ?_
  generalize h.onRemote q (fun r => { r with lastRT := x.1, delay := (x.1 + 1) / 2, rtRange := x.2 }) = g
  cases ho : g.lnk.remote[q].meas.origin with
  | entry =>
    rw [endMeasurement_entry ho]
    exact ⟨rfl, rfl, rfl, .of_mga rfl rfl⟩
  | request tag =>
    rw [endMeasurement_request ho]
    exact ⟨rfl, rfl, rfl, .inr rfl⟩

theorem prepares_answerTransaction (p q : PortId) (h : Hub) (fill : PortCte → PortCte) :
    h.Prepares p ((h.answerTransaction q).onCte q fill) := by
  obtain ⟨f, he, hrec, -⟩ := answerTransaction_blocks h q fill
  rw [he]
  exact ⟨rfl, rfl, (hrec _).trans (if_neg fun heq => PortClass.noConfusion (FaultKey.port.inj heq).2), .of_mga rfl rfl⟩

theorem prepares_identifyReply (p : PortId) (h : Hub) : h.Prepares p h.identifyReply := by
  by_cases hn : ∃ x f, h.cte.transaction = some x ∧ x.kind = .identify ∧ h.replyOf x = some f
  · obtain ⟨x, f, hx, hk, hf⟩ := hn
    rw [identifyReply_eq hx hk hf]
    have hans := prepares_answerTransaction p x.port h fun c =>
      { c with nextAttempt := 1, identify := some (identifyFields f) }
    refine hans.trans ?_
    generalize (h.answerTransaction x.port).onCte x.port _ = g
    have hsilent := (calm_goodIdentify g x.port (identifyFields f).mask).silent
    obtain ⟨v, he, hrec, -⟩ := goodIdentify_blocks g x.port (identifyFields f).mask
    rw [he] at hsilent ⊢
    have hown : ({ g with fsv := v } : Hub).faultRecord (.port p .dlOverdrive) = g.faultRecord (.port p .dlOverdrive) :=
      (hrec _).trans (if_neg fun heq => PortClass.noConfusion (FaultKey.port.inj heq.1).2)
    exact ⟨rfl, rfl, hown, hsilent⟩
  · rw [identifyReply_of_not hn]
    exact .same p h

theorem prepares_statusReply (p : PortId) (h : Hub) : h.Prepares p h.statusReply := by
  by_cases hn : ∃ x f, h.cte.transaction = some x ∧ x.kind = .status ∧ h.replyOf x = some f
  · obtain ⟨x, f, hx, hk, hf⟩ := hn
    rw [statusReply_eq hx hk hf]
    have hans := prepares_answerTransaction p x.port h fun c =>
      { c with status := some (statusFields f h.mga.seconds) }
    refine hans.trans (.ite _ (fun _ => ?_) fun _ => ?_)
    · exact prepares_present _ p x.port (by decide)
    · exact prepares_clear _ p x.port (by decide)
  · rw [statusReply_of_not hn]
    exact .same p h

theorem prepares_takeDue (p q : PortId) (h : Hub) : h.Prepares p (h.takeDue q) := by
  unfold Hub.takeDue
  dsimp only
  refine (prepares_linkAligned p q h).trans (.ite _ (fun _ => ?_) fun _ => .same p _)
  refine (prepares_measurementDone p q _).trans (.ite _ (fun _ => ?_) fun _ => .same p _)
  exact (prepares_identifyReply p _).trans (prepares_statusReply p _)

theorem prepares_exited (p q : PortId) (h : Hub) (leave : LinkCore → LinkCore) : h.Prepares p (h.exited q leave) := by
  have hmga := exited_mga h q leave
  exact ⟨rfl, rfl, rfl, silent_given (h.exitAnswers q) ((congrArg Mga.responses hmga).trans rfl)
    ((congrArg Mga.busy hmga).trans rfl)⟩

theorem prepares_exitRemote (p q : PortId) (h : Hub) (leave : LinkCore → LinkCore) (loss : Bool) :
    h.Prepares p (h.exitRemote q leave loss) := by
  rw [exitRemote_eq]
  have hexit := prepares_exited p q h leave
  refine .ite _ (fun _ => hexit.trans ?_) fun _ => hexit
  generalize h.exited q leave = g
  have hdrop : g.Prepares p (g.onCore (.remote q) LinkCore.countDrop) := ⟨rfl, rfl, rfl, .of_mga rfl rfl⟩
  exact hdrop.trans (prepares_present _ p q (by decide))

theorem prepares_alignmentLost (p q : PortId) (h : Hub) : h.Prepares p (h.alignmentLost (.remote q)) :=
  .ite _ (fun _ => (prepares_takeDue p q h).trans (prepares_exitRemote p q _ _ true)) fun _ => .same p h

theorem prepares_onDet (p q : PortId) (h : Hub) (f : Detectors → Detectors) : h.Prepares p (h.onDet q f) :=
  ⟨rfl, rfl, rfl, .of_mga rfl rfl⟩

theorem prepares_presentDue (p : PortId) (h : Hub) : h.Prepares p (h.presentDue p) := by
  have hturn (g : Hub) (b : Bool) (f : Detectors → Detectors) {c : PortClass} (hc : c ≠ .dlOverdrive) :
      g.Prepares p (if b then (g.onDet p f).present (.port p c) else g) :=
    .ite _ (fun _ => (prepares_onDet p p g f).trans (prepares_present _ p p hc)) fun _ => .same p g
  exact (hturn h _ _ (by decide)).trans ((hturn _ _ _ (by decide)).trans (hturn _ _ _ (by decide)))

/-- What comes before the overdrive flag when a boundary's decisions about a port are taken. -/
theorem prepares_before (p : PortId) (h : Hub) :
    h.Prepares p (((h.takeDue p).alignmentLost (.remote p)).presentDue p) :=
  (prepares_takeDue p p h).trans ((prepares_alignmentLost p p _).trans (prepares_presentDue p _))

end Steps

/-! ## The overdrive flag -/

theorem silent_limiterUpdate (h : Hub) : h.silent h.limiterUpdate := by
  unfold Hub.limiterUpdate
  split
  · exact .of_mga rfl rfl
  · exact .of_mga rfl rfl

theorem silent_overdriveDue (p : PortId) (h : Hub) : h.silent (h.overdriveDue p) := by
  have hpresent (g : Hub) : g.silent (g.overdrivePresent p) := by
    refine (silent_limiterUpdate g).trans ?_
    unfold Hub.overdrivePresent
    generalize g.limiterUpdate = k
    dsimp only
    split
    · split
      · exact .of_mga rfl rfl
      · exact (calm_onPlm k p).silent.trans (calm_present _ _).silent
    · exact .of_mga rfl rfl
  have hclear (g : Hub) : g.silent (g.overdriveClear p) := by
    refine (silent_limiterUpdate g).trans ?_
    unfold Hub.overdriveClear
    generalize g.limiterUpdate = k
    dsimp only
    split
    · split
      · exact .of_mga rfl rfl
      · exact (calm_onPlm k p).silent.trans (calm_clearCondition _ _).silent
    · exact .of_mga rfl rfl
  unfold Hub.overdriveDue
  split
  · exact (hpresent h).trans (hclear _)
  · exact .of_mga rfl rfl

theorem silent_takePortDue (p : PortId) (h : Hub) : h.silent (h.takePortDue p) :=
  (prepares_before p h).silent.trans (silent_overdriveDue p _)

end Sys2Proof.Machine
end

section
/-! The balancer's part of a port's reset (O48): the ends of moves that are logged, and the port's new place. -/

namespace Sys2Proof.Machine

/-! ## Ends of moves, logged one after the other -/

theorem logged_append (log : List LogEntry) (seq : BitVec 32) (stamp : Nat) (xs ys : List (MoveEntry × MoveOutcome)) :
    logged (logged log seq stamp xs) (seq + BitVec.ofNat 32 xs.length) stamp ys = logged log seq stamp (xs ++ ys) := by
  have hnumber (i : Nat) : seq + BitVec.ofNat 32 xs.length + BitVec.ofNat 32 (i + 1) =
      seq + BitVec.ofNat 32 (xs.length + i + 1) := by
    rw [BitVec.add_assoc, ← BitVec.ofNat_add]
    congr 2
  unfold logged
  rw [lastSixteen_append, List.append_assoc, List.zipIdx_append, List.map_append, Nat.zero_add,
    List.zipIdx_eq_map_add (i := xs.length), List.map_map]
  simp only [Function.comp_def, hnumber]

/-- `g` is `h` with some ends of moves logged, the notice raised (R128). -/
structure Hub.Logs (h g : Hub) (ends : List (MoveEntry × MoveOutcome)) : Prop where
  hub : g = { h with
    sbl := { h.sbl with log := g.sbl.log, logSequence := h.sbl.logSequence + BitVec.ofNat 32 ends.length }
    mga := { h.mga with marks := g.mga.marks } }
  log : h.sbl.log.length ≤ 16 → g.sbl.log = logged h.sbl.log h.sbl.logSequence h.mga.seconds ends
  marked : h.mga.marked g.mga fun n => n = .move ∧ ends ≠ []

theorem Hub.Logs.trans {h g k : Hub} {xs ys : List (MoveEntry × MoveOutcome)} (x : h.Logs g xs) (y : g.Logs k ys) :
    h.Logs k (xs ++ ys) where
  hub := by
    rw [y.hub, x.hub]
    dsimp only
    rw [List.length_append, BitVec.ofNat_add, BitVec.add_assoc]
  log hl := by
    have hx := x.log hl
    have hseq : g.sbl.logSequence = h.sbl.logSequence + BitVec.ofNat 32 xs.length :=
      (congrArg (fun h : Hub => h.sbl.logSequence) x.hub).trans rfl
    have hsec : g.mga.seconds = h.mga.seconds := (congrArg (fun h : Hub => h.mga.seconds) x.hub).trans rfl
    have hlen : g.sbl.log.length ≤ 16 := hx ▸ lastSixteen_length _
    rw [y.log hlen, hx, hseq, hsec, logged_append]
  marked := (x.marked.trans y.marked).congr fun n => by
    rw [← and_or_left, ← not_and_or, ← List.append_eq_nil_iff]

theorem logs_nil (h : Hub) : h.Logs h [] where
  hub := by simp
  log hl := by
    unfold logged
    rw [List.zipIdx_nil, List.map_nil, List.append_nil, lastSixteen, Nat.sub_eq_zero_of_le hl, List.drop_zero]
  marked := (Mga.marked.same rfl).congr fun n => by simp

theorem logs_logMove (h : Hub) (e : MoveEntry) (o : MoveOutcome) : h.Logs (h.logMove e o) [(e, o)] where
  hub := rfl
  log _ := rfl
  marked := (Mga.marked_raised h.mga .move).congr fun n => by simp

/-! ## The reset of a port in SERVICE -/

section Service
variable (h : Hub) (p : PortId)

/-- The moves of port `p` that its reset ends (R134). -/
def Hub.resetEnds : List (MoveEntry × MoveOutcome) :=
  ((h.sbl.queue.find? fun e => e.port = p).toList.map fun e => (e, .cancelledReset))
    ++ (h.flightOf p).toList.map fun m => (m.entry, .abandonedReset)

/-- The hub with no move of port `p` in flight, and the port back at its source (R127, R134). -/
def Hub.grounded : Hub := { h with
  sbl := { h.sbl with
    flight := if h.ramping p then none else h.sbl.flight
    ports := upd h.sbl.ports p fun b => { b with assign := match h.flightOf p with
      | some m => .one m.entry.source
      | none => b.assign } }
  bd := { h.bd with rampDue := h.bd.rampDue && !h.ramping p, abandonDue := h.bd.abandonDue && !h.ramping p } }

theorem unqueued_logs : (h.dropEntry p).Logs (h.unqueued p)
    ((h.sbl.queue.find? fun e => e.port = p).toList.map fun e => (e, .cancelledReset)) := by
  unfold Hub.unqueued
  cases h.sbl.queue.find? fun e => e.port = p with
  | none => exact logs_nil _
  | some e => exact logs_logMove _ e _

theorem unramped_logs : (h.grounded p).Logs (h.unramped p)
    ((h.flightOf p).toList.map fun m => (m.entry, .abandonedReset)) := by
  unfold Hub.unramped Hub.grounded Hub.ramping
  cases hf : h.flightOf p with
  | none =>
    have hsame : ({ h with
        sbl := { h.sbl with flight := h.sbl.flight, ports := upd h.sbl.ports p fun b => { b with assign := b.assign } }
        bd := { h.bd with rampDue := h.bd.rampDue && !false, abandonDue := h.bd.abandonDue && !false } } : Hub) = h := by
      rw [upd_same rfl, Bool.not_false, Bool.and_true, Bool.and_true]
    refine (congrArg (fun g : Hub => g.Logs h []) ?_).mpr (logs_nil h)
    exact hsame
  | some m =>
    have hport : m.entry.port = p := of_decide_eq_true (Option.filter_eq_some_iff.mp hf).2
    have hlog := logs_logMove (({ h with
      sbl := { h.sbl with flight := none }
      bd := { h.bd with rampDue := false, abandonDue := false } } : Hub).onBal p fun b =>
        { b with assign := .one m.entry.source }) m.entry .abandonedReset
    simp only [Option.isSome_some, Bool.not_true, Bool.and_false, if_true]
    unfold Hub.abandonMove
    rw [hport]
    exact hlog

theorem Hub.Logs.grounded {h g : Hub} {xs : List (MoveEntry × MoveOutcome)} (x : h.Logs g xs) (p : PortId) :
    (h.grounded p).Logs (g.grounded p) xs := by
  obtain ⟨hhub, hl, hm⟩ := x
  refine ⟨?_, hl, hm⟩
  rw [hhub]
  rfl

/-- Where the reset of port `p` in SERVICE places it (R134). -/
def Hub.resetAssign : Assign :=
  if h.tables.portOn p = false then .none
  else if (List.finRange 24).countP (fun q => q ≠ p && (h.assignOf q).has (h.tables.home p))
    < h.tables.maxMembers (h.tables.home p) then .one (h.tables.home p)
  else match h.flightOf p with
    | some m => .one m.entry.source
    | none => h.assignOf p

/-- A port is placed by the assignments of the others, by its home, and by the source of its move or its place. -/
theorem resetPlace_eq {g : Hub} (ht : g.tables = h.tables) (ha : ∀ q, q ≠ p → g.assignOf q = h.assignOf q)
    (hp : h.flightOf p = none → g.assignOf p = h.assignOf p) :
    g.resetPlace p ((h.flightOf p).map fun m => m.entry.source) = h.resetAssign p := by
  have hcount : g.countWithout p (h.tables.home p) =
      (List.finRange 24).countP fun q => q ≠ p && (h.assignOf q).has (h.tables.home p) := by
    refine List.countP_congr fun q _ => ?_
    by_cases hq : q = p
    · simp [hq]
    · rw [ha q hq]
  unfold Hub.resetPlace Hub.resetAssign
  dsimp only
  rw [ht, hcount]
  cases hf : h.flightOf p with
  | none =>
    rw [hp hf]
    cases h.tables.portOn p <;> rfl
  | some m => cases h.tables.portOn p <;> rfl

/-- The quiet state of a port after its reset in SERVICE (R131, R134). -/
theorem settled_eq : (if h.isQuiet p then h.wakePort p .reset else h.onBal p fun b => { b with quietCount := 0 }) =
    { h with
      sbl := { h.sbl with ports := upd h.sbl.ports p fun b => { b with
        quiet := false, quietDue := false, quietCount := 0
        wakeCause := if h.isQuiet p then .reset else b.wakeCause } }
      mga := if h.isQuiet p then h.mga.raised .quiet else h.mga } := by
  cases hq : h.isQuiet p with
  | true =>
    rw [if_pos rfl, wakePort_eq, if_pos hq]
    rfl
  | false =>
    obtain ⟨hawake, hdue⟩ : h.sbl.ports[p].quiet = false ∧ h.sbl.ports[p].quietDue = false := Bool.or_eq_false_iff.mp hq
    rw [if_neg Bool.false_ne_true]
    refine congrArg (fun v => { h with sbl := { h.sbl with ports := v } }) (upd_congr ?_)
    rw [hawake, hdue]
    rfl

/-- SBL's part of a port's reset in SERVICE (R134). -/
theorem balanceReset_blocks (hs : h.inService = true) : ∃ (log : List LogEntry) (marks : Vector Bool 7),
    h.balanceReset p = { h with
      sbl := { h.sbl with
        queue := h.sbl.queue.filter fun e => e.port ≠ p
        flight := if h.ramping p then none else h.sbl.flight
        log := log
        logSequence := h.sbl.logSequence + BitVec.ofNat 32 (h.resetEnds p).length
        ports := upd h.sbl.ports p fun b => { b with
          assign := h.resetAssign p
          holdOff := 0, returns := 0, quiet := false, quietCount := 0, quietDue := false
          wakeCause := if h.isQuiet p then .reset else b.wakeCause } }
      bd := { h.bd with rampDue := h.bd.rampDue && !h.ramping p, abandonDue := h.bd.abandonDue && !h.ramping p }
      mga := { h.mga with marks := marks } }
    ∧ (h.sbl.log.length ≤ 16 → log = logged h.sbl.log h.sbl.logSequence h.mga.seconds (h.resetEnds p))
    ∧ h.mga.marked { h.mga with marks := marks } fun n =>
      n = .move ∧ h.resetEnds p ≠ [] ∨ n = .quiet ∧ h.isQuiet p = true := by
  obtain ⟨u, hu, k, hk, he⟩ := balanceReset_service hs p
  have hlog := unqueued_logs (h.onBal p fun b => { b with holdOff := 0, returns := 0 }) p
  rw [← hu] at hlog
  have hflight : u.flightOf p = h.flightOf p := (congrArg (fun g : Hub => g.flightOf p) hlog.hub).trans rfl
  have hgrounded := (hlog.grounded p).trans (unramped_logs u p)
  rw [hflight] at hgrounded hk
  obtain ⟨hhub, hl, hmarked⟩ := hgrounded
  generalize u.unramped p = r at hk hhub hl hmarked
  generalize r.sbl.log = log at hhub hl
  generalize hm : r.mga.marks = marks at hhub
  replace hmarked : h.mga.marked { h.mga with marks := marks } fun n => n = .move ∧ h.resetEnds p ≠ [] :=
    fun n => hm ▸ hmarked n
  have hplace : r.resetPlace p ((h.flightOf p).map fun m => m.entry.source) = h.resetAssign p := by
    refine resetPlace_eq h p ((congrArg Hub.tables hhub).trans rfl) (fun q hq => ?_) fun hf => ?_
    · refine (congrArg (fun g : Hub => g.assignOf q) hhub).trans ?_
      exact congrArg PortBalance.assign ((upd_get_other _ _ hq.symm).trans (upd_get_other _ _ hq.symm))
    · refine (congrArg (fun g : Hub => g.assignOf p) hhub).trans ?_
      have hstay (b : PortBalance) : (match h.flightOf p with
          | some m => Assign.one m.entry.source
          | none => b.assign) = b.assign := by rw [hf]
      refine (congrArg PortBalance.assign (upd_get_same _ p _)).trans ((hstay _).trans ?_)
      exact (congrArg PortBalance.assign
        (upd_get_same h.sbl.ports p fun b => { b with holdOff := 0, returns := 0 })).trans rfl
  rw [hplace] at hk
  have hquiet : k.isQuiet p = h.isQuiet p := by
    rw [hk, hhub]
    unfold Hub.isQuiet
    dsimp only [Hub.onBal, Hub.grounded, Hub.dropEntry]
    rw [upd_upd, upd_upd, upd_get_same]
  have hsettled := settled_eq k p
  rw [hquiet] at hsettled
  refine ⟨log, (if h.isQuiet p then Mga.raised { h.mga with marks := marks } .quiet
    else { h.mga with marks := marks }).marks, ?_, hl, ?_⟩
  · rw [he, hquiet, hsettled, hk, hhub]
    dsimp only [Hub.onBal, Hub.grounded, Hub.dropEntry]
    rw [upd_upd, upd_upd, upd_upd]
    cases h.isQuiet p <;> rfl
  · exact (hmarked.raise_if (h.isQuiet p) .quiet).congr fun n => Iff.rfl

end Service

end Sys2Proof.Machine
end

section
/-! PORT_RESET resets one port in every block (O48). -/

namespace Sys2Proof.Machine

section Reset
variable (h : Hub) (p : PortId)

/-- The link of a port after its reset (R21). -/
def RemoteLink.afterReset (r : RemoteLink) : RemoteLink := { r with
  mask := 0, rtRange := false, erroredSec := 0
  meas := { r.meas with running := false }
  core := { r.core with
    state := match r.core.state with
      | .disabled => .disabled
      | .down => .down
      | _ => if r.core.signal then .hunt else .down
    good := 0, bad := 0, cand := none, last := none, errored := 0, slips := 0, drops := 0 } }

/-- The counts, the counters, the lane mask and the RT-range indication of a link, cleared (R21). -/
def RemoteLink.wiped (r : RemoteLink) : RemoteLink := { r.stopMeasuring with
  core := { r.core with
    good := 0, bad := 0, cand := none, last := none, errored := 0, slips := 0, drops := 0 }
  mask := 0, rtRange := false, erroredSec := 0 }

theorem wiped_left {r : RemoteLink} (hd : r.core.state ≠ .disabled) (hn : r.core.state ≠ .down) :
    ({ r with core := r.core.enterDown } : RemoteLink).wiped = r.afterReset := by
  obtain ⟨core, mask, sec, meas, delay, rt, range⟩ := r
  obtain ⟨state, signal, good, bad, cand, last, errored, slips, drops, handed, arrival, verdict, samples⟩ := core
  cases state with
  | disabled => exact absurd rfl hd
  | down => exact absurd rfl hn
  | _ => rfl

theorem wiped_same {r : RemoteLink} (hs : r.core.state = .disabled ∨ r.core.state = .down) : r.wiped = r.afterReset := by
  obtain ⟨core, mask, sec, meas, delay, rt, range⟩ := r
  obtain ⟨state, signal, good, bad, cand, last, errored, slips, drops, handed, arrival, verdict, samples⟩ := core
  rcases hs with rfl | rfl <;> rfl

theorem onRemote_wiped {g k : Hub} {leave : RemoteLink → RemoteLink}
    (hg : g.lnk = { h.lnk with remote := upd h.lnk.remote p leave })
    (hk : ∀ x : Lnk, ({ g with lnk := x } : Hub) = { k with lnk := x })
    (hl : (leave h.lnk.remote[p]).wiped = h.lnk.remote[p].afterReset) :
    g.onRemote p RemoteLink.wiped = { k with lnk := { h.lnk with remote := upd h.lnk.remote p RemoteLink.afterReset } } := by
  unfold Hub.onRemote
  rw [hk, hg]
  dsimp only
  rw [upd_upd]
  refine congrArg (fun v => { k with lnk := { h.lnk with remote := v } }) (upd_congr ?_)
  exact hl

theorem linkReset_eq : h.linkReset p = { (if (h.linkOf p).aligned then h.exited p LinkCore.enterDown else h) with
    lnk := { h.lnk with remote := upd h.lnk.remote p RemoteLink.afterReset } } := by
  have hunfold : h.linkReset p = (if (h.linkOf p).aligned then h.exitRemote p LinkCore.enterDown false
    else if h.linkOf p = .hunt then h.onCore (.remote p) LinkCore.enterDown
    else h).onRemote p RemoteLink.wiped := rfl
  rw [hunfold]
  have hst : h.linkOf p = h.lnk.remote[p].core.state := rfl
  rw [hst]
  by_cases ha : (h.lnk.remote[p].core.state).aligned = true
  · rw [if_pos ha, if_pos ha, exitRemote_eq]
    refine onRemote_wiped h p (leave := fun r => { r with
      meas := { r.meas with running := false }, core := r.core.enterDown, mask := 0 }) rfl (fun _ => rfl) ?_
    have hcleared (r : RemoteLink) : ({ r with
        meas := { r.meas with running := false }, core := r.core.enterDown, mask := 0 } : RemoteLink).wiped =
      ({ r with core := r.core.enterDown } : RemoteLink).wiped := rfl
    refine (hcleared _).trans (wiped_left (fun hn => ?_) fun hn => ?_)
    · rw [hn] at ha
      cases ha
    · rw [hn] at ha
      cases ha
  · rw [if_neg ha, if_neg ha]
    by_cases hh : h.lnk.remote[p].core.state = .hunt
    · rw [if_pos hh]
      refine onRemote_wiped h p (leave := fun r => { r with core := r.core.enterDown }) rfl (fun _ => rfl) ?_
      refine wiped_left (fun hn => ?_) fun hn => ?_
      · cases hh.symm.trans hn
      · cases hh.symm.trans hn
    · rw [if_neg hh]
      refine onRemote_wiped h p (leave := id) (by rw [upd_same rfl]) (fun _ => rfl) (wiped_same ?_)
      show h.lnk.remote[p].core.state = .disabled ∨ h.lnk.remote[p].core.state = .down
      cases hs : h.lnk.remote[p].core.state with
      | disabled => exact .inl rfl
      | down => exact .inr rfl
      | hunt => exact absurd hs hh
      | proving => exact absurd (hs ▸ rfl) ha
      | up => exact absurd (hs ▸ rfl) ha

/-- The port is not aligned after its reset. -/
theorem afterReset_unaligned (r : RemoteLink) : (r.afterReset.core.state).aligned = false := by
  unfold RemoteLink.afterReset
  dsimp only
  split
  · rfl
  · rfl
  · split <;> rfl

/-- What the reset of a port does in the blocks other than LNK, SBL and MGA (R50, R66, R79, R92, R110, R149, R156). -/
def Hub.wipedBlocks : Hub := { h with
  dlc := { h.dlc with
    combining := h.dlc.combining.set p.val false p.isLt
    clips := upd h.dlc.clips p fun _ => .replicate 4 0 }
  plm := upd h.plm p fun _ => { PortLimiter.init with cleared := true }
  deq := { h.deq with ports := upd h.deq.ports p fun e => { e with downLine := zeroLine, upLine := zeroLine, steps := 0 } }
  ulc := { h.ulc with gates := upd h.ulc.gates p fun _ => .replicate 4 .closed }
  lvm := { h.lvm with ports := upd h.lvm.ports p fun m => { m with
    meters := .replicate 4 .init, activity := 0, smoothed := 0, loop := .none, cleared := true } }
  fsv := { h.fsv with
    portRecords := upd h.fsv.portRecords p fun _ => .replicate 8 FaultRecord.init
    detectors := upd h.fsv.detectors p fun _ => Detectors.init }
  cte := { h.cte with
    transaction := if h.cte.inFlight p then none else h.cte.transaction
    ports := upd h.cte.ports p fun _ => PortCte.init } }

theorem mapTab_const {α β : Type} {n : Nat} (b : β) (v : Vector α n) : mapTab (fun _ => b) v = .replicate n b := by
  ext i hi
  rw [mapTab_getElem, Vector.getElem_replicate]

theorem limiter_clear_eq (m : PortLimiter) : m.clear false = { PortLimiter.init with cleared := true } := by
  unfold PortLimiter.clear
  simp only [Bool.false_eq_true, if_false]
  rw [mapTab_const]
  rfl

theorem records_reset_eq (v : Vector FaultRecord 8) :
    mapTab (FaultRecord.resetTo false) v = .replicate 8 FaultRecord.init :=
  mapTab_const _ v

theorem resetRecords_eq (keep : Bool) : ∃ fill : PortCte → PortCte, h.resetRecords p keep = { h with
    fsv := { h.fsv with
      portRecords := upd h.fsv.portRecords p (mapTab (FaultRecord.resetTo keep))
      detectors := h.fsv.detectors.set p.val .init p.isLt }
    cte := { h.cte with ports := upd h.cte.ports p fill } } := by
  unfold Hub.resetRecords
  dsimp only
  split
  · exact ⟨id, by rw [upd_same (v := h.cte.ports) rfl]⟩
  · exact ⟨_, rfl⟩

/-- The blocks of a port that is not aligned, reset one after the other. -/
theorem wipedBlocks_eq (ha : (h.linkOf p).aligned = false) :
    ((((((((((({ h with dlc := { h.dlc with clips := upd h.dlc.clips p fun _ => .replicate 4 0 } } : Hub).setCombining p
      false).onPlm p (PortLimiter.clear false)).onEq p fun e => { e.zeroLines with steps := 0 }).closeGates p).onMeter p
      fun m => { m.clear with loop := .none }).resetRecords p false).cteExit p).newIdentify p).clearRau p)) =
    h.wipedBlocks p := by
  obtain ⟨fill, hrec⟩ := resetRecords_eq ((((({ h with
    dlc := { h.dlc with clips := upd h.dlc.clips p fun _ => .replicate 4 0 } } : Hub).setCombining p
      false).onPlm p (PortLimiter.clear false)).onEq p fun e => { e.zeroLines with steps := 0 }).closeGates p |>.onMeter p
      fun m => { m.clear with loop := .none }) p false
  rw [hrec]
  dsimp only [Hub.setCombining, Hub.onPlm, Hub.onEq, Hub.closeGates, Hub.onGates, Hub.onMeter, Hub.cteExit,
    Hub.newIdentify, Hub.clearRau, Hub.onCte]
  have hplm : upd h.plm p (PortLimiter.clear false) = upd h.plm p fun _ => { PortLimiter.init with cleared := true } :=
    upd_congr (limiter_clear_eq _)
  have hrecords : upd h.fsv.portRecords p (mapTab (FaultRecord.resetTo false)) =
      upd h.fsv.portRecords p fun _ => .replicate 8 FaultRecord.init := upd_congr (records_reset_eq _)
  rw [hplm, hrecords, upd_upd, upd_upd, upd_upd]
  refine congrArg (fun v : Vector PortCte 24 => ({ h.wipedBlocks p with cte := { h.cte with
    transaction := if h.cte.inFlight p then none else h.cte.transaction
    ports := v } } : Hub)) (upd_congr (v := h.cte.ports) (i := p) (g := fun _ => PortCte.init) ?_)
  have hpending : (false || (h.linkOf p).aligned) = false := by rw [ha]; rfl
  exact congrArg (fun b => { PortCte.init with pending := b }) hpending

/-- The meters of a port after its reset: a loop test that ends with the port's exit from UP voids the window (R110). -/
def PortMeter.wiped (up : Bool) (m : PortMeter) : PortMeter := { m with
  meters := .replicate 4 .init, activity := 0, smoothed := 0, loop := .none, cleared := true
  void := m.void || decide (up = true ∧ m.loop ≠ .none) }

/-- What the reset of a port does after SBL's part (R21, R50, R66, R79, R92, R110, R149, R156). -/
def Hub.cleanPort : Hub := { h.wipedBlocks p with
  lnk := { h.lnk with remote := upd h.lnk.remote p RemoteLink.afterReset }
  lvm := { h.lvm with ports := upd h.lvm.ports p (PortMeter.wiped (h.isUp p)) }
  sbl := if h.isUp p then (h.exited p LinkCore.enterDown).sbl else h.sbl
  mga := if (h.linkOf p).aligned then (h.exited p LinkCore.enterDown).mga else h.mga }

theorem transaction_twice (c : Cte) (f : PortCte → PortCte) : (let d : Cte := { c with
      transaction := if c.inFlight p then none else c.transaction, ports := upd c.ports p f }
    if d.inFlight p then none else d.transaction) = if c.inFlight p then none else c.transaction := by
  dsimp only
  cases hf : c.inFlight p with
  | true =>
    unfold Cte.inFlight
    rfl
  | false =>
    have hfree : ({ c with transaction := c.transaction, ports := upd c.ports p f } : Cte).inFlight p = false := hf
    exact if_neg (ne_true_of_eq_false hfree)

theorem wipedBlocks_exited (leave : LinkCore → LinkCore) (x : Lnk) :
    ({ h.exited p leave with lnk := x } : Hub).wipedBlocks p = { h.wipedBlocks p with
      lnk := x
      lvm := { h.lvm with ports := upd h.lvm.ports p (PortMeter.wiped (h.isUp p)) }
      sbl := (h.exited p leave).sbl, mga := (h.exited p leave).mga } := by
  have htrans := transaction_twice p h.cte fun c => { c with pending := false, misses := 0, field := none }
  have hlvm : (upd (upd h.lvm.ports p fun m =>
        if h.isUp p = true ∧ m.loop ≠ .none then { m.dropWindow with loop := .none, void := true } else m) p fun m =>
      { m with meters := .replicate 4 .init, activity := 0, smoothed := 0, loop := .none, cleared := true }) =
      upd h.lvm.ports p (PortMeter.wiped (h.isUp p)) := by
    rw [upd_upd]
    refine upd_congr ?_
    unfold PortMeter.wiped
    dsimp only
    by_cases hc : h.isUp p = true ∧ h.lvm.ports[p].loop ≠ .none
    · rw [if_pos hc, decide_eq_true hc, Bool.or_true]
    · rw [if_neg hc, decide_eq_false hc, Bool.or_false]
  unfold Hub.wipedBlocks Hub.exited
  dsimp only at htrans ⊢
  rw [htrans, hlvm, upd_upd, upd_upd, Vector.set_set]

theorem isUp_of_unaligned {h : Hub} {p : PortId} (ha : (h.linkOf p).aligned = false) : h.isUp p = false := by
  refine Bool.eq_false_iff.mpr fun hu => ?_
  have hst : h.linkOf p = .up := of_decide_eq_true hu
  rw [hst] at ha
  cases ha

theorem linkReset_wiped : (h.linkReset p).wipedBlocks p = h.cleanPort p := by
  rw [linkReset_eq]
  unfold Hub.cleanPort
  by_cases ha : (h.linkOf p).aligned = true
  · rw [if_pos ha, if_pos ha, wipedBlocks_exited]
    have hsbl : (h.exited p LinkCore.enterDown).sbl =
        if h.isUp p then (h.exited p LinkCore.enterDown).sbl else h.sbl := by
      unfold Hub.exited
      cases h.isUp p <;> rfl
    rw [← hsbl]
  · have hup : h.isUp p = false := isUp_of_unaligned (Bool.eq_false_iff.mpr ha)
    rw [if_neg ha, if_neg ha, hup]
    have hlvm : (upd h.lvm.ports p (PortMeter.wiped false)) = upd h.lvm.ports p fun m =>
        { m with meters := .replicate 4 .init, activity := 0, smoothed := 0, loop := .none, cleared := true } := by
      refine upd_congr ?_
      unfold PortMeter.wiped
      rw [decide_eq_false fun hc => Bool.false_ne_true hc.1, Bool.or_false]
    rw [hlvm]
    rfl

theorem resetPort_eq : h.resetPort p = ((h.takePortDue p).balanceReset p).cleanPort p := by
  rw [← linkReset_wiped]
  refine wipedBlocks_eq _ p ?_
  generalize (h.takePortDue p).balanceReset p = k
  unfold Hub.linkOf
  rw [linkReset_eq]
  dsimp only
  rw [upd_get_same]
  exact afterReset_unaligned _

end Reset

end Sys2Proof.Machine
end

section
/-! PORT_RESET is judged and completes (O48). -/

namespace Sys2Proof.Machine

/-! ## What is done first -/

theorem presented_present (r : FaultRecord) (t : Tables) (row : Nat) : (r.presented t row).present = true := by
  unfold FaultRecord.presented
  split
  next hp => exact hp
  next => rfl

theorem present_present (h : Hub) (p : PortId) (c : PortClass) :
    ((h.present (.port p c)).faultRecord (.port p c)).present = true := by
  obtain ⟨⟨hrec, -⟩, -⟩ := present_spec h p c
  rw [hrec, if_pos rfl]
  exact presented_present _ _ _

/-- A detection under a mode other than IGNORE is the last entry of the history (R147, R148). -/
theorem present_history {h : Hub} {k : FaultKey} (hp : (h.faultRecord k).present = false)
    (hm : h.tables.responseMode k.row ≠ .ignore) :
    (h.present k).fsv.history.getLast? = some ⟨k, .detected, h.mga.seconds⟩ := by
  have hdet : h.present k = h.detect k := if_neg (by simp [hp])
  have hdetects : (h.faultRecord k).detects h.tables k.row = true := by simp [FaultRecord.detects, hp, hm]
  have hsec : (h.changeRecord k ((h.faultRecord k).presented h.tables k.row)).mga.seconds = h.mga.seconds :=
    (congrArg Mga.seconds (supervised_changeRecord h k ((h.faultRecord k).presented h.tables k.row)).mga).trans rfl
  rw [hdet, detect_eq h k hp]
  dsimp only
  rw [hdetects]
  generalize h.changeRecord k ((h.faultRecord k).presented h.tables k.row) = g at hsec
  have hlast : (g.writeHistory k .detected).fsv.history.getLast? = some ⟨k, .detected, h.mga.seconds⟩ := by
    rw [← hsec]
    exact List.getLast?_concat
  cases (h.faultRecord k).enters h.tables k.row <;> exact hlast

section Due
variable {h : Hub} {p : PortId}

theorem overdriveDue_eq (hd : h.bd.limiterDone = true) (hf : h.plm[p].flag = false)
    (hb : ∃ b : Lane, h.plm[p].lanes[b].overdrive = 16) (hc : h.plm[p].clean ≠ 16) (hr : h.restartDue = false) :
    h.overdriveDue p = ({ h with plm := upd h.plm p fun m => { m with flag := true } } : Hub).present
      (.port p .dlOverdrive) := by
  have hpresent := overdrivePresent_eq hd hf hb
  rw [hr] at hpresent
  replace hpresent := hpresent.trans (if_neg Bool.false_ne_true)
  unfold Hub.overdriveDue
  rw [if_pos hd, hpresent]
  obtain ⟨f, b, m, he, -⟩ := present_blocks { h with plm := upd h.plm p fun m => { m with flag := true } } p .dlOverdrive
  rw [he]
  refine overdriveClear_of_not fun hn => ?_
  rcases hn with hn | ⟨-, hn⟩
  · exact ne_false_of_eq_true hd hn
  · dsimp only at hn
    rw [upd_get_same] at hn
    exact hc hn

/-- An overdrive that PLM's update has decided on is PRESENT when the port is reset (R66). -/
theorem takePortDue_overdriven (hd : h.bd.limiterDone = true) (hf : h.plm[p].flag = false)
    (hb : ∃ b : Lane, h.plm[p].lanes[b].overdrive = 16) (hc : h.plm[p].clean ≠ 16)
    (hbusy : ∃ tag, h.mga.busy = some (.portReset tag p)) : let g := h.takePortDue p
    let k := FaultKey.port p .dlOverdrive
    (g.faultRecord k).present = true
    ∧ ((h.faultRecord k).present = false → g.tables.responseMode k.row ≠ .ignore →
      g.fsv.history.getLast? = some ⟨k, .detected, g.mga.seconds⟩) := by
  obtain ⟨tag, hbusy⟩ := hbusy
  obtain ⟨hplm, hdone, hrec, -⟩ := prepares_before p h
  have hkept : Within h (((h.takeDue p).alignmentLost (.remote p)).presentDue p) :=
    ((kept_takeDue p h).trans ((kept_alignmentLost (.remote p) _).trans (calm_presentDue p _).kept)).toWithin
  unfold Hub.takePortDue
  generalize ((h.takeDue p).alignmentLost (.remote p)).presentDue p = g at hplm hdone hrec hkept
  have hrestart : g.restartDue = false := by
    refine Bool.eq_false_iff.mpr fun hr => ?_
    have hg := (restartDue_iff.mp hr).1
    rcases hkept.busy with hb | hb | ⟨q, hb⟩
    · rw [hg, hbusy] at hb
      cases hb
    · rw [hg] at hb
      cases hb
    · rw [hg] at hb
      cases hb
  rw [← hplm] at hf hb hc
  rw [← hdone] at hd
  rw [overdriveDue_eq hd hf hb hc hrestart]
  have hrec' : ({ g with plm := upd g.plm p fun m => { m with flag := true } } : Hub).faultRecord (.port p .dlOverdrive)
    = h.faultRecord (.port p .dlOverdrive) := hrec
  generalize ({ g with plm := upd g.plm p fun m => { m with flag := true } } : Hub) = k at hrec'
  refine ⟨present_present k p .dlOverdrive, fun hp hm => ?_⟩
  have heffect := present_effect k p .dlOverdrive
  rw [heffect.tables] at hm
  rw [heffect.seconds]
  exact present_history (hrec' ▸ hp) hm

/-- Steps that leave the links and the record of LINK_LOSS of port `p`. -/
def Hub.keepsLoss (p : PortId) (h g : Hub) : Prop :=
  g.lnk = h.lnk ∧ g.faultRecord (.port p .linkLoss) = h.faultRecord (.port p .linkLoss)

theorem Hub.keepsLoss.trans {g k : Hub} (x : h.keepsLoss p g) (y : g.keepsLoss p k) : h.keepsLoss p k :=
  ⟨y.1.trans x.1, y.2.trans x.2⟩

theorem keepsLoss_present (h : Hub) (p : PortId) {c : PortClass} (hc : c ≠ .linkLoss) :
    h.keepsLoss p (h.present (.port p c)) := by
  obtain ⟨⟨hrec, -⟩, -⟩ := present_spec h p c
  exact ⟨lnk_present h p c, (hrec _).trans (if_neg fun he => hc (FaultKey.port.inj he).2.symm)⟩

theorem keepsLoss_presentDue (h : Hub) (p : PortId) : h.keepsLoss p (h.presentDue p) := by
  have hturn (g : Hub) (b : Bool) (f : Detectors → Detectors) {c : PortClass} (hc : c ≠ .linkLoss) :
      g.keepsLoss p (if b then (g.onDet p f).present (.port p c) else g) := by
    cases b with
    | true => exact Hub.keepsLoss.trans (g := g.onDet p f) ⟨rfl, rfl⟩ (keepsLoss_present _ p hc)
    | false => exact ⟨rfl, rfl⟩
  exact (hturn h _ _ (by decide)).trans ((hturn _ _ _ (by decide)).trans (hturn _ _ _ (by decide)))

theorem keepsLoss_overdriveDue (h : Hub) (p : PortId) : h.keepsLoss p (h.overdriveDue p) := by
  have hupdate (g : Hub) : g.keepsLoss p g.limiterUpdate := by
    unfold Hub.limiterUpdate
    split <;> exact ⟨rfl, rfl⟩
  have hpresent (g : Hub) : g.keepsLoss p (g.overdrivePresent p) := by
    refine (hupdate g).trans ?_
    unfold Hub.overdrivePresent
    generalize g.limiterUpdate = k
    dsimp only
    split
    · split
      · exact ⟨rfl, rfl⟩
      · exact Hub.keepsLoss.trans (g := k.onPlm p _) ⟨rfl, rfl⟩ (keepsLoss_present _ p (by decide))
    · exact ⟨rfl, rfl⟩
  have hclear (g : Hub) : g.keepsLoss p (g.overdriveClear p) := by
    refine (hupdate g).trans ?_
    unfold Hub.overdriveClear
    generalize g.limiterUpdate = k
    dsimp only
    split
    · split
      · exact ⟨rfl, rfl⟩
      · obtain ⟨hrec, -⟩ := clear_spec (k.onPlm p fun m => { m with flag := false }) (.port p .dlOverdrive)
        exact ⟨lnk_clear _ _, (hrec _).trans (if_neg fun he => PortClass.noConfusion (FaultKey.port.inj he).2)⟩
    · exact ⟨rfl, rfl⟩
  unfold Hub.overdriveDue
  split
  · exact (hpresent h).trans (hclear _)
  · exact ⟨rfl, rfl⟩

/-- A port whose eighth bad marker has come leaves its aligned state before it is reset (R5). -/
theorem takePortDue_lost (ha : (h.linkOf p).aligned = true) (hb : 8 ≤ h.lnk.remote[p].core.bad) :
    (h.takePortDue p).linkOf p = .hunt ∧ ((h.takePortDue p).faultRecord (.port p .linkLoss)).present = true := by
  have hlost := alignmentLost_remote (h.takeDue p) p (takeDue_aligned ha) ((takeDue_bad ha).symm ▸ hb)
  have hkeeps := (keepsLoss_presentDue ((h.takeDue p).alignmentLost (.remote p)) p).trans (keepsLoss_overdriveDue _ p)
  have htake : h.takePortDue p = (((h.takeDue p).alignmentLost (.remote p)).presentDue p).overdriveDue p := rfl
  rw [htake]
  generalize (((h.takeDue p).alignmentLost (.remote p)).presentDue p).overdriveDue p = t at hkeeps
  rw [hlost] at hkeeps
  obtain ⟨hlnk, hrec⟩ := hkeeps
  constructor
  · unfold Hub.linkOf
    rw [hlnk, lnk_present]
    exact congrArg (fun r : RemoteLink => r.core.state) (upd_get_same _ p _)
  · rw [hrec]
    exact present_present _ p .linkLoss

end Due

/-! ## The completion -/

/-- What SBL's part of a reset leaves of a port: CONFIG clears three counts, SERVICE does all of R134. -/
def Hub.balanceCleared (h : Hub) (p : PortId) : Hub := { h with
  sbl := { h.sbl with ports := upd h.sbl.ports p fun b => { b with holdOff := 0, returns := 0, quietCount := 0 } } }

theorem balanceReset_config {h : Hub} (hs : h.inService = false) (p : PortId) :
    h.balanceReset p = h.balanceCleared p := by
  have hs' : (h.onBal p fun b => { b with holdOff := 0, returns := 0 }).inService = false := hs
  unfold Hub.balanceReset
  dsimp only
  rw [hs']
  refine (if_pos rfl).trans ?_
  unfold Hub.onBal
  rw [upd_upd]
  rfl

theorem portResetEffect_eq {h : Hub} {tag : Byte} {p : PortId} (hb : h.mga.busy = some (.portReset tag p))
    (hr : h.mga.busyRipe = true) : h.portResetEffect = ((h.resetPort p).answerOk tag
      [((h.resetPort p).linkOf p).code, boolByte (h.queued p || h.ramping p)]).free := by
  unfold Hub.portResetEffect
  rw [hb]
  exact if_pos hr

theorem linkState_byte (x : LinkState) :
    x.code = BitVec.ofNat 8 ([LinkState.disabled, .down, .hunt, .proving, .up].idxOf x) := by
  cases x <;> rfl

/-- An exit from UP of a port that neither is QUIET nor has a move in flight leaves SBL alone. -/
theorem exited_sbl_settled {h : Hub} {p : PortId} (leave : LinkCore → LinkCore) (hq : h.isQuiet p = false)
    (hf : h.flightOf p = none) : (h.exited p leave).sbl = h.sbl := by
  have hflight : (h.sbl.flight.map fun m =>
      if m.entry.port = p ∧ m.ending = none then { m with ending := some .link } else m) = h.sbl.flight := by
    unfold Hub.flightOf at hf
    cases hm : h.sbl.flight with
    | none => rfl
    | some m =>
      rw [hm] at hf
      refine congrArg some (if_neg fun hc => ?_)
      simp [Option.filter, hc.1] at hf
  unfold Hub.exited
  dsimp only
  rw [hq, hflight, upd_same (v := h.sbl.ports) rfl]
  cases h.isUp p <;> rfl

/-- What a port's exit, where it is aligned, makes of the agent: answers, and marks. -/
theorem cleanPort_mga (h : Hub) (p : PortId) : (∃ rs, (h.cleanPort p).mga =
      { h.mga.given rs with marks := (h.cleanPort p).mga.marks })
    ∧ h.mga.marked (h.cleanPort p).mga fun n =>
      n = .link ∧ h.isUp p = true ∨ n = .quiet ∧ h.isQuiet p = true ∧ h.isUp p = true := by
  unfold Hub.cleanPort
  dsimp only
  by_cases ha : (h.linkOf p).aligned = true
  · rw [if_pos ha]
    exact ⟨⟨h.exitAnswers p, exited_mga h p _⟩, exited_marked h p _⟩
  · have hup : h.isUp p = false := isUp_of_unaligned (Bool.eq_false_iff.mpr ha)
    rw [if_neg ha]
    refine ⟨⟨[], by rw [Mga.given_nil]⟩, (Mga.marked.same rfl).congr fun n => ?_⟩
    rw [hup]
    simp

theorem silent_balanceReset (h : Hub) (p : PortId) : h.silent (h.balanceReset p) := by
  by_cases hs : h.inService = true
  · obtain ⟨log, marks, hk, -⟩ := balanceReset_blocks h p hs
    rw [hk]
    exact .of_mga rfl rfl
  · rw [balanceReset_config (Bool.eq_false_iff.mpr hs)]
    exact .of_mga rfl rfl

theorem cleanPort_sbl (h : Hub) (p : PortId) : (h.cleanPort p).sbl =
    if h.isUp p then (h.exited p LinkCore.enterDown).sbl else h.sbl := rfl

section Completion
variable {h : Hub} {p : PortId}

/-- The reset of a port in SERVICE: its moves end, it is placed anew and it wakes (R131, R134). -/
theorem reset_service (hs : h.inService = true) : let r := (h.balanceReset p).cleanPort p
    r.sbl = { h.sbl with
      queue := h.sbl.queue.filter fun e => e.port ≠ p
      flight := if h.ramping p then none else h.sbl.flight
      log := r.sbl.log, logSequence := h.sbl.logSequence + BitVec.ofNat 32 (h.resetEnds p).length
      ports := upd h.sbl.ports p fun b => { b with
        assign := h.resetAssign p
        holdOff := 0, returns := 0, quiet := false, quietCount := 0, quietDue := false
        wakeCause := if h.isQuiet p then .reset else b.wakeCause } }
    ∧ (h.sbl.log.length ≤ 16 → r.sbl.log = logged h.sbl.log h.sbl.logSequence h.mga.seconds (h.resetEnds p))
    ∧ r.bd = { h.bd with
        rampDue := h.bd.rampDue && !h.ramping p, abandonDue := h.bd.abandonDue && !h.ramping p }
    ∧ h.mga.marked r.mga fun n => (n = .move ∧ h.resetEnds p ≠ [] ∨ n = .quiet ∧ h.isQuiet p = true)
      ∨ n = .link ∧ h.isUp p = true := by
  obtain ⟨log, marks, hk, hlog, hmarked⟩ := balanceReset_blocks h p hs
  have hquiet : (h.balanceReset p).isQuiet p = false := by
    rw [hk]
    unfold Hub.isQuiet
    dsimp only
    rw [upd_get_same]
    rfl
  have hflight : (h.balanceReset p).flightOf p = none := by
    rw [hk]
    unfold Hub.flightOf
    dsimp only
    cases hr : h.ramping p with
    | true => rfl
    | false =>
      rw [if_neg Bool.false_ne_true]
      exact Option.isSome_eq_false_iff.mp hr |> Option.isNone_iff_eq_none.mp
  have hsbl : ((h.balanceReset p).cleanPort p).sbl = (h.balanceReset p).sbl := by
    rw [cleanPort_sbl, exited_sbl_settled _ hquiet hflight, ite_self]
  obtain ⟨-, hexit⟩ := cleanPort_mga (h.balanceReset p) p
  have hup : (h.balanceReset p).isUp p = h.isUp p := (congrArg (fun g : Hub => g.isUp p) hk).trans rfl
  have hmga : h.mga.marked (h.balanceReset p).mga fun n =>
      n = .move ∧ h.resetEnds p ≠ [] ∨ n = .quiet ∧ h.isQuiet p = true := by
    rw [hk]
    exact hmarked
  have hbd : ((h.balanceReset p).cleanPort p).bd = (h.balanceReset p).bd := rfl
  dsimp only
  rw [hsbl, hbd]
  refine ⟨?_, ?_, ?_, (hmga.trans hexit).congr fun n => ?_⟩
  · rw [hk]
  · rw [hk]
    exact hlog
  · rw [hk]
  · rw [hquiet, hup]
    simp

/-- The reset of a port in CONFIG: three of its counts are cleared, and where it leaves UP it wakes (R126, R131). -/
theorem reset_config (hs : h.inService = false) : let r := (h.balanceReset p).cleanPort p
    r.sbl = { h.sbl with
      ports := upd h.sbl.ports p fun b =>
        let b := { b with holdOff := 0, returns := 0, quietCount := 0 }
        if h.isUp p = true ∧ h.isQuiet p = true then
          { b with quiet := false, quietDue := false, wakeCause := .link } else b
      flight := h.sbl.flight.map fun m =>
        if h.isUp p = true ∧ m.entry.port = p ∧ m.ending = none then { m with ending := some .link } else m }
    ∧ r.bd = h.bd
    ∧ h.mga.marked r.mga fun n => n = .link ∧ h.isUp p = true ∨ n = .quiet ∧ h.isQuiet p = true ∧ h.isUp p = true := by
  have hquiet : (h.balanceCleared p).isQuiet p = h.isQuiet p := by
    unfold Hub.isQuiet Hub.balanceCleared
    dsimp only
    rw [upd_get_same]
  obtain ⟨-, hexit⟩ := cleanPort_mga (h.balanceCleared p) p
  rw [balanceReset_config hs]
  refine ⟨?_, rfl, hexit.congr fun n => ?_⟩
  · rw [cleanPort_sbl]
    unfold Hub.exited
    rw [hquiet]
    have hup : (h.balanceCleared p).isUp p = h.isUp p := rfl
    rw [hup]
    unfold Hub.balanceCleared
    cases h.isUp p with
    | true =>
      dsimp only
      rw [upd_upd]
      simp only [true_and, if_true]
    | false => simp
  · rw [hquiet]
    rfl

theorem reset_blocks : let r := (h.balanceReset p).cleanPort p
    r = { h.wipedBlocks p with
      lnk := { h.lnk with remote := upd h.lnk.remote p RemoteLink.afterReset }
      lvm := { h.lvm with ports := upd h.lvm.ports p (PortMeter.wiped (h.isUp p)) }
      sbl := r.sbl, mga := r.mga, bd := r.bd }
    ∧ ∃ rs, r.mga = { h.mga.given rs with marks := r.mga.marks } := by
  obtain ⟨⟨rs, hmga⟩, -⟩ := cleanPort_mga (h.balanceReset p) p
  by_cases hs : h.inService = true
  · obtain ⟨log, marks, hk, -⟩ := balanceReset_blocks h p hs
    rw [hk] at hmga ⊢
    exact ⟨rfl, rs, hmga⟩
  · rw [balanceReset_config (Bool.eq_false_iff.mpr hs)] at hmga ⊢
    exact ⟨rfl, rs, hmga⟩

end Completion

/-- The notices of a reset in SERVICE, in the order of the rules. -/
theorem reset_raises_service {L M Q S exits ends quiet : Prop} (hs : S) :
    (M ∧ ends ∨ Q ∧ quiet) ∨ L ∧ exits ↔ L ∧ exits ∨ M ∧ S ∧ ends ∨ Q ∧ quiet ∧ (S ∨ exits) := by
  tauto

/-- The notices of a reset in CONFIG, in the order of the rules. -/
theorem reset_raises_config {L M Q S exits ends quiet : Prop} (hs : ¬ S) :
    L ∧ exits ∨ Q ∧ quiet ∧ exits ↔ L ∧ exits ∨ M ∧ S ∧ ends ∨ Q ∧ quiet ∧ (S ∨ exits) := by
  tauto

theorem silent_cleanPort (h : Hub) (p : PortId) : h.silent (h.cleanPort p) := by
  obtain ⟨⟨rs, hmga⟩, -⟩ := cleanPort_mga h p
  exact silent_given rs ((congrArg Mga.responses hmga).trans rfl) ((congrArg Mga.busy hmga).trans rfl)

end Sys2Proof.Machine

namespace Sys2Proof
open Machine

/-- Settles O48. -/
theorem portResetResetsOnePort : Obligations.PortResetResetsOnePort := by
  refine ⟨fun c rest s ho => ⟨fun ha => asked_next ho ?_, fun p hp => asked_next ho ?_⟩, ?_⟩
  · exact withPort_outside ha _
  · exact withPort_of hp _
  intro tag p s h₀ h overdrive home others exits ends hbusy hripe
  refine ⟨?_, ?_, ?_, ?_⟩
  · exact fun hn => takePortDue_of_nothingDue hn
  · intro hd hf hb hc
    have hpresent := takePortDue_overdriven hd hf hb hc ⟨tag, hbusy⟩
    dsimp only at hpresent
    dsimp only [h, overdrive]
    exact hpresent
  · intro ha hb
    exact takePortDue_lost (h := h₀) ha hb
  · have heffect : exec .portResetEffect s = .next { s with hub := (((h.balanceReset p).cleanPort p).answerOk tag
        [(((h.balanceReset p).cleanPort p).linkOf p).code, boolByte (h₀.queued p || h₀.ramping p)]).free } := by
      refine next_congr ((portResetEffect_eq hbusy hripe).trans ?_)
      rw [resetPort_eq]
    have hbounded : h₀.answersBounded → ((h.balanceReset p).cleanPort p).mga.responses = h₀.mga.responses := by
      intro ha
      have hwaits := (kept_resetPort h₀ p).waits ha _ hbusy rfl
      rw [resetPort_eq] at hwaits
      exact ((silent_takePortDue p h₀).trans ((silent_balanceReset h p).trans (silent_cleanPort _ p))).responses hwaits
    obtain ⟨hr, rs, hmga⟩ := reset_blocks (h := h) (p := p)
    have hserv := reset_service (h := h) (p := p)
    have hconf := reset_config (h := h) (p := p)
    dsimp only at hr hmga hserv hconf
    generalize (h.balanceReset p).cleanPort p = r at heffect hr hmga hserv hconf hbounded
    clear_value h
    refine ⟨_, heffect, rfl, ?_, ⟨?_, ?_⟩, ?_, ?_, ?_, ?_, ?_, ?_, ?_, ?_, ?_, ?_, ?_, ?_, ?_⟩
    · exact (congrArg (fun m : Mga => { m with
        busy := none, busyRipe := false, responses := r.mga.responses ++ [okResponse tag
          [(r.linkOf p).code, boolByte (h₀.queued p || h₀.ramping p)]] }) hmga).trans rfl
    · refine List.getLast?_concat.trans (congrArg (fun x => some (okResponse tag [x, _])) ?_)
      exact linkState_byte _
    · intro ha
      refine congrArg₂ (fun (rs : List Response) x => rs ++ [okResponse tag [x, _]]) (hbounded ha) ?_
      exact linkState_byte _
    · exact (congrArg Hub.lnk hr).trans rfl
    · exact (congrArg Hub.dlc hr).trans rfl
    · exact (congrArg Hub.plm hr).trans rfl
    · exact (congrArg Hub.deq hr).trans rfl
    · exact (congrArg Hub.ulc hr).trans rfl
    · exact (congrArg Hub.lvm hr).trans rfl
    · exact (congrArg Hub.fsv hr).trans rfl
    · refine (congrArg Hub.cte hr).trans ?_
      exact congrArg (fun x => { h.cte with
        transaction := x
        ports := upd h.cte.ports p fun _ => PortCte.init }) (transaction_of_others h p)
    · intro hs
      obtain ⟨hsbl, hlog, hbd, -⟩ := hserv hs
      refine ⟨hsbl.trans ?_, hlog, hbd⟩
      exact congrArg (fun v => { h.sbl with
        queue := h.sbl.queue.filter fun e => e.port ≠ p
        flight := if h.ramping p then none else h.sbl.flight
        log := r.sbl.log, logSequence := h.sbl.logSequence + BitVec.ofNat 32 (h.resetEnds p).length
        ports := v }) (upd_congr rfl)
    · intro hs
      obtain ⟨hsbl, hbd, -⟩ := hconf hs
      exact ⟨hsbl, hbd⟩
    · by_cases hs : h.inService = true
      · obtain ⟨-, -, -, hmarked⟩ := hserv hs
        exact hmarked.congr fun n => reset_raises_service hs
      · obtain ⟨-, -, hmarked⟩ := hconf (Bool.eq_false_iff.mpr hs)
        exact hmarked.congr fun n => reset_raises_config hs
    · exact (congrArg Hub.tld hr).trans rfl
    · exact (congrArg Hub.frame hr).trans rfl

end Sys2Proof
end

section
/-! The balancing procedure in plain terms (O56): loads and excesses, the working values that candidates leave, and what
of the hub the procedure reads. -/

namespace Sys2Proof.Machine

/-! ## Sorting that keeps the order of equals -/

section Stable
variable {α : Type} [LinearOrder α] (r : α → α → Prop) [DecidableRel r]

/-- `a` comes before `b` by `r`, the lower one among those that `r` does not tell apart. -/
def stableBefore (a b : α) : Prop := r a b ∧ (r b a → a < b)

variable (ht : ∀ a b, r a b ∨ r b a) (htrans : ∀ a b c, r a b → r b c → r a c)
include ht htrans

omit [DecidableRel r] ht in
theorem stableBefore_trans {a b c : α} (x : stableBefore r a b) (y : stableBefore r b c) : stableBefore r a c :=
  ⟨htrans a b c x.1 y.1, fun hca => (x.2 (htrans b c a y.1 hca)).trans (y.2 (htrans c a b hca x.1))⟩

theorem pairwise_orderedInsert {a : α} {l : List α} (hl : l.Pairwise (stableBefore r)) (ha : ∀ b ∈ l, a < b) :
    (l.orderedInsert r a).Pairwise (stableBefore r) := by
  induction l with
  | nil => exact List.pairwise_singleton _ _
  | cons b l ih =>
    obtain ⟨hb, hl'⟩ := List.pairwise_cons.mp hl
    have hab : a < b := ha b List.mem_cons_self
    by_cases hle : r a b
    · have hfirst : stableBefore r a b := ⟨hle, fun _ => hab⟩
      rw [List.orderedInsert_cons, if_pos hle]
      refine List.pairwise_cons.mpr ⟨fun c hc => ?_, hl⟩
      rcases List.mem_cons.mp hc with rfl | hc
      · exact hfirst
      · exact stableBefore_trans r htrans hfirst (hb c hc)
    · rw [List.orderedInsert_cons, if_neg hle]
      refine List.pairwise_cons.mpr ⟨fun c hc => ?_, ih hl' fun c hc => ha c (List.mem_cons_of_mem b hc)⟩
      rcases (List.mem_orderedInsert _).mp hc with rfl | hc
      · exact ⟨(ht _ _).resolve_left hle, fun hr => absurd hr hle⟩
      · exact hb c hc

/-- Sorting keeps those that it does not tell apart in their order. -/
theorem pairwise_insertionSort {l : List α} (hl : l.Pairwise (· < ·)) :
    (l.insertionSort r).Pairwise (stableBefore r) := by
  induction l with
  | nil => exact .nil
  | cons a l ih =>
    obtain ⟨ha, hl'⟩ := List.pairwise_cons.mp hl
    exact pairwise_orderedInsert r ht htrans (ih hl') fun b hb => ha b ((List.mem_insertionSort _).mp hb)

end Stable

/-! ## What the procedure reads -/

section Terms
variable (h : Hub)

/-- The load of a sector at an interval: 0 where it is disabled (R24, R103). -/
def Hub.intervalLoad (z : SectorId) : Nat :=
  if h.tables.sectorOn z then ((List.finRange 24).map fun p : PortId =>
    if (h.assignOf p).counts = some z then h.lvm.ports[p].smoothed else 0).sum else 0

/-- How far a sector's load is above its high mark (R115). -/
def Hub.excess (z : SectorId) : Nat := h.intervalLoad z - h.eventTables.highMark z

/-- A sector is over-loaded (R115). -/
def Hub.heavy (z : SectorId) : Bool :=
  h.tables.sectorOn z && decide (h.eventTables.highMark z < h.intervalLoad z)

/-- Sector `y` has its turn before sector `z` (R115). -/
def Hub.turnBefore (y z : SectorId) : Prop := h.excess z < h.excess y ∨ h.excess y = h.excess z ∧ y < z

/-- The working load of a sector after some candidates (R115). -/
def Hub.workOf (prior : List MoveEntry) (z : SectorId) : Nat :=
  prior.foldl (fun w e => (if e.source = z then w - h.lvm.ports[e.port].smoothed else w)
    + if e.target = z then h.lvm.ports[e.port].smoothed else 0) (h.intervalLoad z)

/-- The working count of a sector after some candidates (R115). -/
def Hub.countOf (prior : List MoveEntry) (z : SectorId) : Nat :=
  prior.foldl (fun n e => (if e.source = z then n - 1 else n) + if e.target = z then 1 else 0) (h.assignedCount z)

/-- A port is eligible, its assignment and the candidates made apart (R116). -/
def Hub.movable (p : PortId) : Prop := h.isUp p = true ∧ h.eventTables.pinned p = false ∧ h.isQuiet p = false
  ∧ h.sbl.ports[p].holdOff = 0 ∧ h.allIdle p = true ∧ h.inLoopTest p = false ∧ h.queued p = false

/-- A port is ranked in a sector (R117). -/
def Hub.rankedIn (z : SectorId) (p : PortId) : Prop := h.movable p ∧ h.assignOf p = .one z

/-- Port `p` is ranked before port `q` in sector `z` (R117). -/
def Hub.sooner (z : SectorId) (p q : PortId) : Prop :=
  if h.excess z ≤ h.lvm.ports[p].smoothed then h.lvm.ports[q].smoothed < h.excess z
    ∨ h.lvm.ports[p].smoothed < h.lvm.ports[q].smoothed ∨ h.lvm.ports[p].smoothed = h.lvm.ports[q].smoothed ∧ p < q
  else h.lvm.ports[q].smoothed < h.excess z
    ∧ (h.lvm.ports[q].smoothed < h.lvm.ports[p].smoothed ∨ h.lvm.ports[p].smoothed = h.lvm.ports[q].smoothed ∧ p < q)

/-- Sector `z` is a fitting target for port `p` after some candidates (R117). -/
def Hub.fitsAfter (prior : List MoveEntry) (p : PortId) (z : SectorId) : Prop :=
  h.tables.sectorOn z = true ∧ h.countOf prior z < h.eventTables.maxMembers z
    ∧ h.workOf prior z + h.lvm.ports[p].smoothed ≤ h.eventTables.highMark z ∧ h.spreadPasses p z = true

/-- `g` is `h` in the balancing procedure with the candidates `made`: the working values have moved with them, and no
more than the return counters and the skip counter beside. -/
structure Hub.Balanced (made : List MoveEntry) (g : Hub) : Prop where
  hub : g = { h with sbl := { h.sbl with
    intervalDue := false
    sectors := tab fun z => { workLoad := h.workOf made z, workCount := h.countOf made z
                              lastLoad := h.intervalLoad z, overloaded := h.heavy z }
    ports := g.sbl.ports, skips := g.sbl.skips } }
  ports : ∀ p : PortId, g.sbl.ports[p] = { h.sbl.ports[p] with returns := g.sbl.ports[p].returns }

theorem balanced_takeLoads : h.Balanced [] ({ h with sbl := { h.sbl with intervalDue := false } } : Hub).takeLoads where
  hub := by
    have hload (z : SectorId) : (if h.tables.sectorOn z then
        ({ h with sbl := { h.sbl with intervalDue := false } } : Hub).sectorLoad z else 0) = h.intervalLoad z := by
      unfold Hub.intervalLoad Hub.sectorLoad
      rw [List.sum_eq_foldl, List.foldl_map]
      rfl
    unfold Hub.takeLoads
    simp only [hload]
    rfl
  ports p := rfl

end Terms

namespace Hub.Balanced

variable {h g : Hub} {made : List MoveEntry} (x : h.Balanced made g)
include x

theorem smoothed (p : PortId) : g.smoothed p = h.lvm.ports[p].smoothed :=
  (congrArg (fun k : Hub => k.smoothed p) x.hub).trans rfl

theorem sector (z : SectorId) : g.sbl.sectors[z] = { workLoad := h.workOf made z, workCount := h.countOf made z
                                                     lastLoad := h.intervalLoad z, overloaded := h.heavy z } :=
  (congrArg (fun k : Hub => k.sbl.sectors[z]) x.hub).trans (tab_get _ z)

theorem eventTables : g.eventTables = h.eventTables := (congrArg Hub.eventTables x.hub).trans rfl

theorem tables : g.tables = h.tables := (congrArg Hub.tables x.hub).trans rfl

theorem assignOf (p : PortId) : g.assignOf p = h.assignOf p :=
  (congrArg PortBalance.assign (x.ports p)).trans rfl

theorem isQuiet (p : PortId) : g.isQuiet p = h.isQuiet p := by
  unfold Hub.isQuiet
  rw [x.ports p]

theorem queued (p : PortId) : g.queued p = h.queued p := (congrArg (fun k : Hub => k.queued p) x.hub).trans rfl

theorem spreadPasses (p : PortId) (z : SectorId) : g.spreadPasses p z = h.spreadPasses p z :=
  (congrArg (fun k : Hub => k.spreadPasses p z) x.hub).trans rfl

theorem eligible_iff (p : PortId) : g.eligible made p = true ↔
    (∃ z, h.assignOf p = .one z) ∧ h.movable p ∧ ∀ e ∈ made, e.port ≠ p := by
  have hsole : (h.assignOf p).sole.isSome = true ↔ ∃ z, h.assignOf p = .one z := by
    cases h.assignOf p <;> simp [Assign.sole]
  have hup : g.isUp p = h.isUp p := (congrArg (fun k : Hub => k.isUp p) x.hub).trans rfl
  have hidle : g.allIdle p = h.allIdle p := (congrArg (fun k : Hub => k.allIdle p) x.hub).trans rfl
  have hloop : g.inLoopTest p = h.inLoopTest p := (congrArg (fun k : Hub => k.inLoopTest p) x.hub).trans rfl
  have hhold : g.sbl.ports[p].holdOff = h.sbl.ports[p].holdOff :=
    (congrArg PortBalance.holdOff (x.ports p)).trans rfl
  unfold Hub.eligible Hub.movable
  rw [x.assignOf, x.eventTables, x.isQuiet, x.queued, hup, hidle, hloop, hhold]
  simp only [Bool.and_eq_true, hsole, Bool.not_eq_true', decide_eq_true_eq, List.any_eq_false]
  tauto

theorem fits_iff (p : PortId) (z : SectorId) : g.fits p z = true ↔ h.fitsAfter made p z := by
  unfold Hub.fits Hub.fitsAfter
  dsimp only
  rw [x.sector, x.tables, x.eventTables, x.smoothed, x.spreadPasses]
  simp only [Bool.and_eq_true, decide_eq_true_eq, and_assoc]

theorem sectors_hub (v : Vector SectorBalance 12) : ({ g with sbl := { g.sbl with sectors := v } } : Hub) =
    { h with sbl := { h.sbl with
      intervalDue := false, sectors := v, ports := g.sbl.ports, skips := g.sbl.skips } } := by
  have hg := x.hub
  rw [hg]

theorem count (e : MoveEntry) : h.Balanced (made ++ [e]) (g.countCandidate e) where
  hub := by
    have hsectors : (upd (upd g.sbl.sectors e.source fun b =>
          { b with workLoad := b.workLoad - g.smoothed e.port, workCount := b.workCount - 1 }) e.target fun b =>
          { b with workLoad := b.workLoad + g.smoothed e.port, workCount := b.workCount + 1 }) =
        tab fun z => { workLoad := h.workOf (made ++ [e]) z, workCount := h.countOf (made ++ [e]) z
                       lastLoad := h.intervalLoad z, overloaded := h.heavy z } := by
      refine Vector.ext fun i hi => ?_
      have hget := x.sector ⟨i, hi⟩
      replace hget : g.sbl.sectors[i] = _ := hget
      rw [tab_getElem, x.smoothed, upd_getElem, upd_getElem, hget]
      have hwork : h.workOf (made ++ [e]) ⟨i, hi⟩ = (if e.source = ⟨i, hi⟩ then
          h.workOf made ⟨i, hi⟩ - h.lvm.ports[e.port].smoothed else h.workOf made ⟨i, hi⟩)
          + if e.target = ⟨i, hi⟩ then h.lvm.ports[e.port].smoothed else 0 := List.foldl_append
      have hcount : h.countOf (made ++ [e]) ⟨i, hi⟩ = (if e.source = ⟨i, hi⟩ then
          h.countOf made ⟨i, hi⟩ - 1 else h.countOf made ⟨i, hi⟩)
          + if e.target = ⟨i, hi⟩ then 1 else 0 := List.foldl_append
      rw [hwork, hcount]
      simp only [Fin.ext_iff]
      split <;> split <;> rfl
    have hcounted : g.countCandidate e = { g with sbl := { g.sbl with
        sectors := tab fun z => { workLoad := h.workOf (made ++ [e]) z, workCount := h.countOf (made ++ [e]) z
                                  lastLoad := h.intervalLoad z, overloaded := h.heavy z } } } :=
      congrArg (fun v => { g with sbl := { g.sbl with sectors := v } }) hsectors
    rw [hcounted]
    exact x.sectors_hub _
  ports p := x.ports p

theorem skip (n : Nat) : h.Balanced made (g.skip n) where
  hub := by
    have hg := x.hub
    unfold Hub.skip
    rw [hg]
  ports p := x.ports p

theorem returns (p : PortId) (n : Nat) : h.Balanced made (g.onBal p fun b => { b with returns := n }) where
  hub := by
    have hg := x.hub
    unfold Hub.onBal
    rw [hg]
  ports q := by
    have hq := x.ports q
    by_cases hp : p = q
    · subst hp
      refine (upd_get_same ..).trans ?_
      rw [hq]
      exact congrArg (fun m => { h.sbl.ports[p] with returns := m })
        (congrArg PortBalance.returns (upd_get_same g.sbl.ports p fun b => { b with returns := n })).symm
    · refine (upd_get_other g.sbl.ports (fun b => { b with returns := n }) hp).trans (hq.trans ?_)
      exact congrArg (fun m => { h.sbl.ports[q] with returns := m })
        (congrArg PortBalance.returns (upd_get_other g.sbl.ports (fun b => { b with returns := n }) hp)).symm

end Hub.Balanced

end Sys2Proof.Machine
end

section
/-! The turns of the over-loaded sectors (O56): each one's first ranked port that has a fitting alternate (R117). -/

namespace Sys2Proof.Machine

theorem pairwise_finRange (n : Nat) : (List.finRange n).Pairwise (· < ·) := List.pairwise_lt_finRange n

/-! ## Folds with an invariant of the part taken -/

theorem foldl_prefix {α σ : Type} {f : σ → α → σ} {P : List α → σ → Prop} (xs : List α) (s : σ) (h0 : P [] s)
    (hstep : ∀ (pre : List α) (a : α) (post : List α) (t : σ), xs = pre ++ a :: post → P pre t → P (pre ++ [a]) (f t a)) :
    P xs (xs.foldl f s) := by
  have hgo (post : List α) : ∀ (pre : List α) (t : σ), xs = pre ++ post → P pre t → P xs (post.foldl f t) := by
    induction post with
    | nil =>
      intro pre t he ht
      rw [List.append_nil] at he
      exact he ▸ ht
    | cons a post ih =>
      intro pre t he ht
      exact ih (pre ++ [a]) (f t a) (by rw [he, List.append_assoc]; rfl) (hstep pre a post t he ht)
  exact hgo xs [] s rfl h0

section Order
variable (h : Hub)

theorem Hub.turnBefore_iff (y z : SectorId) :
    h.turnBefore y z ↔ stableBefore (fun s t => h.excess t ≤ h.excess s) y z := by
  have hlt : y < z ↔ y.val < z.val := Iff.rfl
  unfold Hub.turnBefore stableBefore
  rw [hlt]
  omega

theorem turnBefore_asymm {y z : SectorId} (x : h.turnBefore y z) : ¬ h.turnBefore z y := by
  have hyz : y < z ↔ y.val < z.val := Iff.rfl
  have hzy : z < y ↔ z.val < y.val := Iff.rfl
  unfold Hub.turnBefore at *
  rw [hyz] at x
  rw [hzy]
  omega

theorem turnBefore_irrefl (z : SectorId) : ¬ h.turnBefore z z := by
  rintro (hlt | ⟨-, hlt⟩)
  · exact Nat.lt_irrefl _ hlt
  · exact Nat.lt_irrefl _ hlt

theorem sooner_asymm {z : SectorId} {p q : PortId} (x : h.sooner z p q) : ¬ h.sooner z q p := by
  have hpq : p < q ↔ p.val < q.val := Iff.rfl
  have hqp : q < p ↔ q.val < p.val := Iff.rfl
  unfold Hub.sooner at *
  rw [hpq] at x
  rw [hqp]
  split at x <;> split <;> omega

theorem sooner_irrefl (z : SectorId) (p : PortId) : ¬ h.sooner z p p := by
  have hpp : p < p ↔ p.val < p.val := Iff.rfl
  unfold Hub.sooner
  rw [hpp]
  split <;> omega

variable {h} {g : Hub} {made : List MoveEntry} (x : h.Balanced made g)
include x

/-- The over-loaded sectors in the order of their turns (R115). -/
theorem overloadedSectors_spec : g.overloadedSectors.Pairwise h.turnBefore
    ∧ ∀ z, z ∈ g.overloadedSectors ↔ h.heavy z = true := by
  have hexcess (z : SectorId) : g.sbl.sectors[z].lastLoad - g.eventTables.highMark z = h.excess z := by
    rw [x.sector, x.eventTables]
    rfl
  have hheavy (z : SectorId) : (g.tables.sectorOn z && g.sbl.sectors[z].overloaded) = h.heavy z := by
    rw [x.sector, x.tables]
    unfold Hub.heavy
    dsimp only
    rw [← Bool.and_assoc, Bool.and_self]
  have hlist : g.overloadedSectors = ((List.finRange 12).filter h.heavy).insertionSort
      fun s t => h.excess t ≤ h.excess s := by
    unfold Hub.overloadedSectors
    simp only [hexcess, hheavy]
  rw [hlist]
  have hsorted := pairwise_insertionSort (fun s t : SectorId => h.excess t ≤ h.excess s) (fun a b => Nat.le_total _ _)
    (fun a b c hab hbc => hbc.trans hab) ((pairwise_finRange 12).filter h.heavy)
  refine ⟨hsorted.imp fun hab => (h.turnBefore_iff _ _).mpr hab, fun z => ?_⟩
  rw [List.mem_insertionSort, List.mem_filter]
  exact and_iff_right (List.mem_finRange z)

/-- The ranked ports of a sector in their order (R117). -/
theorem ranked_order (z : SectorId) : (g.ranked made z (h.excess z)).Pairwise (h.sooner z)
    ∧ ∀ p, p ∈ g.ranked made z (h.excess z) ↔
      h.rankedIn z p ∧ (∀ e ∈ made, e.port ≠ p) ∧ h.eventTables.alternates p ≠ [] := by
  have hmem (p : PortId) : (g.eligible made p && decide (g.assignOf p = .one z)
      && !(g.eventTables.alternates p).isEmpty) = true ↔
      h.rankedIn z p ∧ (∀ e ∈ made, e.port ≠ p) ∧ h.eventTables.alternates p ≠ [] := by
    rw [Bool.and_eq_true, Bool.and_eq_true, x.eligible_iff, x.assignOf, x.eventTables]
    unfold Hub.rankedIn
    simp only [decide_eq_true_eq, Bool.not_eq_true', List.isEmpty_eq_false_iff]
    constructor
    · rintro ⟨⟨⟨-, hm, hn⟩, ha⟩, he⟩
      exact ⟨⟨hm, ha⟩, hn, he⟩
    · rintro ⟨⟨hm, ha⟩, hn, he⟩
      exact ⟨⟨⟨⟨z, ha⟩, hm, hn⟩, ha⟩, he⟩
  unfold Hub.ranked
  simp only [x.smoothed]
  generalize hports : (List.finRange 24).filter (fun p => g.eligible made p && decide (g.assignOf p = .one z)
      && !(g.eventTables.alternates p).isEmpty) = ports
  have hsorted : ports.Pairwise (· < ·) := hports ▸ (pairwise_finRange 24).filter _
  have hin (p : PortId) : p ∈ ports ↔ h.rankedIn z p ∧ (∀ e ∈ made, e.port ≠ p) ∧ h.eventTables.alternates p ≠ [] := by
    rw [← hports, List.mem_filter, and_iff_right (List.mem_finRange p), hmem]
  constructor
  · refine List.pairwise_append.mpr ⟨?_, ?_, fun p hp q hq => ?_⟩
    · have hup := pairwise_insertionSort (fun p q : PortId => h.lvm.ports[p].smoothed ≤ h.lvm.ports[q].smoothed)
        (fun a b => Nat.le_total _ _) (fun a b c => Nat.le_trans) (hsorted.filter fun p => h.excess z ≤ h.lvm.ports[p].smoothed)
      refine hup.imp_of_mem fun {p q} hp hq hpq => ?_
      rw [List.mem_insertionSort, List.mem_filter, decide_eq_true_eq] at hp
      have hlt : p < q ↔ p.val < q.val := Iff.rfl
      unfold stableBefore at hpq
      unfold Hub.sooner
      rw [if_pos hp.2]
      rw [hlt] at hpq ⊢
      omega
    · have hdown := pairwise_insertionSort (fun p q : PortId => h.lvm.ports[q].smoothed ≤ h.lvm.ports[p].smoothed)
        (fun a b => Nat.le_total _ _) (fun a b c hab hbc => hbc.trans hab)
        (hsorted.filter fun p => h.lvm.ports[p].smoothed < h.excess z)
      refine hdown.imp_of_mem fun {p q} hp hq hpq => ?_
      rw [List.mem_insertionSort, List.mem_filter, decide_eq_true_eq] at hp hq
      have hlt : p < q ↔ p.val < q.val := Iff.rfl
      unfold stableBefore at hpq
      unfold Hub.sooner
      rw [if_neg (Nat.not_le.mpr hp.2)]
      rw [hlt] at hpq ⊢
      omega
    · rw [List.mem_insertionSort, List.mem_filter, decide_eq_true_eq] at hp hq
      unfold Hub.sooner
      rw [if_pos hp.2]
      exact .inl hq.2
  · intro p
    rw [List.mem_append, List.mem_insertionSort, List.mem_insertionSort, List.mem_filter, List.mem_filter,
      ← and_or_left, hin]
    refine and_iff_left ?_
    simp only [decide_eq_true_eq]
    exact Nat.lt_or_ge _ _ |>.symm

end Order

/-! ## The candidate of a sector -/

section Candidate
variable (h : Hub)

/-- No ranked port of sector `z` has a fitting alternate after the candidates `prior` (R117). -/
def Hub.noneFits (prior : List MoveEntry) (z : SectorId) : Prop :=
  ∀ q : PortId, h.rankedIn z q → ∀ y ∈ h.eventTables.alternates q, ¬ h.fitsAfter prior q y

/-- `e` takes the first ranked port of sector `z` that has a fitting alternate, into the first that fits (R117). -/
def Hub.chosen (prior : List MoveEntry) (z : SectorId) (e : MoveEntry) : Prop :=
  h.rankedIn z e.port ∧ h.fitsAfter prior e.port e.target
  ∧ (∃ front back : List SectorId, h.eventTables.alternates e.port = front ++ e.target :: back
    ∧ ∀ y ∈ front, ¬ h.fitsAfter prior e.port y)
  ∧ ∀ q : PortId, h.rankedIn z q → h.sooner z q e.port → ∀ y ∈ h.eventTables.alternates q, ¬ h.fitsAfter prior q y

variable {h} {g : Hub} {made : List MoveEntry} (x : h.Balanced made g) {z : SectorId}
  (hfree : ∀ q, h.rankedIn z q → ∀ e ∈ made, e.port ≠ q)
include x hfree

omit hfree in
theorem overloadCandidate_eq : g.overloadCandidate made z = (g.ranked made z (h.excess z)).findSome? fun p =>
    ((h.eventTables.alternates p).find? fun t => g.fits p t).map fun t => ⟨p, z, t, .auto⟩ := by
  have hexcess : g.sbl.sectors[z].lastLoad - g.eventTables.highMark z = h.excess z := by
    rw [x.sector, x.eventTables]
    rfl
  unfold Hub.overloadCandidate
  dsimp only
  rw [hexcess, x.eventTables]

theorem candidate_none (hn : g.overloadCandidate made z = none) : h.noneFits made z := by
  obtain ⟨-, hmem⟩ := ranked_order x z
  rw [overloadCandidate_eq x, List.findSome?_eq_none_iff] at hn
  intro q hq y hy hfits
  have hq' := hn q ((hmem q).mpr ⟨hq, hfree q hq, List.ne_nil_of_mem hy⟩)
  rw [Option.map_eq_none_iff, List.find?_eq_none] at hq'
  exact hq' y hy ((x.fits_iff q y).mpr hfits)

theorem candidate_some {e : MoveEntry} (he : g.overloadCandidate made z = some e) :
    h.chosen made z e ∧ e.cause = .auto ∧ e.source = z := by
  obtain ⟨hpair, hmem⟩ := ranked_order x z
  rw [overloadCandidate_eq x, List.findSome?_eq_some_iff] at he
  obtain ⟨before, p, after, hlist, hp, hnone⟩ := he
  obtain ⟨t, ht, rfl⟩ := Option.map_eq_some_iff.mp hp
  obtain ⟨hfits, front, back, halt, hfront⟩ := List.find?_eq_some_iff_append.mp ht
  have hranked := ((hmem p).mp (hlist ▸ List.mem_append_right before List.mem_cons_self)).1
  refine ⟨⟨hranked, (x.fits_iff p t).mp hfits, ⟨front, back, halt, fun y hy hf => ?_⟩, fun q hq hs y hy hf => ?_⟩, rfl, rfl⟩
  · have hy' := hfront y hy
    rw [(x.fits_iff p y).mpr hf] at hy'
    cases hy'
  · have hq' := (hmem q).mpr ⟨hq, hfree q hq, List.ne_nil_of_mem hy⟩
    rw [hlist] at hpair hq'
    obtain ⟨-, hafter, -⟩ := List.pairwise_append.mp hpair
    obtain ⟨hfirst, -⟩ := List.pairwise_cons.mp hafter
    rcases List.mem_append.mp hq' with hbefore | hlater
    · have hq'' := hnone q hbefore
      rw [Option.map_eq_none_iff, List.find?_eq_none] at hq''
      exact hq'' y hy ((x.fits_iff q y).mpr hf)
    · rcases List.mem_cons.mp hlater with rfl | hlater
      · exact sooner_irrefl h z q hs
      · exact sooner_asymm h hs (hfirst q hlater)

end Candidate

/-! ## All turns -/

section Turns
variable (h : Hub)

/-- The candidates of over-loaded sectors whose turn is before that of `z`. -/
def Hub.autosBefore (made : List MoveEntry) (z : SectorId) : List MoveEntry :=
  made.filter fun e => e.cause = .auto
    ∧ (h.excess z < h.excess e.source ∨ h.excess e.source = h.excess z ∧ e.source < z)

theorem autosBefore_all {made : List MoveEntry} {z : SectorId}
    (hm : ∀ e ∈ made, e.cause = .auto ∧ h.turnBefore e.source z) : h.autosBefore made z = made :=
  List.filter_eq_self.mpr fun e he => decide_eq_true (hm e he)

theorem autosBefore_append {made more : List MoveEntry} {z : SectorId}
    (hm : ∀ e ∈ more, ¬ (e.cause = .auto ∧ h.turnBefore e.source z)) :
    h.autosBefore (made ++ more) z = h.autosBefore made z := by
  unfold Hub.autosBefore
  rw [List.filter_append]
  exact (congrArg (_ ++ ·) (List.filter_eq_nil_iff.mpr fun e he => by
    rw [decide_eq_true_eq]
    exact hm e he)).trans (List.append_nil _)

/-- What the turns of the sectors `zs` leave: a hub and the candidates made. -/
structure Hub.Turned (zs : List SectorId) (x : Hub × List MoveEntry) : Prop where
  balanced : h.Balanced x.2 x.1
  ports : x.1.sbl.ports = h.sbl.ports
  fewer : x.2.length ≤ zs.length
  skips : h.sbl.skips < 2 ^ 32 →
    x.1.sbl.skips = min (2 ^ 32 - 1) (h.sbl.skips + (zs.length - x.2.length))
  autos : ∀ e ∈ x.2, e.cause = .auto ∧ e.source ∈ zs ∧ h.rankedIn e.source e.port
  order : x.2.Pairwise fun e f => h.turnBefore e.source f.source
  taken : ∀ z ∈ zs, (∀ e ∈ x.2, e.source = z → h.chosen (h.autosBefore x.2 z) z e)
    ∧ ((∀ e ∈ x.2, e.source ≠ z) → h.noneFits (h.autosBefore x.2 z) z)

theorem sat32_eq (a n : Nat) : sat32 a n = min (2 ^ 32 - 1) (a + n) := by
  unfold sat32
  exact Nat.min_comm _ _

theorem turned_step {zs : List SectorId} {z : SectorId} {x : Hub × List MoveEntry} (t : h.Turned zs x)
    (hz : ∀ y ∈ zs, h.turnBefore y z) : h.Turned (zs ++ [z]) (overloadTurn x z) := by
  obtain ⟨g, made⟩ := x
  obtain ⟨hbal, hports, hfewer, hskips, hautos, horder, htaken⟩ := t
  dsimp only at hbal hports hfewer hskips hautos horder htaken
  have hnew : z ∉ zs := fun hmem => turnBefore_irrefl h z (hz z hmem)
  have hsource (e : MoveEntry) (he : e ∈ made) : e.source ≠ z := fun hs => hnew (hs ▸ (hautos e he).2.1)
  have hfree (q : PortId) (hq : h.rankedIn z q) (e : MoveEntry) (he : e ∈ made) : e.port ≠ q := by
    intro hp
    have ha := (hautos e he).2.2.2
    rw [hp, hq.2] at ha
    exact hsource e he (Assign.one.inj ha).symm
  have hall : h.autosBefore made z = made :=
    autosBefore_all h fun e he => ⟨(hautos e he).1, hz _ (hautos e he).2.1⟩
  have hwhole : zs.length + 1 = (zs ++ [z]).length := by rw [List.length_append]; rfl
  unfold overloadTurn
  dsimp only
  cases hc : g.overloadCandidate made z with
  | none =>
    dsimp only
    refine ⟨hbal.skip 1, hports, by dsimp only; omega, fun hl => ?_, fun e he => ?_, horder, fun y hy => ?_⟩
    · have hs := hskips hl
      refine (sat32_eq _ _).trans ?_
      rw [hs]
      dsimp only
      omega
    · obtain ⟨ha, hmem, hr⟩ := hautos e he
      exact ⟨ha, List.mem_append_left _ hmem, hr⟩
    · rcases List.mem_append.mp hy with hy | hy
      · exact htaken y hy
      · obtain rfl := List.mem_singleton.mp hy
        refine ⟨fun e he hs => absurd hs (hsource e he), fun _ => ?_⟩
        dsimp only
        rw [hall]
        exact candidate_none hbal hfree hc
  | some e =>
    obtain ⟨hchosen, hcause, hes⟩ := candidate_some hbal hfree hc
    dsimp only
    have hkeep (y : SectorId) (hy : ¬ h.turnBefore z y) : h.autosBefore (made ++ [e]) y = h.autosBefore made y :=
      autosBefore_append h fun f hf hturn => hy (by
        obtain rfl := List.mem_singleton.mp hf
        exact hes ▸ hturn.2)
    refine ⟨hbal.count e, hports, ?_, fun hl => ?_, fun f hf => ?_, ?_, fun y hy => ?_⟩
    · dsimp only
      rw [List.length_append, List.length_singleton]
      omega
    · have hs := hskips hl
      have hlen : (made ++ [e]).length = made.length + 1 := by rw [List.length_append]; rfl
      refine hs.trans ?_
      dsimp only
      omega
    · rcases List.mem_append.mp hf with hf | hf
      · obtain ⟨ha, hmem, hr⟩ := hautos f hf
        exact ⟨ha, List.mem_append_left _ hmem, hr⟩
      · obtain rfl := List.mem_singleton.mp hf
        exact ⟨hcause, List.mem_append_right _ (List.mem_singleton.mpr hes), hes.symm ▸ hchosen.1⟩
    · refine List.pairwise_append.mpr ⟨horder, List.pairwise_singleton _ _, fun f hf k hk => ?_⟩
      obtain rfl := List.mem_singleton.mp hk
      rw [hes]
      exact hz _ (hautos f hf).2.1
    · rcases List.mem_append.mp hy with hy | hy
      · obtain ⟨hch, hno⟩ := htaken y hy
        dsimp only
        rw [hkeep y (turnBefore_asymm h (hz y hy))]
        refine ⟨fun f hf hs => ?_, fun hn => hno fun f hf => hn f (List.mem_append_left _ hf)⟩
        rcases List.mem_append.mp hf with hf | hf
        · exact hch f hf hs
        · obtain rfl := List.mem_singleton.mp hf
          exact absurd (hes.symm.trans hs ▸ hy) hnew
      · obtain rfl := List.mem_singleton.mp hy
        dsimp only
        rw [hkeep y (turnBefore_irrefl h y), hall]
        refine ⟨fun f hf hs => ?_, fun hn => absurd hes (hn e (List.mem_append_right _ (List.mem_singleton_self e)))⟩
        rcases List.mem_append.mp hf with hf | hf
        · exact absurd hs (hsource f hf)
        · obtain rfl := List.mem_singleton.mp hf
          exact hchosen

/-- The turns of all over-loaded sectors (R117). -/
theorem turned_all {zs : List SectorId} (hz : zs.Pairwise h.turnBefore) {g : Hub} (hg : h.Balanced [] g)
    (hports : g.sbl.ports = h.sbl.ports) (hskips : g.sbl.skips = h.sbl.skips) :
    h.Turned zs (zs.foldl overloadTurn (g, [])) := by
  refine foldl_prefix (P := h.Turned) zs (g, []) ?_ fun pre z post x he hx => turned_step h hx fun y hy => ?_
  · refine ⟨hg, hports, Nat.le_refl _, fun hl => ?_, nofun, .nil, nofun⟩
    refine hskips.trans ?_
    dsimp only
    rw [List.length_nil]
    omega
  · rw [he] at hz
    exact (List.pairwise_append.mp hz).2.2 y hy z List.mem_cons_self

end Turns

end Sys2Proof.Machine
end

section
/-! The turns of the ports away from home (R118) and what becomes of the candidates (R119). -/

namespace Sys2Proof.Machine

section Returns
variable (h : Hub)

/-- A port is assigned to one sector, and that is not its home (R118). -/
def Hub.away (p : PortId) : Prop := ∃ z : SectorId, h.assignOf p = .one z ∧ z ≠ h.tables.home p

/-- The candidates that count when port `p` has its turn in the return step. -/
def candidatesBefore (made : List MoveEntry) (p : PortId) : List MoveEntry :=
  made.filter fun e => e.cause = .auto ∨ e.port < p

/-- The return counter of a port away from home after its turn (R118). -/
def Hub.returnsNext (prior : List MoveEntry) (p : PortId) : Nat :=
  if h.workOf prior (h.tables.home p) + h.lvm.ports[p].smoothed ≤ h.eventTables.returnMark (h.tables.home p) then
    min (h.sbl.ports[p].returns + 1) 15 else 0

/-- What the turn of port `p` does with its return counter, now `n`, and with its candidate (R118). -/
def Hub.returnLaw (made : List MoveEntry) (p : PortId) (n : Nat) : Prop :=
  (¬ h.away p → n = h.sbl.ports[p].returns)
  ∧ (h.away p → n = h.returnsNext (candidatesBefore made p) p)
  ∧ ∀ z : SectorId, (⟨p, z, h.tables.home p, .returning⟩ : MoveEntry) ∈ made ↔
    h.assignOf p = .one z ∧ z ≠ h.tables.home p ∧ h.movable p ∧ (∀ e ∈ made, e.cause = .auto → e.port ≠ p)
    ∧ h.eventTables.returnCount (h.tables.home p) ≤ n
    ∧ h.countOf (candidatesBefore made p) (h.tables.home p) < h.eventTables.maxMembers (h.tables.home p)
    ∧ h.spreadPasses p (h.tables.home p) = true

/-- Every test of a return passes (R118). -/
def Hub.returnPasses (made : List MoveEntry) (p : PortId) : Prop :=
  h.eventTables.returnCount (h.tables.home p) ≤ h.returnsNext made p ∧ h.movable p ∧ (∀ e ∈ made, e.port ≠ p)
  ∧ h.countOf made (h.tables.home p) < h.eventTables.maxMembers (h.tables.home p)
  ∧ h.spreadPasses p (h.tables.home p) = true

/-- What the turns of the ports `ps` leave, after the candidates `autos` of the over-loaded sectors. -/
structure Hub.Returned (autos : List MoveEntry) (skips : Nat) (ps : List PortId) (x : Hub × List MoveEntry) : Prop where
  balanced : h.Balanced x.2 x.1
  skips : x.1.sbl.skips = skips
  made : ∃ back : List MoveEntry, x.2 = autos ++ back
    ∧ (∀ e ∈ back, e.cause = .returning ∧ e.port ∈ ps ∧ e.target = h.tables.home e.port ∧ h.movable e.port)
    ∧ (∀ e ∈ autos, ∀ f ∈ back, e.port ≠ f.port) ∧ back.Pairwise fun e f => e.port < f.port
  waiting : ∀ p ∉ ps, x.1.sbl.ports[p].returns = h.sbl.ports[p].returns
  served : ∀ p ∈ ps, h.returnLaw x.2 p x.1.sbl.ports[p].returns

/-- A candidate of a later port's return changes nothing in the law of an earlier one. -/
theorem returnLaw_append {made : List MoveEntry} {p : PortId} {n : Nat} {e : MoveEntry} (hc : e.cause = .returning)
    (hp : p < e.port) (x : h.returnLaw made p n) : h.returnLaw (made ++ [e]) p n := by
  have hbefore : candidatesBefore (made ++ [e]) p = candidatesBefore made p := by
    unfold candidatesBefore
    rw [List.filter_append]
    refine (congrArg (_ ++ ·) (List.filter_eq_nil_iff.mpr fun f hf => ?_)).trans (List.append_nil _)
    obtain rfl := List.mem_singleton.mp hf
    rw [decide_eq_true_eq, hc]
    rintro (hauto | hlt)
    · cases hauto
    · exact lt_asymm hp hlt
  have hmem (z : SectorId) : (⟨p, z, h.tables.home p, .returning⟩ : MoveEntry) ∈ made ++ [e] ↔
      (⟨p, z, h.tables.home p, .returning⟩ : MoveEntry) ∈ made := by
    rw [List.mem_append, List.mem_singleton]
    refine or_iff_left fun he => ?_
    rw [← he] at hp
    exact lt_irrefl _ hp
  have hautos : (∀ f ∈ made ++ [e], f.cause = .auto → f.port ≠ p) ↔ ∀ f ∈ made, f.cause = .auto → f.port ≠ p := by
    refine List.forall_mem_append.trans (and_iff_left fun f hf ha => ?_)
    rw [List.mem_singleton.mp hf, hc] at ha
    cases ha
  unfold Hub.returnLaw at *
  simp only [hbefore, hmem, hautos]
  exact x

section Turn
variable {h} {g : Hub} {made : List MoveEntry} (x : h.Balanced made g) {p : PortId}
include x

theorem returnTurn_home (hn : ¬ h.away p) : returnTurn (g, made) p = (g, made) := by
  unfold returnTurn
  dsimp only
  rw [x.assignOf]
  cases ha : h.assignOf p with
  | none => rfl
  | two s t => rfl
  | one s =>
    have hs : s = g.tables.home p := by
      rw [x.tables]
      by_contra hs
      exact hn ⟨s, ha, hs⟩
    exact if_pos hs

theorem returnTurn_away {z : SectorId} (ha : h.assignOf p = .one z) (hz : z ≠ h.tables.home p)
    (hw : g.sbl.ports[p].returns = h.sbl.ports[p].returns) :
    (h.returnPasses made p → returnTurn (g, made) p =
      ((g.onBal p fun b => { b with returns := h.returnsNext made p }).countCandidate
        ⟨p, z, h.tables.home p, .returning⟩, made ++ [⟨p, z, h.tables.home p, .returning⟩]))
    ∧ (¬ h.returnPasses made p →
      returnTurn (g, made) p = (g.onBal p fun b => { b with returns := h.returnsNext made p }, made)) := by
  have hcount : (if g.sbl.sectors[g.tables.home p].workLoad + g.smoothed p
      ≤ g.eventTables.returnMark (g.tables.home p) then bump 15 g.sbl.ports[p].returns else 0) = h.returnsNext made p := by
    simp only [x.sector, x.tables, x.smoothed, x.eventTables, hw]
    rfl
  have hmovable : (∃ z, h.assignOf p = .one z) ∧ h.movable p ∧ (∀ e ∈ made, e.port ≠ p) ↔
      h.movable p ∧ ∀ e ∈ made, e.port ≠ p := and_iff_right ⟨z, ha⟩
  have hz' : z ≠ g.tables.home p := x.tables ▸ hz
  unfold returnTurn
  dsimp only
  simp only [hcount]
  rw [x.assignOf, ha]
  dsimp only [Assign.sole]
  rw [if_neg hz', x.sector]
  have y := x.returns p (h.returnsNext made p)
  have hiff : (g.onBal p fun b => { b with returns := h.returnsNext made p }).eventTables.returnCount (g.tables.home p)
        ≤ h.returnsNext made p
      ∧ (g.onBal p fun b => { b with returns := h.returnsNext made p }).eligible made p = true
      ∧ h.countOf made (g.tables.home p)
        < (g.onBal p fun b => { b with returns := h.returnsNext made p }).eventTables.maxMembers (g.tables.home p)
      ∧ (g.onBal p fun b => { b with returns := h.returnsNext made p }).spreadPasses p (g.tables.home p) = true ↔
      h.returnPasses made p := by
    unfold Hub.returnPasses
    rw [y.eventTables, y.eligible_iff, y.spreadPasses, hmovable, x.tables, and_assoc]
  constructor
  · intro hc
    rw [if_pos (hiff.mpr hc), x.tables]
  · intro hc
    exact if_neg fun hp => hc (hiff.mp hp)

end Turn

variable {h}

theorem returned_step {autos : List MoveEntry} {skips : Nat} {ps : List PortId} {p : PortId} {x : Hub × List MoveEntry}
    (t : h.Returned autos skips ps x) (hautos : ∀ e ∈ autos, e.cause = .auto) (hp : ∀ q ∈ ps, q < p) :
    h.Returned autos skips (ps ++ [p]) (returnTurn x p) := by
  obtain ⟨g, made⟩ := x
  obtain ⟨hbal, hskips, ⟨back, hmade, hback, hapart, hpair⟩, hwait, hserved⟩ := t
  dsimp only at hbal hskips hmade hwait hserved
  have hnew : p ∉ ps := fun hmem => lt_irrefl _ (hp p hmem)
  have hports {f : MoveEntry} (hf : f ∈ made) : f.cause = .auto ∨ f.port < p := by
    rw [hmade] at hf
    exact (List.mem_append.mp hf).imp (hautos f) fun hf => hp _ (hback f hf).2.1
  have hbefore : candidatesBefore made p = made := List.filter_eq_self.mpr fun f hf => decide_eq_true (hports hf)
  have hmem (z : SectorId) : (⟨p, z, h.tables.home p, .returning⟩ : MoveEntry) ∉ made := fun hf => by
    rcases hports hf with hc | hlt
    · cases hc
    · exact lt_irrefl _ hlt
  have hwiden (q : PortId) (hq : q ∈ ps) : q ∈ ps ++ [p] := List.mem_append_left _ hq
  have hrest {q : PortId} (hq : q ∉ ps ++ [p]) : q ∉ ps ∧ p ≠ q :=
    ⟨fun hm => hq (hwiden q hm), fun he => hq (List.mem_append_right _ (he ▸ List.mem_singleton_self p))⟩
  by_cases haway : h.away p
  · obtain ⟨z, ha, hz⟩ := haway
    have haway : h.away p := ⟨z, ha, hz⟩
    have hone (y : SectorId) : h.assignOf p = .one y ↔ y = z := by
      rw [ha]
      exact ⟨fun he => (Assign.one.inj he).symm, fun he => he ▸ rfl⟩
    obtain ⟨hpass, hfail⟩ := returnTurn_away hbal ha hz (hwait p hnew)
    have hsame : (g.onBal p fun b => { b with returns := h.returnsNext made p }).sbl.ports[p].returns =
        h.returnsNext made p := congrArg PortBalance.returns (upd_get_same ..)
    have hother {q : PortId} (hq : p ≠ q) : (g.onBal p fun b => { b with returns := h.returnsNext made p }).sbl.ports[q].returns =
        g.sbl.ports[q].returns := congrArg PortBalance.returns (upd_get_other g.sbl.ports _ hq)
    have hfree : (∀ e ∈ made, e.port ≠ p) ↔ ∀ e ∈ made, e.cause = .auto → e.port ≠ p := by
      refine forall_congr' fun e => forall_congr' fun he => ⟨fun hn _ => hn, fun hn => ?_⟩
      rcases hports he with hc | hlt
      · exact hn hc
      · exact ne_of_lt hlt
    by_cases hcand : h.returnPasses made p
    · rw [hpass hcand]
      obtain ⟨hlimit, hmov, hnone, hroom, hspread⟩ := hcand
      refine ⟨(hbal.returns p _).count _, hskips, ⟨back ++ [⟨p, z, h.tables.home p, .returning⟩], ?_, ?_, ?_, ?_⟩,
        fun q hq => ?_, fun q hq => ?_⟩
      · dsimp only
        rw [hmade, List.append_assoc]
      · refine List.forall_mem_append.mpr ⟨fun f hf => ?_, fun f hf => ?_⟩
        · obtain ⟨hc, hin, ht, hm⟩ := hback f hf
          exact ⟨hc, hwiden _ hin, ht, hm⟩
        · obtain rfl := List.mem_singleton.mp hf
          exact ⟨rfl, List.mem_append_right _ (List.mem_singleton_self p), rfl, hmov⟩
      · refine fun e he => List.forall_mem_append.mpr ⟨hapart e he, fun f hf => ?_⟩
        obtain rfl := List.mem_singleton.mp hf
        exact hnone e (hmade ▸ List.mem_append_left _ he)
      · refine List.pairwise_append.mpr ⟨hpair, List.pairwise_singleton _ _, fun e he f hf => ?_⟩
        obtain rfl := List.mem_singleton.mp hf
        exact hp _ (hback e he).2.1
      · obtain ⟨hq, hpq⟩ := hrest hq
        exact (hother hpq).trans (hwait q hq)
      · rcases List.mem_append.mp hq with hq | hq
        · have hlaw := returnLaw_append h (e := ⟨p, z, h.tables.home p, .returning⟩) rfl (hp q hq) (hserved q hq)
          rw [← hother (ne_of_gt (hp q hq))] at hlaw
          exact hlaw
        · obtain rfl := List.mem_singleton.mp hq
          have hlast : candidatesBefore (made ++ [⟨q, z, h.tables.home q, .returning⟩]) q = made := by
            unfold candidatesBefore
            rw [List.filter_append]
            exact (congrArg₂ (· ++ ·) hbefore (List.filter_eq_nil_iff.mpr fun f hf => by
              obtain rfl := List.mem_singleton.mp hf
              rw [decide_eq_true_eq]
              rintro (hc | hlt)
              · cases hc
              · exact lt_irrefl _ hlt)).trans (List.append_nil _)
          have hn : ((g.onBal q fun b => { b with returns := h.returnsNext made q }).countCandidate
              ⟨q, z, h.tables.home q, .returning⟩).sbl.ports[q].returns = h.returnsNext made q := hsame
          unfold Hub.returnLaw
          dsimp only
          rw [hn, hlast]
          refine ⟨fun hn => absurd haway hn, fun _ => rfl, fun y => ?_⟩
          rw [List.mem_append, List.mem_singleton, hone]
          constructor
          · rintro (hin | he)
            · exact absurd hin (hmem y)
            · obtain rfl : y = z := congrArg MoveEntry.source he
              refine ⟨rfl, hz, hmov, List.forall_mem_append.mpr ⟨hfree.mp hnone, fun f hf hc => ?_⟩, hlimit, hroom, hspread⟩
              rw [List.mem_singleton.mp hf] at hc
              cases hc
          · rintro ⟨rfl, -⟩
            exact .inr rfl
    · rw [hfail hcand]
      refine ⟨hbal.returns p _, hskips, ⟨back, hmade, fun f hf => ?_, hapart, hpair⟩, fun q hq => ?_, fun q hq => ?_⟩
      · obtain ⟨hc, hin, ht, hm⟩ := hback f hf
        exact ⟨hc, hwiden _ hin, ht, hm⟩
      · obtain ⟨hq, hpq⟩ := hrest hq
        exact (hother hpq).trans (hwait q hq)
      · dsimp only
        rcases List.mem_append.mp hq with hq | hq
        · rw [hother (ne_of_gt (hp q hq))]
          exact hserved q hq
        · obtain rfl := List.mem_singleton.mp hq
          unfold Hub.returnLaw
          rw [hsame, hbefore]
          refine ⟨fun hn => absurd haway hn, fun _ => rfl, fun y => ⟨fun hin => absurd hin (hmem y), ?_⟩⟩
          rintro ⟨-, -, hmov, hauto, hlimit, hroom, hspread⟩
          exact absurd ⟨hlimit, hmov, hfree.mpr hauto, hroom, hspread⟩ hcand
  · rw [returnTurn_home hbal haway]
    refine ⟨hbal, hskips, ⟨back, hmade, fun f hf => ?_, hapart, hpair⟩, fun q hq => hwait q (hrest hq).1, fun q hq => ?_⟩
    · obtain ⟨hc, hin, ht, hm⟩ := hback f hf
      exact ⟨hc, hwiden _ hin, ht, hm⟩
    · rcases List.mem_append.mp hq with hq | hq
      · exact hserved q hq
      · obtain rfl := List.mem_singleton.mp hq
        refine ⟨fun _ => hwait q hnew, fun ha => absurd ha haway, fun z => ⟨fun hin => absurd hin (hmem z), ?_⟩⟩
        rintro ⟨ha, hz, -⟩
        exact absurd ⟨z, ha, hz⟩ haway

/-- The turns of all ports (R118). -/
theorem returned_all {autos : List MoveEntry} {g : Hub} (hautos : ∀ e ∈ autos, e.cause = .auto)
    (hg : h.Balanced autos g) (hports : g.sbl.ports = h.sbl.ports) :
    h.Returned autos g.sbl.skips (List.finRange 24) ((List.finRange 24).foldl returnTurn (g, autos)) := by
  refine foldl_prefix (P := h.Returned autos g.sbl.skips) _ (g, autos) ?_ fun pre p post x he hx =>
    returned_step hx hautos fun q hq => ?_
  · exact ⟨hg, rfl, ⟨[], (List.append_nil _).symm, nofun, nofun, .nil⟩, fun p _ => by rw [hports], nofun⟩
  · have hsorted := pairwise_finRange 24
    rw [he] at hsorted
    exact (List.pairwise_append.mp hsorted).2.2 q hq p List.mem_cons_self

end Returns

/-! ## What becomes of the candidates -/

/-- In AUTO the candidates of awake ports join the queue while it has room, and each other one is a skip (R119). -/
theorem disposeAll_eq {made : List MoveEntry} : ∀ {g : Hub}, (∀ e ∈ made, g.isQuiet e.port = false) →
    ∃ n, made.foldl Hub.disposeAuto g = { g with sbl := { g.sbl with
        queue := g.sbl.queue ++ made.take (8 - g.sbl.queue.length), skips := n } }
      ∧ (g.sbl.skips < 2 ^ 32 →
        n = min (2 ^ 32 - 1) (g.sbl.skips + (made.length - (made.take (8 - g.sbl.queue.length)).length))) := by
  induction made with
  | nil =>
    intro g _
    refine ⟨g.sbl.skips, ?_, fun hl => ?_⟩
    · rw [List.take_nil, List.append_nil]
      rfl
    · rw [List.take_nil]
      simp only [List.length_nil]
      omega
  | cons e made ih =>
    intro g hq
    rw [List.foldl_cons]
    by_cases hfull : 8 ≤ g.sbl.queue.length
    · have hstep : g.disposeAuto e = g.skip 1 := if_pos hfull
      obtain ⟨n, hn, hs⟩ := ih (g := g.skip 1) fun f hf => hq f (List.mem_cons_of_mem e hf)
      refine ⟨n, by rw [hstep, hn, Nat.sub_eq_zero_of_le (show 8 ≤ (g.skip 1).sbl.queue.length from hfull), Nat.sub_eq_zero_of_le hfull]; rfl, fun hl => ?_⟩
      have hskip : (g.skip 1).sbl.skips = min (2 ^ 32 - 1) (g.sbl.skips + 1) := sat32_eq _ _
      have hqueue : (g.skip 1).sbl.queue = g.sbl.queue := rfl
      rw [hqueue, hskip] at hs
      have hs := hs (by omega)
      rw [Nat.sub_eq_zero_of_le hfull, List.take_zero, List.length_nil, List.length_cons] at *
      omega
    · have hstep : g.disposeAuto e = { g with sbl := { g.sbl with queue := g.sbl.queue ++ [e] } } := by
        have hawake : ({ g with sbl := { g.sbl with queue := g.sbl.queue ++ [e] } } : Hub).isQuiet e.port = false :=
          hq e List.mem_cons_self
        unfold Hub.disposeAuto Hub.enqueue
        rw [if_neg hfull, wakePort_eq, hawake]
        rfl
      obtain ⟨n, hn, hs⟩ := ih (g := { g with sbl := { g.sbl with queue := g.sbl.queue ++ [e] } })
        fun f hf => hq f (List.mem_cons_of_mem e hf)
      have hroom : 8 - g.sbl.queue.length = 8 - (g.sbl.queue ++ [e]).length + 1 := by
        rw [List.length_append, List.length_singleton]
        omega
      refine ⟨n, ?_, fun hl => (hs hl).trans ?_⟩
      · rw [hstep, hn, hroom, List.take_succ_cons]
        dsimp only
        rw [List.append_assoc]
        rfl
      · rw [hroom, List.take_succ_cons]
        simp only [List.length_cons]
        omega

/-- In ADVISE the first eight candidates are listed, and each other one is a skip (R119). -/
theorem disposeAdvice_eq (g : Hub) (made : List MoveEntry) : g.disposeAdvice made = { g with
    mga := if made.take 8 ≠ g.sbl.advice then g.mga.raised .advice else g.mga
    sbl := { g.sbl with
      advice := made.take 8, adviceStamp := g.mga.seconds, skips := sat32 g.sbl.skips (made.length - 8) } } := by
  unfold Hub.disposeAdvice
  dsimp only
  split <;> rfl

end Sys2Proof.Machine
end

section
/-! A whole balance interval (O56). -/

namespace Sys2Proof.Machine

section Interval
variable (h : Hub)

/-- Two candidates of one interval: different ports, over-loaded sectors in their turns before returns in port order. -/
def Hub.listedBefore (e f : MoveEntry) : Prop := e.port ≠ f.port
  ∧ (e.cause = .auto ∧ f.cause = .auto ∧ h.turnBefore e.source f.source
    ∨ e.cause = .auto ∧ f.cause = .returning
    ∨ e.cause = .returning ∧ f.cause = .returning ∧ e.port < f.port)

/-- The candidates `made` of an interval whose mode is not OFF, and the hub `g` that they leave (R117, R118). -/
structure Hub.Proposed (made : List MoveEntry) (g : Hub) : Prop where
  balanced : h.Balanced made g
  awake : ∀ e ∈ made, h.isQuiet e.port = false
  skips : h.sbl.skips < 2 ^ 32 → g.sbl.skips = min (2 ^ 32 - 1)
    (h.sbl.skips + ((List.finRange 12).countP h.heavy - made.countP fun e => e.cause = .auto))
  order : made.Pairwise h.listedBefore
  causes : ∀ e ∈ made, e.cause = .auto ∧ h.heavy e.source = true ∨ e.cause = .returning
  turns : ∀ z : SectorId, h.heavy z = true →
    (∀ e ∈ made, e.cause = .auto → e.source = z → h.chosen (h.autosBefore made z) z e)
    ∧ ((∀ e ∈ made, ¬ (e.cause = .auto ∧ e.source = z)) → h.noneFits (h.autosBefore made z) z)
  returns : ∀ p : PortId, h.returnLaw made p g.sbl.ports[p].returns
  homes : ∀ e ∈ made, e.cause = .returning → e.target = h.tables.home e.port

/-- What a balance interval leaves with its candidates `made` queued or listed (R114, R119). -/
structure Hub.Disposed (made : List MoveEntry) (g : Hub) : Prop where
  hub : g = { h with
    mga := if h.eventTables.mode = .advise ∧ g.sbl.advice ≠ h.sbl.advice then h.mga.raised .advice else h.mga
    sbl := { h.sbl with
      intervalDue := false
      sectors := tab fun z => { workLoad := h.workOf made z, workCount := h.countOf made z
                                lastLoad := h.intervalLoad z, overloaded := h.heavy z }
      ports := g.sbl.ports, queue := g.sbl.queue, advice := g.sbl.advice, adviceStamp := g.sbl.adviceStamp
      skips := g.sbl.skips } }
  ports : ∀ p : PortId, g.sbl.ports[p] = { h.sbl.ports[p] with returns := g.sbl.ports[p].returns }
  off : h.eventTables.mode = .off → made = [] ∧ g.sbl.skips = h.sbl.skips
    ∧ ∀ p : PortId, g.sbl.ports[p].returns = h.sbl.ports[p].returns
  queue : g.sbl.queue = if h.eventTables.mode = .auto then h.sbl.queue ++ made.take (8 - h.sbl.queue.length) else h.sbl.queue
  advice : g.sbl.advice = if h.eventTables.mode = .advise then made.take 8 else h.sbl.advice
  stamp : g.sbl.adviceStamp = if h.eventTables.mode = .advise then h.mga.seconds else h.sbl.adviceStamp
  on : h.eventTables.mode ≠ .off → ∃ k, h.Proposed made k ∧ g.sbl.ports = k.sbl.ports
    ∧ (h.sbl.skips < 2 ^ 32 → g.sbl.skips = min (2 ^ 32 - 1)
      (h.sbl.skips + ((List.finRange 12).countP h.heavy - made.countP fun e => e.cause = .auto)
        + (made.length - if h.eventTables.mode = .auto then (made.take (8 - h.sbl.queue.length)).length else 8)))

variable {h} {g : Hub} (hg : h.Balanced [] g) (hports : g.sbl.ports = h.sbl.ports) (hskips : g.sbl.skips = h.sbl.skips)
include hg hports hskips

/-- The two steps of the balancing procedure make their candidates (R117, R118). -/
theorem proposed_all : ∃ made k,
    (List.finRange 24).foldl returnTurn (g.overloadedSectors.foldl overloadTurn (g, [])) = (k, made) ∧ h.Proposed made k := by
  obtain ⟨hsorted, hheavy⟩ := overloadedSectors_spec hg
  have hlength : g.overloadedSectors.length = (List.finRange 12).countP h.heavy := by
    rw [List.countP_eq_length_filter]
    refine List.Perm.length_eq ((List.perm_ext_iff_of_nodup ?_ ?_).mpr fun z => ?_)
    · refine hsorted.imp fun {y z} hyz he => ?_
      rw [he] at hyz
      exact turnBefore_irrefl h z hyz
    · exact (List.nodup_finRange 12).filter _
    · rw [hheavy, List.mem_filter]
      exact (and_iff_right (List.mem_finRange z)).symm
  rcases hx : g.overloadedSectors.foldl overloadTurn (g, []) with ⟨k, autos⟩
  have hturned := turned_all h hsorted hg hports hskips
  rw [hx] at hturned
  obtain ⟨hbal, hsame, -, hskip, hautos, horder, htaken⟩ := hturned
  dsimp only at hbal hsame hskip hautos horder htaken
  have hcause (e : MoveEntry) (he : e ∈ autos) : e.cause = .auto := (hautos e he).1
  have hreturned := returned_all hcause hbal hsame
  rcases hy : (List.finRange 24).foldl returnTurn (k, autos) with ⟨l, made⟩
  rw [hy] at hreturned
  obtain ⟨hbal', hskip', ⟨back, hmade, hback, hapart, hpair⟩, -, hserved⟩ := hreturned
  dsimp only at hbal' hskip' hmade hserved
  have hbackNot (z : SectorId) (e : MoveEntry) (he : e ∈ back) : ¬ (e.cause = .auto ∧ h.turnBefore e.source z) := fun hc => by
    rw [(hback e he).1] at hc
    cases hc.1
  have hbefore (z : SectorId) : h.autosBefore made z = h.autosBefore autos z := hmade ▸ autosBefore_append h (hbackNot z)
  have hin {e : MoveEntry} (he : e ∈ made) : e ∈ autos ∨ e ∈ back := List.mem_append.mp (hmade ▸ he)
  have hauto {e : MoveEntry} (he : e ∈ made) (hc : e.cause = .auto) : e ∈ autos := by
    refine (hin he).resolve_right fun hb => ?_
    rw [(hback e hb).1] at hc
    cases hc
  have hleft {e : MoveEntry} (he : e ∈ autos) : e ∈ made := hmade ▸ List.mem_append_left back he
  have hcount : (made.countP fun e => e.cause = .auto) = autos.length := by
    rw [hmade, List.countP_append, List.countP_eq_length.mpr fun e he => decide_eq_true (hcause e he),
      List.countP_eq_zero.mpr fun e he hc => ?_]
    · rfl
    · have hc := of_decide_eq_true hc
      rw [(hback e he).1] at hc
      cases hc
  refine ⟨made, l, rfl, hbal', fun e he => ?_, fun hl => ?_, ?_, fun e he => ?_, fun z hz => ?_, fun p => hserved p (List.mem_finRange p),
    fun e he hc => ?_⟩
  · rcases hin he with ha | hb
    · obtain ⟨-, -, ⟨-, -, hq, -⟩, -⟩ := hautos e ha
      exact hq
    · obtain ⟨-, -, -, -, -, hq, -⟩ := hback e hb
      exact hq
  · rw [hskip', hskip hl, hlength, hcount]
  · rw [hmade]
    refine List.pairwise_append.mpr ⟨horder.imp_of_mem fun {e f} he hf hef => ?_, hpair.imp_of_mem fun {e f} he hf hef => ?_,
      fun e he f hf => ?_⟩
    · refine ⟨fun hp => ?_, .inl ⟨hcause e he, hcause f hf, hef⟩⟩
      have hsource := (hautos e he).2.2.2
      rw [hp, (hautos f hf).2.2.2] at hsource
      rw [Assign.one.inj hsource] at hef
      exact turnBefore_irrefl h _ hef
    · exact ⟨ne_of_lt hef, .inr (.inr ⟨(hback e he).1, (hback f hf).1, hef⟩)⟩
    · exact ⟨hapart e he f hf, .inr (.inl ⟨hcause e he, (hback f hf).1⟩)⟩
  · rcases hin he with ha | hb
    · exact .inl ⟨hcause e ha, (hheavy _).mp (hautos e ha).2.1⟩
    · exact .inr (hback e hb).1
  · obtain ⟨hch, hno⟩ := htaken z ((hheavy z).mpr hz)
    rw [hbefore]
    exact ⟨fun e he hc hs => hch e (hauto he hc) hs, fun hn => hno fun e he hs => hn e (hleft he) ⟨hcause e he, hs⟩⟩
  · refine (hin he).elim (fun ha => ?_) fun hb => (hback e hb).2.2.1
    rw [hcause e ha] at hc
    cases hc

omit hg hports hskips in
theorem Hub.Balanced.queue {made : List MoveEntry} (x : h.Balanced made g) : g.sbl.queue = h.sbl.queue :=
  (congrArg (fun k : Hub => k.sbl.queue) x.hub).trans rfl

omit hports hskips in
theorem disposed_off (hm : h.eventTables.mode = .off) (hp : g.sbl.ports = h.sbl.ports) (hs : g.sbl.skips = h.sbl.skips) :
    h.Disposed [] g := by
  have hadvise : ¬ (h.eventTables.mode = .advise) := by rw [hm]; exact nofun
  have hauto : ¬ (h.eventTables.mode = .auto) := by rw [hm]; exact nofun
  have hadvice : g.sbl.advice = h.sbl.advice := (congrArg (fun k : Hub => k.sbl.advice) hg.hub).trans rfl
  have hstamp : g.sbl.adviceStamp = h.sbl.adviceStamp := (congrArg (fun k : Hub => k.sbl.adviceStamp) hg.hub).trans rfl
  refine ⟨?_, hg.ports, fun _ => ⟨rfl, hs, fun p => by rw [hp]⟩, ?_, ?_, ?_, fun hn => absurd hm hn⟩
  · rw [if_neg fun hc => hadvise hc.1, hg.queue, hadvice, hstamp]
    exact hg.hub
  · rw [if_neg hauto, hg.queue]
  · rw [if_neg hadvise, hadvice]
  · rw [if_neg hadvise, hstamp]

omit hg hports hskips in
theorem disposed_advise {made : List MoveEntry} (x : h.Proposed made g) (hm : h.eventTables.mode = .advise) :
    h.Disposed made (g.disposeAdvice made) := by
  have hg := x.balanced
  have hauto : ¬ (h.eventTables.mode = .auto) := by rw [hm]; exact nofun
  have hadvice : g.sbl.advice = h.sbl.advice := (congrArg (fun k : Hub => k.sbl.advice) hg.hub).trans rfl
  have hmga : g.mga = h.mga := (congrArg Hub.mga hg.hub).trans rfl
  rw [disposeAdvice_eq]
  refine ⟨?_, hg.ports, fun hn => ?_, ?_, ?_, ?_, fun _ => ⟨g, x, rfl, fun hl => ?_⟩⟩
  · rw [hmga, hadvice]
    dsimp only
    have hhub := hg.hub
    rw [if_congr (and_iff_right hm) rfl rfl]
    rw [hhub]
  · rw [hm] at hn
    cases hn
  · rw [if_neg hauto]
    exact hg.queue
  · rw [if_pos hm]
  · rw [if_pos hm, ← hmga]
  · rw [if_neg hauto, ]
    refine (sat32_eq _ _).trans ?_
    rw [x.skips hl]
    omega

omit hg hports hskips in
theorem disposed_auto {made : List MoveEntry} (x : h.Proposed made g) (hm : h.eventTables.mode = .auto) :
    h.Disposed made (made.foldl Hub.disposeAuto g) := by
  have hg := x.balanced
  have hadvise : ¬ (h.eventTables.mode = .advise) := by rw [hm]; exact nofun
  have hadvice : g.sbl.advice = h.sbl.advice := (congrArg (fun k : Hub => k.sbl.advice) hg.hub).trans rfl
  have hstamp : g.sbl.adviceStamp = h.sbl.adviceStamp := (congrArg (fun k : Hub => k.sbl.adviceStamp) hg.hub).trans rfl
  obtain ⟨n, hn, hskips⟩ := disposeAll_eq (g := g) fun e he => (hg.isQuiet e.port).trans (x.awake e he)
  rw [hn]
  rw [hg.queue] at hskips ⊢
  refine ⟨?_, hg.ports, fun hn => ?_, ?_, ?_, ?_, fun _ => ⟨g, x, rfl, fun hl => ?_⟩⟩
  · have hhub := hg.hub
    rw [if_neg fun hc => hadvise hc.1]
    dsimp only
    rw [hhub]
  · rw [hm] at hn
    cases hn
  · rw [if_pos hm]
  · rw [if_neg hadvise]
    exact hadvice
  · rw [if_neg hadvise]
    exact hstamp
  · rw [if_pos hm]
    have hs := x.skips hl
    rw [hs] at hskips
    refine (hskips (by omega)).trans ?_
    omega

/-- A balance interval makes its candidates and disposes of them by the mode (R114, R119). -/
theorem disposed_all : ∃ made, h.Disposed made (if h.eventTables.mode = .off then g else g.balance) := by
  by_cases hoff : h.eventTables.mode = .off
  · rw [if_pos hoff]
    exact ⟨[], disposed_off hg hoff hports hskips⟩
  · rw [if_neg hoff]
    obtain ⟨made, k, hk, x⟩ := proposed_all hg hports hskips
    refine ⟨made, ?_⟩
    have htables := x.balanced.eventTables
    have hbalance : g.balance = match h.eventTables.mode with
        | .off => k | .advise => k.disposeAdvice made | .auto => made.foldl Hub.disposeAuto k := by
      unfold Hub.balance
      dsimp only
      rw [hk, ← htables] <;> rfl
    rw [hbalance]
    cases hm : h.eventTables.mode with
    | off => exact absurd hm hoff
    | advise => exact disposed_advise x hm
    | auto => exact disposed_auto x hm

end Interval

/-- What steps 3 and 4 of a balance interval leave of port `p` (R129, R130). -/
theorem quietSteps_spec {h g : Hub} {made : List MoveEntry} (x : h.Disposed made g) (hs : h.inService = true) (p : PortId)
    {b : PortBalance} (hb : b = g.quietSteps p g.sbl.ports[p]) :
    b.returns = g.sbl.ports[p].returns
    ∧ b = { h.sbl.ports[p] with holdOff := h.sbl.ports[p].holdOff - 1, returns := b.returns, quietCount := b.quietCount
                                quietDue := b.quietDue }
    ∧ (h.tables.portOn p = true → b.quietCount =
      if h.eventTables.quietOn p = true ∧ h.isUp p = true ∧ h.lvm.ports[p].smoothed < h.eventTables.quietMark p
          ∧ g.queued p = false ∧ h.ramping p = false ∧ h.allIdle p = true ∧ h.inLoopTest p = false then
        min (h.sbl.ports[p].quietCount + 1) 15 else 0)
    ∧ (h.tables.portOn p = true → b.quietDue = (!b.quiet && decide (h.eventTables.quietLimit ≤ b.quietCount)))
    ∧ (h.tables.portOn p = false → b.quietCount = h.sbl.ports[p].quietCount ∧ b.quietDue = h.sbl.ports[p].quietDue) := by
  have hp := x.ports p
  have htables : g.tables = h.tables := (congrArg Hub.tables x.hub).trans rfl
  have hevent : g.eventTables = h.eventTables := (congrArg Hub.eventTables x.hub).trans rfl
  have hinService : g.inService = h.inService := by
    refine (congrArg Hub.inService x.hub).trans ?_
    unfold Hub.inService
    dsimp only
    split <;> rfl
  have hup : g.isUp p = h.isUp p := (congrArg (fun k : Hub => k.isUp p) x.hub).trans rfl
  have hsmooth : g.smoothed p = h.lvm.ports[p].smoothed := (congrArg (fun k : Hub => k.smoothed p) x.hub).trans rfl
  have hramp : g.ramping p = h.ramping p := (congrArg (fun k : Hub => k.ramping p) x.hub).trans rfl
  have hidle : g.allIdle p = h.allIdle p := (congrArg (fun k : Hub => k.allIdle p) x.hub).trans rfl
  have hloop : g.inLoopTest p = h.inLoopTest p := (congrArg (fun k : Hub => k.inLoopTest p) x.hub).trans rfl
  have hcond : g.quietConditions p = true ↔ h.eventTables.quietOn p = true ∧ h.isUp p = true
      ∧ h.lvm.ports[p].smoothed < h.eventTables.quietMark p
      ∧ g.queued p = false ∧ h.ramping p = false ∧ h.allIdle p = true ∧ h.inLoopTest p = false := by
    unfold Hub.quietConditions
    rw [hevent, hinService, hup, hsmooth, hramp, hidle, hloop, hs]
    simp only [Bool.and_eq_true, decide_eq_true_eq, Bool.not_eq_true', and_assoc, and_true]
  have hcount : (if g.quietConditions p then bump 15 g.sbl.ports[p].quietCount else 0) =
      if h.eventTables.quietOn p = true ∧ h.isUp p = true ∧ h.lvm.ports[p].smoothed < h.eventTables.quietMark p
          ∧ g.queued p = false ∧ h.ramping p = false ∧ h.allIdle p = true ∧ h.inLoopTest p = false then
        min (h.sbl.ports[p].quietCount + 1) 15 else 0 := by
    rw [if_congr hcond rfl rfl, hp]
    rfl
  unfold Hub.quietSteps at hb
  rw [hcount, htables, hevent] at hb
  generalize (if h.eventTables.quietOn p = true ∧ h.isUp p = true ∧ h.lvm.ports[p].smoothed < h.eventTables.quietMark p
          ∧ g.queued p = false ∧ h.ramping p = false ∧ h.allIdle p = true ∧ h.inLoopTest p = false then
        min (h.sbl.ports[p].quietCount + 1) 15 else 0) = n at hb ⊢
  generalize g.sbl.ports[p] = c at hp hb ⊢
  rw [hp] at hb
  clear hp
  cases hon : h.tables.portOn p with
  | true =>
    rw [hon, if_pos rfl] at hb
    subst hb
    exact ⟨rfl, rfl, fun _ => rfl, fun _ => rfl, nofun⟩
  | false =>
    rw [hon, if_neg Bool.false_ne_true] at hb
    subst hb
    exact ⟨rfl, rfl, nofun, nofun, fun _ => ⟨rfl, rfl⟩⟩

end Sys2Proof.Machine
end

section
/-! Settles O56. -/

namespace Sys2Proof.Machine

namespace Hub.Disposed
variable {h g : Hub} {made : List MoveEntry} (x : h.Disposed made g)
include x

theorem sectors : g.sbl.sectors = tab fun z => { workLoad := h.workOf made z, workCount := h.countOf made z
                                                 lastLoad := h.intervalLoad z, overloaded := h.heavy z } :=
  (congrArg (fun k : Hub => k.sbl.sectors) x.hub).trans rfl

theorem sbl : g.sbl = { h.sbl with
    intervalDue := false, ports := g.sbl.ports, sectors := g.sbl.sectors, queue := g.sbl.queue
    advice := g.sbl.advice, adviceStamp := g.sbl.adviceStamp, skips := g.sbl.skips } := by
  rw [x.sectors]
  exact (congrArg Hub.sbl x.hub).trans rfl

theorem order : made.Pairwise h.listedBefore := by
  by_cases hm : h.eventTables.mode = .off
  · rw [(x.off hm).1]
    exact .nil
  · obtain ⟨k, y, -⟩ := x.on hm
    exact y.order

theorem of_mem {e : MoveEntry} (he : e ∈ made) : ∃ k, h.Proposed made k := by
  by_cases hm : h.eventTables.mode = .off
  · rw [(x.off hm).1] at he
    cases he
  · obtain ⟨k, y, -⟩ := x.on hm
    exact ⟨k, y⟩

theorem causes (e : MoveEntry) (he : e ∈ made) : e.cause = .auto ∧ h.heavy e.source = true ∨ e.cause = .returning :=
  (x.of_mem he).elim fun _ y => y.causes e he

theorem homes (e : MoveEntry) (he : e ∈ made) : e.cause = .returning → e.target = h.tables.home e.port :=
  (x.of_mem he).elim fun _ y => y.homes e he

theorem rest (b : Sbl) : ({ g with sbl := b } : Hub) = { h with sbl := b, mga := g.mga } := by
  have hg := x.hub
  rw [hg]

end Hub.Disposed

/-- A whole balance interval (R114). -/
theorem interval_disposed {h : Hub} (hs : h.inService = true) (hd : h.sbl.intervalDue = true) :
    ∃ made g, h.Disposed made g ∧ h.balanceInterval =
      { g with sbl := { g.sbl with ports := tab fun p => g.quietSteps p g.sbl.ports[p] } } := by
  obtain ⟨made, x⟩ := disposed_all (balanced_takeLoads h) rfl rfl
  exact ⟨made, _, x, balanceInterval_eq hs hd⟩

theorem quietEntry_eq {h : Hub} {p : PortId} (hd : h.sbl.ports[p].quietDue = true) : h.quietEntry p = { h with
    mga := h.mga.raised .quiet
    sbl := { h.sbl with ports := upd h.sbl.ports p fun b => { b with quiet := true, quietDue := false } } } :=
  if_pos hd

end Sys2Proof.Machine

namespace Sys2Proof
open Machine

/-- Settles O56: the turns of the over-loaded sectors and of the ports away from home, each with an invariant over the
part taken, then the disposal by mode and the quiet steps. -/
theorem balanceIntervalProposesMoves : Obligations.BalanceIntervalProposesMoves := by
  refine ⟨fun s => ?_, fun p s => ?_⟩
  · intro h T A load excess heavy turn work count eligible ranked sooner fits hs hd
    obtain ⟨made, g, x, heq⟩ := interval_disposed hs hd
    have hexec : exec .balanceInterval s = .next { s with hub := h.balanceInterval } := rfl
    rw [heq] at hexec
    refine ⟨_, hexec, rfl, ?_, ?_, ?_, fun p => ?_, made, ?_⟩
    · exact congrArg (fun b : Sbl => { b with ports := tab fun p => g.quietSteps p g.sbl.ports[p] }) x.sbl
    · exact x.rest _
    · exact (congrArg Hub.mga x.hub).trans rfl
    · obtain ⟨-, hspec⟩ := quietSteps_spec x hs p rfl
      have hget : (tab fun p => g.quietSteps p g.sbl.ports[p])[p] = g.quietSteps p g.sbl.ports[p] := tab_get _ p
      dsimp only
      rw [hget]
      exact hspec
    · have hreturns (p : PortId) : (tab fun p => g.quietSteps p g.sbl.ports[p])[p].returns = g.sbl.ports[p].returns :=
        (congrArg PortBalance.returns (tab_get _ p)).trans (quietSteps_spec x hs p rfl).1
      dsimp only
      simp only [hreturns]
      refine ⟨x.off, fun z => ?_, x.queue, x.advice, x.stamp, fun hn hl => ?_, ?_, ?_, fun hn => ?_, fun hn p => ?_, ?_⟩
      · exact (congrArg (fun v : Vector SectorBalance 12 => v[z]) x.sectors).trans (tab_get _ z)
      · obtain ⟨k, -, -, hskips⟩ := x.on hn
        exact hskips hl
      · exact x.order
      · exact x.causes
      · obtain ⟨k, y, -⟩ := x.on hn
        exact y.turns
      · obtain ⟨k, y, hports, -⟩ := x.on hn
        rw [hports]
        exact y.returns p
      · exact x.homes
  · exact fun hd => congrArg (fun g => Host.Outcome.next (State.mk g s.pending)) (quietEntry_eq hd)

end Sys2Proof
end

section
/-! FRAME_BOUNDARY takes what is due by the events' own commands (O58). -/

namespace Sys2Proof.Machine

/-- On an open boundary the commands `cs`, one after the other, act as `F`, and leave the boundary open. -/
def Follows (cs : List Instr) (F : Hub → Hub) : Prop :=
  ∀ (h : Hub) (q : List Instr), h.bd.isOpen = true → runAll cs ⟨h, q⟩ = ⟨F h, q⟩ ∧ (F h).bd.isOpen = true

theorem follows_append {cs ds : List Instr} {F G : Hub → Hub} (x : Follows cs F) (y : Follows ds G) :
    Follows (cs ++ ds) fun h => G (F h) := fun h q ho => by
  obtain ⟨hf, hof⟩ := x h q ho
  obtain ⟨hg, hog⟩ := y (F h) q hof
  refine ⟨?_, hog⟩
  have hsplit : runAll (cs ++ ds) ⟨h, q⟩ = runAll ds (runAll cs ⟨h, q⟩) := List.foldl_append
  rw [hsplit, hf, hg]

theorem follows_cons {c : Instr} {ds : List Instr} {F G : Hub → Hub} (x : Follows [c] F) (y : Follows ds G) :
    Follows (c :: ds) fun h => G (F h) := follows_append x y

/-- A boundary event acts as its own rule. -/
theorem follows_event {c : Instr} {F : Hub → Hub} (hexec : ∀ s, exec c s = s.atBoundary F) (hc : c.isBoundaryEvent)
    (hw : c ≠ .frameBoundary .whole) : Follows [c] F := fun h q ho => by
  obtain ⟨f, hf, hacts⟩ := exec_event hc
  have hsame : F h = f h := by
    have heq := (hexec ⟨h, q⟩).symm.trans (hf ⟨h, q⟩)
    have hopen : h.openBoundary = h := openBoundary_of_isOpen ho
    have hhub : F h.openBoundary = f h.openBoundary := congrArg State.hub (Host.Outcome.next.inj heq)
    rwa [hopen] at hhub
  constructor
  · have hrun : exec c ⟨h, q⟩ = .next ⟨F h.openBoundary, q⟩ := hexec ⟨h, q⟩
    rw [openBoundary_of_isOpen ho] at hrun
    unfold runAll
    rw [List.foldl_cons, hrun]
    rfl
  · rw [hsame, (hacts h).isOpen, if_neg hw]
    exact ho

theorem follows_map {α : Type} {c : α → Instr} {f : α → Hub → Hub} (x : ∀ a, Follows [c a] (f a)) (as : List α) :
    Follows (as.map c) fun h => as.foldl (fun h a => f a h) h := by
  induction as with
  | nil => exact fun h q ho => ⟨rfl, ho⟩
  | cons a as ih => exact follows_cons (x a) ih

theorem follows_each {n : Nat} {c : Fin n → Instr} {f : Fin n → Hub → Hub} (x : ∀ i, Follows [c i] (f i)) :
    Follows ((List.finRange n).map c) (each f) := follows_map x _

theorem follows_flatMap {α : Type} {c : α → List Instr} {f : α → Hub → Hub} (x : ∀ a, Follows (c a) (f a)) (as : List α) :
    Follows (as.flatMap c) fun h => as.foldl (fun h a => f a h) h := by
  induction as with
  | nil => exact fun h q ho => ⟨rfl, ho⟩
  | cons a as ih => exact follows_append (x a) ih

theorem follows_links {c : LinkId → Instr} {f : LinkId → Hub → Hub} (x : ∀ l, Follows [c l] (f l)) :
    Follows (allLinks.map c) (eachLink f) := by
  unfold allLinks
  rw [List.map_append, List.map_append, List.map_map, List.map_map]
  have hremotes := follows_each fun p : PortId => x (.remote p)
  have hdonors := follows_each fun d : DonorId => x (.donor d)
  have hall := follows_append (follows_append hremotes hdonors) (x .trunk)
  exact hall

/-- An event that is not whole FRAME_BOUNDARY acts as its own rule. -/
theorem follows {c : Instr} (F : Hub → Hub) (hexec : ∀ s, exec c s = s.atBoundary F)
    (hp : c ≠ .powerOn) (hr : c.isRequest = false) (hw : c ≠ .frameBoundary .whole) : Follows [c] F :=
  follows_event hexec ⟨hp, hr⟩ hw

/-- The commands by which a boundary settles its links. -/
def linkOrder : List Instr :=
  allLinks.map (Instr.receiveFrame · []) ++ (allLinks.map Instr.linkAligned
    ++ (allLinks.map Instr.linkAlignmentLost ++ [.idleCell, .requestCell, .dataCell, .checkCell, .responseCell]))

theorem follows_settleLinks : Follows linkOrder Hub.settleLinks := by
  have hcells : Follows [.idleCell, .requestCell, .dataCell, .checkCell, .responseCell] _ :=
    follows_cons (follows (Hub.takeCell .idle fun _ h => h) (fun _ => rfl) nofun rfl nofun) <|
    follows_cons (follows (Hub.takeCell .request Hub.acceptRequest) (fun _ => rfl) nofun rfl nofun) <|
    follows_cons (follows (Hub.takeCell .data fun c h => { h with tld := h.tld.data c }) (fun _ => rfl) nofun rfl nofun) <|
    follows_cons (follows (Hub.takeCell .check fun c h => { h with tld := h.tld.check c }) (fun _ => rfl) nofun rfl nofun) <|
    follows (Hub.takeCell .response Hub.unexpectedCell) (fun _ => rfl) nofun rfl nofun
  have hframes := follows_links (c := (Instr.receiveFrame · [])) fun l => follows (Hub.receiveFrame l []) (fun _ => rfl) nofun rfl nofun
  have haligned := follows_links (c := .linkAligned) fun l => follows (Hub.linkAligned l) (fun _ => rfl) nofun rfl nofun
  have hlost := follows_links (c := .linkAlignmentLost) fun l => follows (Hub.alignmentLost l) (fun _ => rfl) nofun rfl nofun
  have hall := follows_append hframes (follows_append haligned (follows_append hlost hcells))
  exact hall

/-- The commands by which a boundary settles measurements, replies and misses. -/
def rauOrder : List Instr :=
  (List.finRange 24).map .measurementDone ++ ((List.finRange 24).map .measurementTimeout
    ++ [.delayMeasurementStart, .identifyReply, .statusReply, .attemptMiss])

theorem follows_settleRau : Follows rauOrder Hub.settleRau := by
  have hdone := follows_each (c := .measurementDone) fun p => follows (Hub.measurementDone p) (fun _ => rfl) nofun rfl nofun
  have htimeout := follows_each (c := .measurementTimeout) fun p =>
    follows (Hub.measurementTimeout p) (fun _ => rfl) nofun rfl nofun
  have hreplies : Follows [.delayMeasurementStart, .identifyReply, .statusReply, .attemptMiss] _ :=
    follows_cons (follows Hub.measurementStart (fun _ => rfl) nofun rfl nofun) <|
    follows_cons (follows Hub.identifyReply (fun _ => rfl) nofun rfl nofun) <|
    follows_cons (follows Hub.statusReply (fun _ => rfl) nofun rfl nofun) <|
    follows Hub.attemptMiss (fun _ => rfl) nofun rfl nofun
  have hall := follows_append hdone (follows_append htimeout hreplies)
  exact hall

/-- The commands by which a boundary settles levels, windows and the second mark. -/
def levelOrder : List Instr :=
  (List.finRange 24).map .crcRatePresent ++ (.frameBoundary .limiterUpdate ::
    ((List.finRange 24).flatMap (fun p => (List.finRange 4).map fun b => .holdRestore p b)
    ++ ((List.finRange 24).map .dlOverdrivePresent ++ ((List.finRange 24).map .dlOverdriveClear
    ++ (.windowEnd :: ((List.finRange 24).map .ulOverloadPresent ++ (.secondMark ::
      ((List.finRange 24).map .ulSilentPresent ++ [.pollInterval]))))))))

theorem follows_settleLevels : Follows levelOrder Hub.settleLevels := by
  have hcrate := follows_each (c := .crcRatePresent) fun p => follows (Hub.cratePresent p) (fun _ => rfl) nofun rfl nofun
  have hlimit : Follows [.frameBoundary .limiterUpdate] _ := follows Hub.limiterUpdate (fun _ => rfl) nofun rfl nofun
  have hrestore := follows_flatMap (c := fun p : PortId => (List.finRange 4).map fun b => .holdRestore p b)
    (fun p => follows_each fun b => follows (Hub.holdRestore p b) (fun _ => rfl) nofun rfl nofun) (List.finRange 24)
  have hpresent := follows_each (c := .dlOverdrivePresent) fun p =>
    follows (Hub.overdrivePresent p) (fun _ => rfl) nofun rfl nofun
  have hclear := follows_each (c := .dlOverdriveClear) fun p =>
    follows (Hub.overdriveClear p) (fun _ => rfl) nofun rfl nofun
  have hwindow : Follows [.windowEnd] _ := follows Hub.windowEnd (fun _ => rfl) nofun rfl nofun
  have hover := follows_each (c := .ulOverloadPresent) fun p =>
    follows (Hub.overloadPresent p) (fun _ => rfl) nofun rfl nofun
  have hsecond : Follows [.secondMark] _ := follows Hub.secondMark (fun _ => rfl) nofun rfl nofun
  have hsilent := follows_each (c := .ulSilentPresent) fun p =>
    follows (Hub.silentPresent p) (fun _ => rfl) nofun rfl nofun
  have hpoll : Follows [.pollInterval] _ := follows Hub.pollInterval (fun _ => rfl) nofun rfl nofun
  have hall := follows_append hcrate <| follows_cons hlimit <| follows_append hrestore <| follows_append hpresent <|
    follows_append hclear <| follows_cons hwindow <| follows_append hover <| follows_cons hsecond <|
    follows_append hsilent hpoll
  exact hall

/-- The commands by which a boundary settles expiries, balancing and moves. -/
def balanceOrder : List Instr :=
  allKeys.map .coolingExpiry ++ (allKeys.map .settleExpiry ++ (.balanceInterval ::
    ((List.finRange 24).map .quietEntry ++ [.moveAbandon, .rampStep, .moveCommit, .moveStart])))

theorem follows_settleBalance : Follows balanceOrder Hub.settleBalance := by
  have hcooling := follows_map (c := .coolingExpiry)
    (fun k => follows (fun h => h.coolingExpiry k) (fun _ => rfl) nofun rfl nofun) allKeys
  have hsettle := follows_map (c := .settleExpiry)
    (fun k => follows (fun h => h.settleExpiry k) (fun _ => rfl) nofun rfl nofun) allKeys
  have hinterval : Follows [.balanceInterval] _ := follows Hub.balanceInterval (fun _ => rfl) nofun rfl nofun
  have hquiet := follows_each (c := .quietEntry) fun p => follows (Hub.quietEntry p) (fun _ => rfl) nofun rfl nofun
  have hmoves : Follows [.moveAbandon, .rampStep, .moveCommit, .moveStart] _ :=
    follows_cons (follows Hub.moveAbandon (fun _ => rfl) nofun rfl nofun) <|
    follows_cons (follows Hub.rampStep (fun _ => rfl) nofun rfl nofun) <|
    follows_cons (follows Hub.moveCommit (fun _ => rfl) nofun rfl nofun) <|
    follows Hub.moveStart (fun _ => rfl) nofun rfl nofun
  have hall := follows_append hcooling <| follows_append hsettle <| follows_cons hinterval <| follows_append hquiet hmoves
  exact hall

/-- The commands by which a boundary settles the effects of loads and requests. -/
def effectOrder : List Instr :=
  [.loadTimeout, .tableActivation, .operatorHoldEffect, .operatorReleaseEffect, .serviceEntry, .portResetEffect,
    .restartEffect]

theorem follows_settleEffects : Follows effectOrder Hub.settleEffects := by
  have hall : Follows effectOrder _ :=
    follows_cons (follows Hub.loadTimeout (fun _ => rfl) nofun rfl nofun) <|
    follows_cons (follows Hub.tableActivation (fun _ => rfl) nofun rfl nofun) <|
    follows_cons (follows Hub.holdEffect (fun _ => rfl) nofun rfl nofun) <|
    follows_cons (follows Hub.releaseEffect (fun _ => rfl) nofun rfl nofun) <|
    follows_cons (follows Hub.serviceEntry (fun _ => rfl) nofun rfl nofun) <|
    follows_cons (follows Hub.portResetEffect (fun _ => rfl) nofun rfl nofun) <|
    follows Hub.restartEffect (fun _ => rfl) nofun rfl nofun
  exact hall

/-- The last commands of a boundary before its requests. -/
def lastOrder : List Instr := [.frameBoundary .deqRecompute, .cteSelect, .frameBoundary .combiningJoin]

theorem follows_last : Follows lastOrder fun h => h.deqRecompute.cteSelect.join := by
  have hall : Follows lastOrder _ :=
    follows_cons (follows Hub.deqRecompute (fun _ => rfl) nofun rfl nofun) <|
    follows_cons (follows Hub.cteSelect (fun _ => rfl) nofun rfl nofun) <|
    follows Hub.join (fun _ => rfl) nofun rfl nofun
  exact hall

theorem boundaryOrder_eq : boundaryOrder =
    linkOrder ++ (rauOrder ++ (levelOrder ++ (balanceOrder ++ (effectOrder ++ lastOrder)))) := by
  unfold boundaryOrder linkOrder rauOrder levelOrder balanceOrder effectOrder lastOrder
  simp only [List.append_assoc, List.cons_append, List.nil_append]

/-- The hub after the events of its boundary. -/
def Hub.eventsDone (h : Hub) : Hub :=
  let g := h.settleLinks.settleRau.settleLevels.settleBalance.settleEffects
  g.deqRecompute.cteSelect.join

/-- The events of the boundary in the model's order. -/
theorem follows_boundaryOrder : Follows boundaryOrder Hub.eventsDone := by
  have hall := follows_append follows_settleLinks <| follows_append follows_settleRau <|
    follows_append follows_settleLevels <| follows_append follows_settleBalance <|
    follows_append follows_settleEffects follows_last
  rw [boundaryOrder_eq]
  exact hall

/-! ## Requests -/

/-- The command of the request at the head acts as the model serves it (R170). -/
theorem follows_command {h : Hub} {q : List Instr} {c : Cell} {rest : List Cell} (hh : h.mga.requests = c :: rest) :
    runAll [c.command] ⟨h, q⟩ = ⟨h.serveHead, q⟩ := by
  unfold Hub.serveHead Cell.command
  rw [hh]
  dsimp only
  cases c.reqKind with
  | none => rfl
  | some k =>
    cases k with
    | read =>
      dsimp only
      cases (readObjectOf (c.arg 0)).getD .portStatus <;> rfl
    | _ => rfl

theorem serve_nil {h : Hub} (hh : h.mga.requests = []) (n : Nat) : h.serve n = h := by
  induction n with
  | zero => rfl
  | succ n ih =>
    have hhead : h.serveHead = h := by
      unfold Hub.serveHead
      rw [hh]
    unfold Hub.serve
    rw [hhead, ih, ite_self]

theorem takeRequests_eq (n : Nat) (h : Hub) (q : List Instr) : takeRequests n ⟨h, q⟩ = ⟨h.serve n, q⟩ := by
  induction n generalizing h with
  | zero => rfl
  | succ n ih =>
    cases hh : h.mga.requests with
    | nil =>
      unfold takeRequests
      dsimp only
      rw [hh, serve_nil hh]
    | cons c rest =>
      unfold takeRequests Hub.serve
      dsimp only
      rw [hh]
      dsimp only
      have htake : h.canTake = true ↔ h.mga.busy = none ∧ h.mga.responses.length < 8 := by
        unfold Hub.canTake
        rw [Bool.and_eq_true, decide_eq_true_eq, decide_eq_true_eq]
      rw [follows_command hh, ih]
      by_cases hc : h.mga.busy = none ∧ h.mga.responses.length < 8
      · rw [if_pos hc, if_pos (htake.mpr hc)]
      · rw [if_neg hc, if_neg fun ht => hc (htake.mp ht)]

theorem settle_eventsDone (h : Hub) : h.settle = ((h.eventsDone.serve h.eventsDone.mga.requests.length).trunkSupply).serve
    ((h.eventsDone.serve h.eventsDone.mga.requests.length).trunkSupply).mga.requests.length := by
  unfold Hub.settle Hub.eventsDone
  dsimp only

/-- Some events, the requests that are due, the trunk cell, and the requests for which that made room. -/
theorem served_after {cs : List Instr} {F : Hub → Hub} (x : Follows cs F) {h : Hub} (ho : h.bd.isOpen = true)
    (q : List Instr) {s k : State} (hs : runAll cs ⟨h, q⟩ = s)
    (hk : runAll [.frameBoundary .trunkSupply] (takeRequests s.hub.mga.requests.length s) = k) :
    (takeRequests k.hub.mga.requests.length k).hub = (((F h).serve (F h).mga.requests.length).trunkSupply).serve
      (((F h).serve (F h).mga.requests.length).trunkSupply).mga.requests.length := by
  obtain ⟨hevents, hopen⟩ := x h q ho
  rw [hevents] at hs
  subst hs
  rw [takeRequests_eq] at hk
  dsimp only at hk
  have hserved : ((F h).serve (F h).mga.requests.length).bd.isOpen = true := (served_serve _ _).isOpen.trans hopen
  have hsupply : Follows [.frameBoundary .trunkSupply] _ := follows Hub.trunkSupply (fun _ => rfl) nofun rfl nofun
  rw [(hsupply _ q hserved).1] at hk
  subst hk
  rw [takeRequests_eq]

/-- The definition as a function: the kernel then compares the two bodies as they are written. -/
theorem boundaryDone_def : State.boundaryDone = fun s =>
    let s := runAll boundaryOrder { s with hub := s.hub.openBoundary }
    let s := takeRequests s.hub.mga.requests.length s
    let s := runAll [.frameBoundary .trunkSupply] s
    (takeRequests s.hub.mga.requests.length s).hub := rfl

/-- All that a boundary still has to do is done by the events' own commands. -/
theorem boundaryDone_eq (s : State) : s.boundaryDone = s.hub.openBoundary.settle := by
  have hdone := served_after follows_boundaryOrder (openBoundary_isOpen s.hub) s.pending rfl rfl
  exact ((congrFun boundaryDone_def s).trans hdone).trans (settle_eventsDone _).symm

end Sys2Proof.Machine
end

section
/-! The frame records of the frame that begins (O58, R39 to R47, R82 to R85). -/

namespace Sys2Proof.Machine

section Begin
variable (u : Hub)

theorem beginFrame_dlcRecord (p : PortId) : u.beginFrame.dlc.records[p] = u.downlinkRecord p := tab_get _ p

theorem roundShift_gain (a b : Nat) : (roundShift (a * b) 12).toNat = (a * b + 2048) / 4096 := by
  unfold roundShift
  rw [if_neg (by decide)]
  norm_cast

theorem reason_eq (p : PortId) (b : Lane) (z : SectorId) : u.reason p b z =
    if u.dlc.combining[p] = false then Reason.link
    else if u.lnk.remote[p].core.verdict ≠ some .good then .frame
    else if u.lnk.remote[p].mask.getLsbD b.val = false then .lane
    else if (u.actions p).mute = true ∨ (u.actions p).isolate = true then .action
    else if u.lvm.ports[p].loop.isRunning = true then .loop
    else if u.tables.gated z = true ∧ u.ulc.gates[p][b].state = .closed then .gate
    else .none := by
  unfold Hub.reason ActionSet.silences
  dsimp only
  simp only [Bool.not_eq_true', Bool.or_eq_true]

theorem outputFactor_eq (p : PortId) (b : Lane) : u.outputFactor p b =
    if (u.actions p).mute = true ∨ u.inService = false ∨ u.lnk.remote[p].mask.getLsbD b.val = false
        ∨ u.dlc.combining[p] = false then 0
    else if (u.actions p).attenuate then
      min (if u.sbl.ports[p].quiet then u.tables.quietFactor p else 4096) 1024
    else if u.sbl.ports[p].quiet then u.tables.quietFactor p else 4096 := by
  unfold Hub.outputFactor baseFactor
  dsimp only
  simp only [Bool.not_eq_true']

theorem uplinkRecord_on {z : SectorId} (b : Lane) (hz : u.tables.sectorOn z = true) : u.uplinkRecord z b =
    { contributors := ((List.finRange 24).filter fun p : PortId => (u.assignOf p).has z).map fun p =>
        { port := p, gain := (u.tables.portGain p b * u.weight p z + 2048) / 4096, reason := u.reason p b z }
      carriers := ((List.finRange 32).filter fun k : CarrierId => u.tables.carrierOn k
          && decide (u.tables.carrierHome k = z) && decide (u.tables.lane k = b)).map fun k =>
        { carrier := k, gain := u.tables.upGain k, active := decide (u.dlc.carriers[k] = .active) }
      gated := u.tables.gated z, z := .zero } := by
  unfold Hub.uplinkRecord
  dsimp only
  rw [hz, if_neg (by decide)]
  simp only [roundShift_gain]

theorem uplinkRecord_off {z : SectorId} (b : Lane) (hz : u.tables.sectorOn z = false) : u.uplinkRecord z b = .init := by
  unfold Hub.uplinkRecord
  dsimp only
  rw [hz]
  rfl

/-- The samples Z of the last instant, of every sector-lane. -/
def Hub.lastComposite (h : Hub) : Vector Quad 12 :=
  let up := tab h.receivedSamples
  (h.composites (tab fun p : PortId => lineOut h.deq.ports[p].comp up[p] h.deq.ports[p].upLine)).getLast?.getD
    (.replicate 12 Quad.zero)

/-- The hub with its frame records formed. -/
def Hub.formed (h : Hub) : Hub := h.formDownlink.formUplink

theorem formed_ulcRecord (z : SectorId) (b : Lane) : u.formed.ulc.records[z][b] = u.uplinkRecord z b := by
  have hrow : u.formed.ulc.records[z] = tab fun b => u.formDownlink.uplinkRecord z b := tab_get _ z
  exact (congrArg (fun v : Vector SectorLane 4 => v[b]) hrow).trans (tab_get _ b)

theorem beginFrame_ulcRecord (z : SectorId) (b : Lane) : u.beginFrame.ulc.records[z][b] =
    { u.uplinkRecord z b with z := u.formed.lastComposite[z][b] } := by
  have hz : u.beginFrame.ulc.records[z] =
      tab fun b => { u.formed.ulc.records[z][b] with z := u.formed.lastComposite[z][b] } := tab_get _ z
  rw [hz, tab_get, formed_ulcRecord]

theorem beginFrame_reasons (p : PortId) (b : Lane) (z : SectorId) :
    u.beginFrame.ulc.reasons[p][b][z] = u.reasonIn p b z := by
  have hp : u.beginFrame.ulc.reasons[p] = tab fun b => tab fun z => u.formDownlink.reasonIn p b z := tab_get _ p
  rw [hp, tab_get, tab_get]
  rfl

theorem beginFrame_loop (p : PortId) : u.beginFrame.lvm.ports[p].loop = u.lvm.ports[p].loop :=
  (congrArg PortMeter.loop (tab_get _ p)).trans rfl

theorem beginFrame_reason (p : PortId) (b : Lane) (z : SectorId) : u.beginFrame.reason p b z = u.reason p b z := by
  rw [reason_eq, reason_eq, beginFrame_loop]
  rfl

theorem beginFrame_factor (p : PortId) (b : Lane) :
    u.beginFrame.plm[p].lanes[b].factor = u.plm[p].lanes[b].factor := by
  have hp : u.beginFrame.plm[p] = (u.formed.plm[p]).addPower (u.formed.compositeW u.formed.dlc.records[p]) := by
    refine (tab_get _ p).trans ?_
    rw [tab_get]
    rfl
  rw [hp]
  unfold PortLimiter.addPower
  dsimp only
  rw [tab_get]
  rfl

/-- The samples that the uplink lines give out in the frame that begins (R73). -/
def Hub.lineSamples (h : Hub) : Vector (List Quad) 24 :=
  tab fun p : PortId => lineOut h.deq.ports[p].comp (h.receivedSamples p) h.deq.ports[p].upLine

theorem lastComposite_get (z : SectorId) (b : Lane) : u.lastComposite[z][b] =
    (u.ulc.records[z][b]).composite b fun p => (u.lineSamples[p]).getD 255 Quad.zero := by
  have hup : (tab fun p : PortId => lineOut u.deq.ports[p].comp (tab u.receivedSamples)[p] u.deq.ports[p].upLine) =
      u.lineSamples := by
    unfold Hub.lineSamples
    simp only [tab_get]
  have hlast : instants.getLast? = some 255 := rfl
  unfold Hub.lastComposite
  dsimp only
  rw [hup]
  unfold Hub.composites
  rw [List.getLast?_map, hlast]
  dsimp only [Option.map_some, Option.getD_some]
  rw [tab_get, tab_get]

theorem composite_nil {r : SectorLane} (hr : r.contributors = []) (b : Lane) (out : PortId → Quad) :
    r.composite b out = ⟨0, 0⟩ := by
  unfold SectorLane.composite
  rw [hr]
  rfl

theorem beginFrame_ulcOff {z : SectorId} (b : Lane) (hz : u.tables.sectorOn z = false) :
    u.beginFrame.ulc.records[z][b] = { contributors := [], carriers := [], gated := false, z := ⟨0, 0⟩ } := by
  have hr := formed_ulcRecord u z b
  rw [uplinkRecord_off u b hz] at hr
  rw [beginFrame_ulcRecord, uplinkRecord_off u b hz, lastComposite_get, composite_nil (by rw [hr]; rfl)]
  rfl

theorem reasonIn_eq (p : PortId) (b : Lane) (z : SectorId) : u.reasonIn p b z =
    if u.tables.sectorOn z = true ∧ (u.assignOf p).has z = true then some (u.reason p b z)
    else if u.dlc.combining[p] then none else some .link := by
  unfold Hub.reasonIn
  simp only [Bool.and_eq_true]

/-- The downlink record of the frame that begins (R42, R43, R47). -/
theorem downlinkRecord_spec (p : PortId) (b : Lane) :
    let r := (u.downlinkRecord p).lanes[b]
    let base := if u.sbl.ports[p].quiet then u.tables.quietFactor p else 4096
    r.factor = u.plm[p].lanes[b].factor ∧ r.trim = u.tables.trim p b
    ∧ r.output = (if (u.actions p).mute = true ∨ u.inService = false
          ∨ u.lnk.remote[p].mask.getLsbD b.val = false ∨ u.dlc.combining[p] = false then 0
        else if (u.actions p).attenuate then min base 1024 else base)
    ∧ r.summands = ((List.finRange 32).filter fun k : CarrierId =>
        decide (u.dlc.carriers[k] ≠ .absent) && decide (u.tables.lane k = b)
          && (u.assignOf p).has (u.tables.carrierHome k)).map fun k =>
      { carrier := k
        gain := (u.tables.downGain k * u.weight p (u.tables.carrierHome k) + 2048) / 4096
        contributing := decide (u.dlc.carriers[k] = .active) } := by
  have hlane : (u.downlinkRecord p).lanes[b] = { summands := u.summands p b, trim := u.tables.trim p b
                                                 factor := u.plm[p].lanes[b].factor, output := u.outputFactor p b } :=
    tab_get _ b
  dsimp only
  rw [hlane]
  refine ⟨rfl, rfl, outputFactor_eq u p b, ?_⟩
  unfold Hub.summands Hub.carrierGain
  simp only [roundShift_gain]

end Begin

end Sys2Proof.Machine
end

section
/-! The sample plane of the frame that begins, part by part (O58, R44 to R51, R56, R72, R73, R86, R87, R96, R105). -/

namespace Sys2Proof.Machine

/-! ## Samples by their parts -/

/-- The sample whose parts are `f` of the two parts. -/
def ofParts (f : (Sample → Int) → Int) : Sample := ⟨f Sample.i, f Sample.q⟩

theorem ofParts_zero : ofParts (fun _ => 0) = Sample.zero := rfl

theorem ofParts_power (f : (Sample → Int) → Int) :
    (ofParts f).power = (f Sample.i * f Sample.i + f Sample.q * f Sample.q).toNat := rfl

theorem ofParts_changed (f : (Sample → Int) → Int) (g : Int → Int) : (ofParts f).changed g =
    ([Sample.i, Sample.q] : List (Sample → Int)).countP fun part => g (f part) ≠ f part := by
  unfold Sample.changed ofParts
  simp only [List.countP_cons, List.countP_nil]
  by_cases hi : g (f Sample.i) = f Sample.i <;> by_cases hq : g (f Sample.q) = f Sample.q <;> simp [hi, hq]

/-- A sum of scaled samples, part by part (R44, R86). -/
theorem foldl_scaled {α : Type} (l : List α) (c : α → Prop) [DecidablePred c] (x : α → Sample) (g : α → Nat) :
    l.foldl (fun acc e => if c e then acc.add ((x e).scale (g e)) else acc) Sample.zero =
    ofParts fun part => ((l.filter fun e => c e).map fun e => roundShift (part (x e) * g e) 12).sum := by
  have hgo (s : Sample) : l.foldl (fun acc e => if c e then acc.add ((x e).scale (g e)) else acc) s =
      ⟨s.i + ((l.filter fun e => c e).map fun e => roundShift ((x e).i * g e) 12).sum,
        s.q + ((l.filter fun e => c e).map fun e => roundShift ((x e).q * g e) 12).sum⟩ := by
    induction l generalizing s with
    | nil => simp
    | cons e l ih =>
      rw [List.foldl_cons, ih]
      by_cases hc : c e
      · rw [if_pos hc, List.filter_cons_of_pos (p := fun e => decide (c e)) (decide_eq_true hc)]
        simp only [List.map_cons, List.sum_cons, Sample.add, Sample.scale, Sample.map, Int.add_assoc]
      · rw [if_neg hc, List.filter_cons_of_neg (p := fun e => decide (c e)) (by simpa using hc)]
  rw [hgo]
  unfold ofParts Sample.zero
  simp only [Int.zero_add]

theorem sumLane_eq (f : Sample → Nat) (xs : List Quad) (b : Lane) : sumLane f xs b = (xs.map fun x => f x[b]).sum := by
  unfold sumLane
  rw [List.sum_eq_foldl, List.foldl_map]

theorem quad_zero : (tab fun _ : Lane => Sample.zero) = Quad.zero :=
  Vector.ext fun i hi => by rw [tab_getElem]; exact (Vector.getElem_replicate hi).symm

/-! ## Delay lines -/

/-- What a delay line gives out at instant `i` (R72, R73). -/
def heldAt (c : Nat) (entered : Nat → Quad) (line : List Quad) (i : Nat) : Quad :=
  if c ≤ i then entered (i - c) else line.getD (c - i - 1) Quad.zero

theorem lineOut_eq {c : Nat} {line : List Quad} (f : Nat → Quad) (hc : c ≤ line.length) :
    lineOut c (instants.map f) line = instants.map (heldAt c f line) := by
  have hinst : instants.length = 256 := List.length_range
  have hlen : (instants.map f).length = 256 := by rw [List.length_map, hinst]
  unfold lineOut
  rw [hlen]
  have htake : (((instants.map f).reverse ++ line).drop c |>.take 256).length = 256 := by
    rw [List.length_take, List.length_drop, List.length_append, List.length_reverse, hlen]
    omega
  refine List.ext_getElem ?_ fun i h1 h2 => ?_
  · rw [List.length_reverse, htake, List.length_map, hinst]
  · have hi : i < 256 := by
      rw [List.length_map, hinst] at h2
      exact h2
    have hget (j : Nat) (hj : j < (instants.map f).length) : (instants.map f)[j] = f j := by
      rw [List.getElem_map]
      exact congrArg f (List.getElem_range _)
    rw [List.getElem_reverse, List.getElem_take, List.getElem_drop, List.getElem_map]
    have hat : instants[i]'(by rw [hinst]; exact hi) = i := List.getElem_range _
    rw [hat]
    unfold heldAt
    have hrev : (instants.map f).reverse.length = 256 := by rw [List.length_reverse, hlen]
    have hindex : c + ((((instants.map f).reverse ++ line).drop c |>.take 256).length - 1 - i) = c + (255 - i) := by
      rw [htake]
    by_cases hci : c ≤ i
    · rw [if_pos hci, List.getElem_append_left (by rw [hindex, hrev]; omega), List.getElem_reverse, hget, hindex, hlen]
      refine congrArg f ?_
      omega
    · rw [if_neg hci, List.getElem_append_right (by rw [hindex, hrev]; omega), List.getD_eq_getElem?_getD,
        List.getElem?_eq_getElem (by omega), Option.getD_some]
      refine getElem_congr_idx ?_
      rw [hindex, hrev]
      omega

theorem getD_instants {f : Nat → Quad} {i : Nat} (hi : i < 256) : (instants.map f).getD i Quad.zero = f i := by
  have hinst : instants.length = 256 := List.length_range
  rw [List.getD_eq_getElem?_getD, List.getElem?_eq_getElem (by rw [List.length_map, hinst]; exact hi), Option.getD_some,
    List.getElem_map]
  exact congrArg f (List.getElem_range _)

/-! ## One instant of the plane -/

section Plane
variable (v : Hub)

/-- S (R44). -/
def Hub.planeS (p : PortId) (b : Lane) (i : Nat) (part : Sample → Int) : Int :=
  sat21 (((v.dlc.records[p].lanes[b].summands.filter fun e => e.contributing).map fun e =>
    roundShift (part (v.carrierInput i e.carrier) * e.gain) 12).sum)

/-- V (R45). -/
def Hub.planeV (p : PortId) (b : Lane) (i : Nat) (part : Sample → Int) : Int :=
  sat21 (roundShift (v.planeS p b i part * v.dlc.records[p].lanes[b].trim) 12)

/-- W, zero while the port is SILENT (R40, R46). -/
def Hub.planeW (p : PortId) (b : Lane) (i : Nat) (part : Sample → Int) : Int :=
  if v.dlc.combining[p] then sat21 (roundShift (v.planeV p b i part * v.dlc.records[p].lanes[b].factor) 12) else 0

/-- Y (R49). -/
def Hub.planeY (p : PortId) (b : Lane) (i : Nat) (part : Sample → Int) : Int :=
  roundShift (v.planeW p b i part * v.dlc.records[p].lanes[b].output) 12

/-- The samples that enter the downlink line (R49, R51). -/
def Hub.planeSent (p : PortId) (i : Nat) : Quad :=
  tab fun b : Lane => ⟨sat16 (v.planeY p b i (if v.tables.swap p then Sample.q else Sample.i)),
    sat16 (v.planeY p b i (if v.tables.swap p then Sample.i else Sample.q))⟩

/-- The samples that enter the uplink line (R2, R73). -/
def Hub.planeReceived (p : PortId) (i : Nat) : Quad :=
  if v.lnk.remote[p].core.state.aligned = true ∧ v.lnk.remote[p].core.verdict = some .good then
    tab fun b : Lane => if v.tables.swap p then
      ⟨(v.lnk.remote[p].core.samples.getD i Quad.zero)[b].q, (v.lnk.remote[p].core.samples.getD i Quad.zero)[b].i⟩
    else (v.lnk.remote[p].core.samples.getD i Quad.zero)[b]
  else Quad.zero

/-- The samples that the uplink line of a port gives out (R73). -/
def Hub.planeU (p : PortId) : Nat → Quad := heldAt v.deq.ports[p].comp (v.planeReceived p) v.deq.ports[p].upLine

/-- Z (R86). -/
def Hub.planeZ (z : SectorId) (b : Lane) (i : Nat) (part : Sample → Int) : Int :=
  sat21 (((v.ulc.records[z][b].contributors.filter fun e => e.reason = .none).map fun e =>
    roundShift (part (v.planeU e.port i)[b] * e.gain) 12).sum)

/-- The uplink output of a carrier before its saturation (R87). -/
def Hub.planeCarrier (c : CarrierId) (i : Nat) (part : Sample → Int) : Int :=
  if v.tables.sectorOn (v.tables.carrierHome c) = true ∧ v.tables.carrierOn c = true ∧ v.dlc.carriers[c] = .active then
    roundShift (v.planeZ (v.tables.carrierHome c) (v.tables.lane c) i part * v.tables.upGain c) 12
  else 0

/-- The records say of combining and swap what the hub says. -/
def Hub.recorded : Prop :=
  ∀ p : PortId, v.dlc.records[p].combining = v.dlc.combining[p] ∧ v.dlc.records[p].swap = v.tables.swap p

theorem laneW_eq (r : LaneRecord) (x : CarrierId → Sample) : r.w x = ofParts fun part =>
    sat21 (roundShift (sat21 (roundShift (sat21 (((r.summands.filter fun e => e.contributing).map fun e =>
      roundShift (part (x e.carrier) * e.gain) 12).sum) * r.trim) 12) * r.factor) 12) := by
  unfold LaneRecord.w limited trimmed compositeS
  rw [foldl_scaled r.summands (fun e => e.contributing = true) (fun e => x e.carrier) fun e => e.gain]
  simp only [Bool.decide_eq_true]
  rfl

variable {v} (hv : v.recorded)
include hv

theorem compositeW_eq (p : PortId) : v.compositeW v.dlc.records[p] =
    instants.map fun i => tab fun b : Lane => ofParts (v.planeW p b i) := by
  obtain ⟨hcomb, -⟩ := hv p
  unfold Hub.compositeW Hub.planeW
  rw [hcomb]
  refine List.map_congr_left fun i _ => ?_
  cases v.dlc.combining[p]
  · exact quad_zero.symm
  · refine congrArg tab (funext fun b => ?_)
    exact laneW_eq _ _

omit hv in
theorem planeY_silent {p : PortId} (hp : v.dlc.combining[p] = false) (b : Lane) (i : Nat) : v.planeY p b i = fun _ => 0 := by
  funext part
  unfold Hub.planeY Hub.planeW
  rw [hp, if_neg Bool.false_ne_true, Int.zero_mul]
  rfl

theorem outputs_eq (p : PortId) : (v.dlc.records[p]).outputs (v.compositeW v.dlc.records[p]) =
    instants.map (v.planeSent p) := by
  obtain ⟨hcomb, hswap⟩ := hv p
  rw [compositeW_eq hv]
  unfold PortRecord.outputs
  rw [List.map_map, hcomb, hswap]
  refine List.map_congr_left fun i _ => ?_
  unfold Hub.planeSent
  cases hp : v.dlc.combining[p] with
  | false =>
    simp only [planeY_silent hp]
    exact quad_zero.symm
  | true =>
    refine congrArg tab (funext fun b => ?_)
    unfold LaneRecord.out
    rw [tab_get]
    unfold Sample.swapIf
    split <;> rfl

theorem addClips_eq (p : PortId) (clips : Vector Nat 4) :
    (v.dlc.records[p]).addClips (v.compositeW v.dlc.records[p]) clips = tab fun b => min (clips[b]
      + (instants.map fun i => ([Sample.i, Sample.q] : List (Sample → Int)).countP fun part =>
          sat16 (v.planeY p b i part) ≠ v.planeY p b i part).sum) (2 ^ 32 - 1) := by
  obtain ⟨hcomb, -⟩ := hv p
  rw [compositeW_eq hv]
  unfold PortRecord.addClips sat32
  refine congrArg tab (funext fun b => ?_)
  rw [hcomb, sumLane_eq, List.map_map]
  refine congrArg (fun n => min (clips[b] + n) (2 ^ 32 - 1)) ?_
  cases hp : v.dlc.combining[p] with
  | false =>
    refine (List.sum_eq_zero fun n hn => ?_).symm
    obtain ⟨i, -, rfl⟩ := List.mem_map.mp hn
    rw [planeY_silent hp]
    rfl
  | true =>
    refine congrArg List.sum (List.map_congr_left fun i _ => ?_)
    have hw : (tab fun b : Lane => ofParts (v.planeW p b i))[b] = ofParts (v.planeW p b i) := tab_get _ b
    unfold LaneRecord.clips LaneRecord.y
    rw [Function.comp_apply, hw]
    exact ofParts_changed (v.planeY p b i) sat16

theorem addPower_eq (p : PortId) (m : PortLimiter) : m.addPower (v.compositeW v.dlc.records[p]) = { m with
    lanes := tab fun b => { m.lanes[b] with powerSum := m.lanes[b].powerSum + (instants.map fun i =>
      (v.planeW p b i Sample.i * v.planeW p b i Sample.i + v.planeW p b i Sample.q * v.planeW p b i Sample.q).toNat).sum } } := by
  rw [compositeW_eq hv]
  unfold PortLimiter.addPower
  simp only [sumLane_eq, List.map_map, Function.comp_def, tab_get, ofParts_power]

end Plane

end Sys2Proof.Machine
end

section
/-! The uplink of the sample plane and the frames sent (O58, R1, R12, R14, R73, R86, R87, R96, R105). -/

namespace Sys2Proof.Machine

section Uplink
variable {v : Hub}

theorem receivedSamples_eq (p : PortId) : v.receivedSamples p = instants.map (v.planeReceived p) := rfl

/-- Every delay line is as long as its compensation asks (R72, R73). -/
def Hub.linesServe (v : Hub) : Prop :=
  ∀ p : PortId, v.deq.ports[p].comp ≤ v.deq.ports[p].downLine.length ∧ v.deq.ports[p].comp ≤ v.deq.ports[p].upLine.length

theorem lineSamples_eq (hl : v.linesServe) (p : PortId) : v.lineSamples[p] = instants.map (v.planeU p) := by
  unfold Hub.lineSamples
  rw [tab_get, receivedSamples_eq]
  exact lineOut_eq _ (hl p).2

theorem composite_eq (hl : v.linesServe) (z : SectorId) (b : Lane) {i : Nat} (hi : i < 256) :
    (v.ulc.records[z][b]).composite b (fun p => (v.lineSamples[p]).getD i Quad.zero) = ofParts (v.planeZ z b i) := by
  have hout (p : PortId) : (v.lineSamples[p]).getD i Quad.zero = v.planeU p i := by
    rw [lineSamples_eq hl]
    exact getD_instants hi
  unfold SectorLane.composite
  simp only [hout]
  rw [foldl_scaled v.ulc.records[z][b].contributors (fun e => e.reason = Reason.none) (fun e => (v.planeU e.port i)[b]) fun e => e.gain]
  rfl

/-- Z of every sector-lane at instant `i`. -/
def Hub.planeZs (v : Hub) (i : Nat) : Vector Quad 12 := tab fun z => tab fun b => ofParts (v.planeZ z b i)

theorem composites_eq (hl : v.linesServe) : v.composites v.lineSamples = instants.map v.planeZs := by
  unfold Hub.composites
  refine List.map_congr_left fun i hi => ?_
  have hi : i < 256 := List.mem_range.mp hi
  exact congrArg tab (funext fun z => congrArg tab (funext fun b => composite_eq hl z b hi))

theorem lastComposite_eq (hl : v.linesServe) (z : SectorId) (b : Lane) :
    v.lastComposite[z][b] = ofParts (v.planeZ z b 255) := by
  rw [lastComposite_get]
  exact composite_eq hl z b (by decide)

/-- The uplink records have the carriers of their sector and lane. -/
def Hub.carriersListed (v : Hub) : Prop :=
  ∀ (z : SectorId) (b : Lane), v.ulc.records[z][b].carriers =
    if v.tables.sectorOn z then ((List.finRange 32).filter fun k : CarrierId => v.tables.carrierOn k
        && decide (v.tables.carrierHome k = z) && decide (v.tables.lane k = b)).map fun k =>
      { carrier := k, gain := v.tables.upGain k, active := decide (v.dlc.carriers[k] = .active) }
    else []

theorem activeEntry_eq (hc : v.carriersListed) (c : CarrierId) : v.activeEntry c =
    if v.tables.sectorOn (v.tables.carrierHome c) = true ∧ v.tables.carrierOn c = true ∧ v.dlc.carriers[c] = .active then
      some { carrier := c, gain := v.tables.upGain c, active := true } else none := by
  unfold Hub.activeEntry
  rw [hc]
  by_cases hs : v.tables.sectorOn (v.tables.carrierHome c) = true
  · rw [if_pos hs, List.find?_map, List.find?_filter]
    by_cases ha : v.tables.carrierOn c = true ∧ v.dlc.carriers[c] = .active
    · rw [if_pos ⟨hs, ha⟩]
      obtain ⟨hon, hactive⟩ := ha
      rw [(find?_finRange_eq_some (i := c)).mpr ⟨?_, fun k hk => ?_⟩, Option.map_some, hactive]
      · rfl
      · simp only [hon, hactive, decide_true, Bool.and_self, Function.comp_apply, and_self]
      · simp only [decide_eq_false (ne_of_lt hk), Bool.false_and, Function.comp_apply, Bool.false_eq_true, and_false,
          decide_false]
    · rw [if_neg fun hn => ha hn.2, List.find?_eq_none.mpr, Option.map_none]
      intro k _ hk
      simp only [Bool.and_eq_true, decide_eq_true_eq, Function.comp_apply] at hk
      obtain ⟨⟨⟨hon, -⟩, -⟩, rfl, hactive⟩ := hk
      exact ha ⟨hon, hactive⟩
  · rw [if_neg hs, if_neg fun hn => hs hn.1]
    rfl

theorem uplinkOf_eq (hc : v.carriersListed) (c : CarrierId) (i : Nat) :
    v.uplinkOf (v.planeZs i) c = ofParts (v.planeCarrier c i) := by
  have hz : (v.planeZs i)[v.tables.carrierHome c][v.tables.lane c] =
      ofParts (v.planeZ (v.tables.carrierHome c) (v.tables.lane c) i) := by
    unfold Hub.planeZs
    rw [tab_get, tab_get]
  unfold Hub.uplinkOf Hub.planeCarrier
  rw [activeEntry_eq hc]
  split
  next e he =>
    split at he
    next ha =>
      cases he
      rw [hz]
      simp only [if_pos ha]
      rfl
    next => cases he
  next hn =>
    split at hn
    next => cases hn
    next ha =>
      simp only [if_neg ha]
      rfl

end Uplink

/-! ## The whole frame -/

section Frame
variable {v : Hub} (hv : v.recorded) (hl : v.linesServe) (hc : v.carriersListed)

include hv in
theorem integrate_eq (p : PortId) (m : PortMeter) :
    m.integrate (v.compositeW v.dlc.records[p]) (v.receivedSamples p) = { m with meters := tab fun b =>
      { m.meters[b] with integrator := m.meters[b].integrator + (instants.map fun i =>
          if m.loop.isRunning then (sat16 (v.planeW p b i Sample.i) * sat16 (v.planeW p b i Sample.i)
            + sat16 (v.planeW p b i Sample.q) * sat16 (v.planeW p b i Sample.q)).toNat
          else ((v.planeReceived p i)[b].i * (v.planeReceived p i)[b].i
            + (v.planeReceived p i)[b].q * (v.planeReceived p i)[b].q).toNat).sum } } := by
  rw [compositeW_eq hv, receivedSamples_eq]
  unfold PortMeter.integrate mapTab
  cases m.loop.isRunning
  · simp only [sumLane_eq, List.map_map, Function.comp_def, Sample.power, Bool.false_eq_true, if_false]
  · simp only [sumLane_eq, List.map_map, Function.comp_def, tab_get, if_true, Sample.power, Sample.map, ofParts]

end Frame

end Sys2Proof.Machine
end

section
/-! The blocks of the hub after the frame's instants (O58). -/

namespace Sys2Proof.Machine

section Run
variable {v : Hub} (hv : v.recorded) (hl : v.linesServe) (hc : v.carriersListed)

/-- How many parts of an output sample its saturation changes (R49, R87). -/
def clipsOf (f : (Sample → Int) → Int) : Nat :=
  ([Sample.i, Sample.q] : List (Sample → Int)).countP fun part => sat16 (f part) ≠ f part

/-- The power of a sample given by its parts (Conventions 4.3). -/
def powerOf (f : (Sample → Int) → Int) : Nat := (f Sample.i * f Sample.i + f Sample.q * f Sample.q).toNat

include hv in
theorem runFrame_dlc : v.runFrame.dlc = { v.dlc with
    clips := tab fun p => tab fun b =>
      min (v.dlc.clips[p][b] + (instants.map fun i => clipsOf (v.planeY p b i)).sum) (2 ^ 32 - 1) } := by
  unfold Hub.runFrame
  simp only [tab_get, addClips_eq hv]
  rfl

include hv in
theorem runFrame_plm : v.runFrame.plm = tab fun p => { v.plm[p] with lanes := tab fun b => { v.plm[p].lanes[b] with
    powerSum := v.plm[p].lanes[b].powerSum + (instants.map fun i => powerOf (v.planeW p b i)).sum } } := by
  unfold Hub.runFrame
  simp only [tab_get, addPower_eq hv]
  rfl

include hv in
theorem runFrame_deq : v.runFrame.deq = { v.deq with ports := tab fun p => { v.deq.ports[p] with
    downLine := ((instants.map (v.planeSent p)).reverse ++ v.deq.ports[p].downLine).take 1024
    upLine := ((instants.map (v.planeReceived p)).reverse ++ v.deq.ports[p].upLine).take 1024 } } := by
  unfold Hub.runFrame lineNext
  simp only [tab_get, outputs_eq hv, receivedSamples_eq]

include hl hc in
theorem runFrame_uplinkClips : v.runFrame.ulc.clips = tab fun c =>
    min (v.ulc.clips[c] + (instants.map fun i => clipsOf (v.planeCarrier c i)).sum) (2 ^ 32 - 1) := by
  have hup : (tab fun p : PortId => lineOut v.deq.ports[p].comp (tab v.receivedSamples)[p] v.deq.ports[p].upLine) =
      v.lineSamples := by
    unfold Hub.lineSamples
    simp only [tab_get]
  unfold Hub.runFrame
  dsimp only
  rw [hup, composites_eq hl]
  refine congrArg tab (funext fun c => ?_)
  unfold sat32
  rw [List.foldl_map]
  refine congrArg (fun n => min (v.ulc.clips[c] + n) (2 ^ 32 - 1)) ?_
  rw [List.sum_eq_foldl, List.foldl_map]
  simp only [uplinkOf_eq hc, ofParts_changed]
  rfl

include hv in
theorem runFrame_lvm : v.runFrame.lvm = { v.lvm with ports := tab fun p => { v.lvm.ports[p] with meters := tab fun b =>
    { v.lvm.ports[p].meters[b] with integrator := v.lvm.ports[p].meters[b].integrator + (instants.map fun i =>
        if v.lvm.ports[p].loop.isRunning then powerOf fun part => sat16 (v.planeW p b i part)
        else powerOf fun part => part (v.planeReceived p i)[b]).sum } } } := by
  unfold Hub.runFrame
  simp only [tab_get, integrate_eq hv]
  rfl

include hv hl in
theorem runFrame_sentRemote : v.runFrame.lnk.sentRemote = tab fun p => v.remoteFrame p
    (instants.map (heldAt v.deq.ports[p].comp (v.planeSent p) v.deq.ports[p].downLine)) := by
  unfold Hub.runFrame
  simp only [tab_get, outputs_eq hv, lineOut_eq _ (hl _).1]

include hl hc in
theorem runFrame_sentDonor : v.runFrame.lnk.sentDonor = tab fun d => sentFrame v.lnk.frameNumber 0 (List.replicate 8 0)
    (samplesBytes (instants.map fun i => tab fun j : Fin 4 =>
      ⟨sat16 (v.planeCarrier ⟨4 * d.val + j.val, by omega⟩ i Sample.i),
        sat16 (v.planeCarrier ⟨4 * d.val + j.val, by omega⟩ i Sample.q)⟩)) := by
  have hup : (tab fun p : PortId => lineOut v.deq.ports[p].comp (tab v.receivedSamples)[p] v.deq.ports[p].upLine) =
      v.lineSamples := by
    unfold Hub.lineSamples
    simp only [tab_get]
  unfold Hub.runFrame
  dsimp only
  rw [hup, composites_eq hl]
  refine congrArg tab (funext fun d => ?_)
  unfold Hub.donorFrame Hub.donorPayload
  rw [List.map_map]
  refine congrArg (fun x => sentFrame v.lnk.frameNumber 0 idleField (samplesBytes x)) (List.map_congr_left fun i _ => ?_)
  refine congrArg tab (funext fun j => ?_)
  rw [uplinkOf_eq hc]
  rfl

end Run

/-! ## The hub whose records are formed -/

section Formed
variable (u : Hub)

theorem formed_dlcRecord (p : PortId) : u.formed.dlc.records[p] = u.downlinkRecord p := tab_get _ p

theorem formed_recorded : u.formed.recorded := fun p => by
  rw [formed_dlcRecord]
  exact ⟨rfl, rfl⟩

theorem formed_deqPort (p : PortId) : u.formed.deq.ports[p] =
    if (u.actions p).mute = true ∧ u.dlc.records[p].mute = false then { u.deq.ports[p] with downLine := zeroLine }
    else u.deq.ports[p] := by
  refine (tab_get _ p).trans ?_
  rw [tab_get]
  simp only [Bool.not_eq_true']
  rfl

theorem formed_carriersListed : u.formed.carriersListed := fun z b => by
  rw [formed_ulcRecord]
  cases hz : u.tables.sectorOn z with
  | true =>
    rw [uplinkRecord_on u b hz]
    exact (if_pos hz).symm
  | false =>
    rw [uplinkRecord_off u b hz]
    exact (if_neg (ne_true_of_eq_false hz)).symm

variable {u} (hfull : ∀ p : PortId, u.deq.ports[p].downLine.length = 1024 ∧ u.deq.ports[p].upLine.length = 1024
  ∧ u.deq.ports[p].comp ≤ 1023)
include hfull

theorem formed_linesServe : u.formed.linesServe := fun p => by
  obtain ⟨hdown, hup, hcomp⟩ := hfull p
  have hzero : zeroLine.length = 1024 := List.length_replicate
  rw [formed_deqPort]
  split
  · dsimp only
    omega
  · omega

end Formed

/-- A compensation and an uplink line are as they were when the records are formed. -/
theorem formed_line (u : Hub) (p : PortId) : u.formed.deq.ports[p] =
    { u.deq.ports[p] with downLine := u.formed.deq.ports[p].downLine } := by
  rw [formed_deqPort]
  split <;> rfl

theorem beginFrame_sentRemote (u : Hub) (p : PortId) : ∃ out, u.beginFrame.lnk.sentRemote[p] = u.formed.remoteFrame p out :=
  ⟨_, tab_get _ p⟩

theorem remoteFrame_eq_none {h : Hub} {p : PortId} {out : List Quad} :
    h.remoteFrame p out = none ↔ h.linkOf p = .disabled := by
  unfold Hub.remoteFrame
  split
  next hd => exact iff_of_true rfl hd
  next hd => exact iff_of_false (Option.some_ne_none _) hd

theorem remoteFrame_eq (h : Hub) (p : PortId) (out : List Quad) : h.remoteFrame p out =
    if h.linkOf p = .disabled then none
    else if h.isUp p then
      some (sentFrame h.lnk.frameNumber h.lnk.remote[p].mask (h.controlFieldFor p) (samplesBytes out))
    else some (sentFrame h.lnk.frameNumber 0 (h.controlFieldFor p) (samplesBytes (List.replicate 256 Quad.zero))) := by
  unfold Hub.remoteFrame
  dsimp only
  cases h.isUp p <;> rfl

theorem frameInput_runFrame (v : Hub) (p : PortId) : v.runFrame.frameInput p = v.frameInput p := rfl

theorem frameInput_formed (u : Hub) (p : PortId) : u.formed.frameInput p = u.frameInput p := rfl

/-- The inputs that stand throughout the frame that begins (R69, R83, R89, R96, R97, R101). -/
theorem beginFrame_frame (u : Hub) (p : PortId) : u.beginFrame.frame[p] =
    { link := u.linkOf p, mask := u.lnk.remote[p].mask, verdict := u.lnk.remote[p].core.verdict
      combining := u.dlc.combining[p], silenced := (u.actions p).mute || (u.actions p).isolate
      delay := u.lnk.remote[p].delay, rtRange := u.lnk.remote[p].rtRange, assign := u.assignOf p } := by
  have hget : u.beginFrame.frame[p] = u.formed.runFrame.frameInput p := tab_get _ p
  rw [hget, frameInput_runFrame, frameInput_formed]
  rfl

theorem controlFieldFor_eq (h : Hub) (p : PortId) : h.controlFieldFor p = match h.cte.transaction with
    | some x => if x.port = p then [if x.kind = .identify then 1 else 2, x.sequence, 0, 0, 0, 0, 0, 0]
      else List.replicate 8 0
    | none => List.replicate 8 0 := by
  unfold Hub.controlFieldFor requestField idleField
  cases h.cte.transaction <;> rfl

end Sys2Proof.Machine
end

section
/-! Settles O58. -/

namespace Sys2Proof
open Machine

/-- Settles O58: the boundary is settled by the events' own commands, the records are read off the hub that they leave,
and the plane is taken part by part. -/
theorem frameRecordsOfTheNewFrame : Obligations.FrameRecordsOfTheNewFrame := by
  have hexec (s : State) : exec (.frameBoundary .whole) s = .next ⟨s.boundaryDone.beginFrame, s.pending⟩ := by
    rw [boundaryDone_eq]
    rfl
  constructor
  · intro reason s
    obtain ⟨u, hdone⟩ : ∃ u, s.boundaryDone = u := ⟨_, rfl⟩
    have hu := hexec s
    rw [hdone] at hu
    refine ⟨_, hu, rfl, ?_⟩
    clear hu hdone
    have hreason (p : PortId) (b : Lane) (z : SectorId) : reason u.beginFrame p b z = u.reason p b z :=
      (reason_eq u.beginFrame p b z).symm.trans (beginFrame_reason u p b z)
    refine ⟨rfl, fun p => ?_, fun z b hz => ?_, fun z b hz => ?_, fun p b z => ?_, rfl, fun p => ?_⟩
    · dsimp only
      rw [beginFrame_dlcRecord]
      refine ⟨rfl, rfl, rfl, fun b => ?_⟩
      rw [beginFrame_factor]
      exact downlinkRecord_spec u p b
    · have hon := uplinkRecord_on u b hz
      rw [beginFrame_ulcRecord, hon]
      simp only [hreason]
      exact ⟨rfl, rfl, rfl⟩
    · exact beginFrame_ulcOff u b hz
    · rw [beginFrame_reasons, reasonIn_eq, hreason]
      rfl
    · obtain ⟨out, hout⟩ := beginFrame_sentRemote u p
      rw [hout]
      exact remoteFrame_eq_none
  · intro s
    obtain ⟨u, hdone⟩ : ∃ u, s.boundaryDone = u := ⟨_, rfl⟩
    have hu := hexec s
    rw [hdone] at hu ⊢
    clear hdone
    intro _ frame parts power clipped held
    refine ⟨_, hu, beginFrame_frame u, fun hfull => ?_⟩
    clear hu
    intro x S V W Y sent down received U Z carrier control
    have hv := formed_recorded u
    have hl := formed_linesServe hfull
    have hc := formed_carriersListed u
    have hW : W = u.formed.planeW := rfl
    have hY : Y = u.formed.planeY := rfl
    have hsent : sent = u.formed.planeSent := rfl
    have hreceived : received = u.formed.planeReceived := rfl
    have hline := formed_line u
    have hU : U = u.formed.planeU := by
      funext p
      unfold Hub.planeU
      rw [hline]
      rfl
    have hZ : Z = u.formed.planeZ := by
      funext z b i part
      have hsame : u.beginFrame.ulc.records[z][b].contributors = u.formed.ulc.records[z][b].contributors := by
        rw [beginFrame_ulcRecord, formed_ulcRecord]
      change sat21 (((u.beginFrame.ulc.records[z][b].contributors.filter fun e => e.reason = .none).map fun e =>
        roundShift (part (U e.port i)[b] * e.gain) 12).sum) = _
      rw [hU, hsame]
      rfl
    have hcarrier : carrier = u.formed.planeCarrier := by
      funext c i part
      change (if u.tables.sectorOn (u.tables.carrierHome c) = true ∧ u.tables.carrierOn c = true
          ∧ u.dlc.carriers[c] = .active then
        roundShift (Z (u.tables.carrierHome c) (u.tables.lane c) i part * u.tables.upGain c) 12 else 0) = _
      rw [hZ]
      rfl
    have hframe : frame = instants := rfl
    have hclipped : clipped = clipsOf := rfl
    have hpower : power = powerOf := rfl
    have hheld : held = heldAt := rfl
    have hcontrol : control = u.controlFieldFor := funext fun p => (controlFieldFor_eq u p).symm
    have hdown (p : PortId) : u.formed.deq.ports[p].downLine = down p := by
      rw [formed_deqPort]
      exact (apply_ite PortEq.downLine _ _ _).trans rfl
    clear_value control carrier Z U received down sent Y W V S x held clipped power frame
    subst hW hY hsent hreceived hU hZ hcarrier hframe hclipped hpower hheld hcontrol
    refine ⟨?_, ?_, ?_, ?_, ?_, ?_, ?_, ?_⟩
    · exact runFrame_dlc hv
    · exact runFrame_plm hv
    · refine (runFrame_deq hv).trans (congrArg (fun ports => { u.deq with ports := ports }) (congrArg tab (funext fun p => ?_)))
      rw [hdown, hline]
    · intro z b
      rw [beginFrame_ulcRecord, lastComposite_eq hl]
      rfl
    · exact congrArg (fun clips => { u.ulc with
        records := u.beginFrame.ulc.records, reasons := u.beginFrame.ulc.reasons, clips := clips })
        (runFrame_uplinkClips hl hc)
    · exact runFrame_lvm hv
    · have hcomp (p : PortId) : u.formed.deq.ports[p].comp = u.deq.ports[p].comp :=
        (congrArg PortEq.comp (hline p)).trans rfl
      have hremote := runFrame_sentRemote hv hl
      simp only [hdown, hcomp, remoteFrame_eq] at hremote
      refine congr (congrArg (fun remote donor => { u.lnk with
        sentRemote := remote, sentDonor := donor, sentTrunk := u.beginFrame.lnk.sentTrunk }) ?_)
        (runFrame_sentDonor hl hc)
      exact hremote
    · rfl

end Sys2Proof
end

section
/-! What a step that concerns one port leaves alone (O41). -/

namespace Sys2Proof.Machine

/-- Two tables agree at all ports but `p`. -/
def OffPort {α : Type} (p : PortId) (v w : Vector α 24) : Prop := ∀ q : PortId, q ≠ p → w[q] = v[q]

theorem OffPort.trans {α : Type} {p : PortId} {u v w : Vector α 24} (x : OffPort p u v) (y : OffPort p v w) :
    OffPort p u w := fun q hq => (y q hq).trans (x q hq)

theorem offPort_upd {α : Type} (p : PortId) (v : Vector α 24) (f : α → α) : OffPort p v (upd v p f) :=
  fun _ hq => upd_get_other v f (Ne.symm hq)

theorem offPort_set {α : Type} (p : PortId) (v : Vector α 24) (a : α) : OffPort p v (v.set p.val a p.isLt) :=
  offPort_upd p v fun _ => a

/-- `g` is `h` after steps that concern single ports: what belongs to no port, or to the donors, stands, and the agent at
most gives responses. -/
structure Hub.Turns (h g : Hub) : Prop where
  hub : g = { h with
    lnk := { h.lnk with remote := g.lnk.remote }
    dlc := { h.dlc with combining := g.dlc.combining }
    plm := g.plm
    deq := { h.deq with ports := g.deq.ports }
    ulc := { h.ulc with gates := g.ulc.gates }
    lvm := { h.lvm with ports := g.lvm.ports }
    fsv := { g.fsv with donorRecords := h.fsv.donorRecords }
    cte := { h.cte with ports := g.cte.ports, transaction := g.cte.transaction }
    sbl := { h.sbl with ports := g.sbl.ports, flight := g.sbl.flight }
    mga := { h.mga with
      responses := g.mga.responses, busy := g.mga.busy, busyRipe := g.mga.busyRipe, marks := g.mga.marks } } := by rfl
  flight : h.sbl.flight = none → g.sbl.flight = none := by exact id
  transaction : ∀ x, g.cte.transaction = some x → h.cte.transaction = some x := by exact fun _ => id
  marks : ∀ n : Notice, h.mga.marks[n.idx] = true → g.mga.marks[n.idx] = true := by exact fun _ => id
  responses : ∃ rs, g.mga.responses = h.mga.responses ++ rs := by exact ⟨[], (List.append_nil _).symm⟩
  busy : h.mga.busy = none → g.mga.busy = none := by exact id

/-- `g` is `h` after steps that concern port `p` alone, and leave its assignment; an awake port stays awake. -/
structure Hub.Touches (p : PortId) (h g : Hub) : Prop extends Hub.Turns h g where
  remote : OffPort p h.lnk.remote g.lnk.remote := by exact fun _ _ => rfl
  combining : OffPort p h.dlc.combining g.dlc.combining := by exact fun _ _ => rfl
  plm : OffPort p h.plm g.plm := by exact fun _ _ => rfl
  deq : OffPort p h.deq.ports g.deq.ports := by exact fun _ _ => rfl
  gates : OffPort p h.ulc.gates g.ulc.gates := by exact fun _ _ => rfl
  lvm : OffPort p h.lvm.ports g.lvm.ports := by exact fun _ _ => rfl
  records : OffPort p h.fsv.portRecords g.fsv.portRecords := by exact fun _ _ => rfl
  detectors : OffPort p h.fsv.detectors g.fsv.detectors := by exact fun _ _ => rfl
  cte : OffPort p h.cte.ports g.cte.ports := by exact fun _ _ => rfl
  sbl : OffPort p h.sbl.ports g.sbl.ports := by exact fun _ _ => rfl
  assign : g.assignOf p = h.assignOf p := by rfl
  awake : h.isQuiet p = false →
    g.isQuiet p = false ∧ g.sbl.ports[p].wakeCause = h.sbl.ports[p].wakeCause := by exact fun hq => ⟨hq, rfl⟩

/-- `g` is `h` after steps that concern ports other than `p`. -/
structure Hub.Apart (p : PortId) (h g : Hub) : Prop extends Hub.Turns h g where
  remote : g.lnk.remote[p] = h.lnk.remote[p]
  combining : g.dlc.combining[p] = h.dlc.combining[p]
  plm : g.plm[p] = h.plm[p]
  deq : g.deq.ports[p] = h.deq.ports[p]
  gates : g.ulc.gates[p] = h.ulc.gates[p]
  lvm : g.lvm.ports[p] = h.lvm.ports[p]
  records : g.fsv.portRecords[p] = h.fsv.portRecords[p]
  detectors : g.fsv.detectors[p] = h.fsv.detectors[p]
  cte : g.cte.ports[p] = h.cte.ports[p]
  sbl : g.sbl.ports[p] = h.sbl.ports[p]

section Lemmas
variable {p q : PortId} {h g k : Hub}

theorem Hub.Turns.same (h : Hub) : h.Turns h where

theorem Hub.Turns.trans (x : h.Turns g) (y : g.Turns k) : h.Turns k where
  hub := by
    have hx := x.hub
    have hy := y.hub
    rw [hy, hx]
  flight := y.flight ∘ x.flight
  transaction t := x.transaction t ∘ y.transaction t
  marks n := y.marks n ∘ x.marks n
  responses := by
    obtain ⟨rs, hr⟩ := x.responses
    obtain ⟨ts, ht⟩ := y.responses
    exact ⟨rs ++ ts, by rw [ht, hr, List.append_assoc]⟩
  busy := y.busy ∘ x.busy

theorem Hub.Touches.same (p : PortId) (h : Hub) : h.Touches p h where

theorem Hub.Touches.trans (x : h.Touches p g) (y : g.Touches p k) : h.Touches p k where
  toTurns := x.toTurns.trans y.toTurns
  remote := x.remote.trans y.remote
  combining := x.combining.trans y.combining
  plm := x.plm.trans y.plm
  deq := x.deq.trans y.deq
  gates := x.gates.trans y.gates
  lvm := x.lvm.trans y.lvm
  records := x.records.trans y.records
  detectors := x.detectors.trans y.detectors
  cte := x.cte.trans y.cte
  sbl := x.sbl.trans y.sbl
  assign := y.assign.trans x.assign
  awake hq := by
    obtain ⟨hg, hw⟩ := x.awake hq
    obtain ⟨hk, hw'⟩ := y.awake hg
    exact ⟨hk, hw'.trans hw⟩

theorem Hub.Touches.ite (c : Prop) [Decidable c] (x : c → h.Touches p g) (y : ¬ c → h.Touches p k) :
    h.Touches p (if c then g else k) := by
  split
  next hc => exact x hc
  next hc => exact y hc

theorem Hub.Apart.same (p : PortId) (h : Hub) : h.Apart p h := ⟨.same h, rfl, rfl, rfl, rfl, rfl, rfl, rfl, rfl, rfl, rfl⟩

theorem Hub.Apart.trans (x : h.Apart p g) (y : g.Apart p k) : h.Apart p k where
  toTurns := x.toTurns.trans y.toTurns
  remote := y.remote.trans x.remote
  combining := y.combining.trans x.combining
  plm := y.plm.trans x.plm
  deq := y.deq.trans x.deq
  gates := y.gates.trans x.gates
  lvm := y.lvm.trans x.lvm
  records := y.records.trans x.records
  detectors := y.detectors.trans x.detectors
  cte := y.cte.trans x.cte
  sbl := y.sbl.trans x.sbl

theorem Hub.Touches.apart (x : h.Touches q g) (hp : p ≠ q) : h.Apart p g where
  toTurns := x.toTurns
  remote := x.remote p hp
  combining := x.combining p hp
  plm := x.plm p hp
  deq := x.deq p hp
  gates := x.gates p hp
  lvm := x.lvm p hp
  records := x.records p hp
  detectors := x.detectors p hp
  cte := x.cte p hp
  sbl := x.sbl p hp

/-- The ports one after the other: before and after its own turn a port is as it was. -/
theorem each_split {F : PortId → Hub → Hub} (hF : ∀ (q : PortId) (h : Hub), h.Touches q (F q h)) (p : PortId) (h : Hub) :
    ∃ g, h.Apart p g ∧ (F p g).Apart p (each F h) := by
  have hkeep (qs : List PortId) (hq : p ∉ qs) (k : Hub) : k.Apart p (qs.foldl (fun t q => F q t) k) := by
    induction qs generalizing k with
    | nil => exact .same p k
    | cons q qs ih =>
      rw [List.mem_cons, not_or] at hq
      exact ((hF q k).apart hq.1).trans (ih hq.2 (F q k))
  obtain ⟨front, back, hlist⟩ := List.append_of_mem (List.mem_finRange p)
  have hnodup := List.nodup_finRange 24
  rw [hlist] at hnodup
  obtain ⟨-, hback, hapart⟩ := List.nodup_append'.mp hnodup
  unfold each
  rw [hlist, List.foldl_append, List.foldl_cons]
  refine ⟨_, hkeep front (fun hp => ?_) h, hkeep back (List.nodup_cons.mp hback).1 _⟩
  exact List.disjoint_left.mp hapart hp List.mem_cons_self

/-- The ports in ascending number, with an invariant of those taken. -/
theorem each_prefix {F : PortId → Hub → Hub} {P : List PortId → Hub → Prop} (h : Hub) (h0 : P [] h)
    (hstep : ∀ (pre : List PortId) (p : PortId) (g : Hub), p ∉ pre → P pre g → P (pre ++ [p]) (F p g)) :
    P (List.finRange 24) (each F h) :=
  foldl_prefix _ h h0 fun pre p post g he hg => by
    have hsorted := pairwise_finRange 24
    rw [he] at hsorted
    exact hstep pre p g (fun hin => lt_irrefl _ ((List.pairwise_append.mp hsorted).2.2 p hin p List.mem_cons_self)) hg

/-- One more port's turn in a table of turns. -/
theorem turn_tab {α : Type} (f : PortId → α → α) (v : Vector α 24) {pre : List PortId} {p : PortId} (hp : p ∉ pre) :
    upd (tab fun q => if q ∈ pre then f q v[q] else v[q]) p (f p) =
      tab fun q => if q ∈ pre ++ [p] then f q v[q] else v[q] := by
  refine Vector.ext fun i hi => ?_
  rw [upd_getElem, tab_getElem, tab_getElem]
  by_cases hip : p.val = i
  · subst hip
    rw [if_pos rfl, if_neg hp, if_pos (List.mem_append_right _ (List.mem_singleton_self p))]
  · have hne : (⟨i, hi⟩ : PortId) ≠ p := fun he => hip (congrArg Fin.val he).symm
    rw [if_neg hip]
    exact if_congr (by rw [List.mem_append, List.mem_singleton, or_iff_left hne]) rfl rfl

theorem each_turns {F : PortId → Hub → Hub} (hF : ∀ (q : PortId) (h : Hub), h.Touches q (F q h)) (h : Hub) : h.Turns (each F h) :=
  each_rel .same .trans (fun q k => (hF q k).toTurns) h

end Lemmas

end Sys2Proof.Machine
end

section
/-! The steps of a boundary's decisions about one port touch that port alone (O41). -/

namespace Sys2Proof.Machine

/-- `g` is `h` after what a boundary has decided of port `p`: no delay line, and no lane of its limiter, changes. -/
structure Hub.Decides (p : PortId) (h g : Hub) : Prop extends Hub.Touches p h g where
  lines : g.deq = h.deq := by rfl
  lanes : g.plm[p].lanes = h.plm[p].lanes := by rfl

section Steps
variable {p : PortId} {h g k : Hub}

theorem Hub.Decides.same (p : PortId) (h : Hub) : h.Decides p h where

theorem Hub.Decides.trans (x : h.Decides p g) (y : g.Decides p k) : h.Decides p k where
  toTouches := x.toTouches.trans y.toTouches
  lines := y.lines.trans x.lines
  lanes := y.lanes.trans x.lanes

theorem Hub.Decides.ite (c : Prop) [Decidable c] (x : c → h.Decides p g) (y : ¬ c → h.Decides p k) :
    h.Decides p (if c then g else k) := by
  split
  next hc => exact x hc
  next hc => exact y hc

theorem marks_of_marked {m m' : Mga} {R : Notice → Prop} (x : m.marked m' R) (n : Notice) (hn : m.marks[n.idx] = true) :
    m'.marks[n.idx] = true := (x n).mpr (.inl hn)

theorem decides_deliver (h : Hub) (p : PortId) (a : Arrival) : h.Decides p (h.deliver (.remote p) a) := by
  rw [deliver_remote]
  exact { remote := offPort_upd p _ _, cte := offPort_upd p _ _, detectors := offPort_upd p _ _ }

theorem decides_onRemote (h : Hub) (p : PortId) (f : RemoteLink → RemoteLink) : h.Decides p (h.onRemote p f) where
  remote := offPort_upd p _ f

theorem decides_onCte (h : Hub) (p : PortId) (f : PortCte → PortCte) : h.Decides p (h.onCte p f) where
  cte := offPort_upd p _ f

theorem decides_onDet (h : Hub) (p : PortId) (f : Detectors → Detectors) : h.Decides p (h.onDet p f) where
  detectors := offPort_upd p _ f

theorem decides_linkAligned (h : Hub) (p : PortId) : h.Decides p (h.linkAligned (.remote p)) := by
  unfold Hub.linkAligned
  dsimp only
  split
  · refine .ite _ (fun _ => ?_) fun _ => .same p h
    have henter : h.Decides p (h.enterAligned (.remote p)) :=
      ((decides_onRemote h p _).trans (decides_onRemote _ p _)).trans (decides_onCte _ p _)
    exact henter.trans (decides_deliver _ p _)
  · exact .same p h

theorem PortClass.idx_surj (i : Fin 8) : ∃ c : PortClass, c.idx = i := by
  fin_cases i
  exacts [⟨.linkLoss, rfl⟩, ⟨.crcRate, rfl⟩, ⟨.rauNoReply, rfl⟩, ⟨.ulOverload, rfl⟩, ⟨.ulSilent, rfl⟩,
    ⟨.dlOverdrive, rfl⟩, ⟨.rauAlarm, rfl⟩, ⟨.delayRange, rfl⟩]

/-- A record of a port is no record of another one, nor of a donor. -/
theorem offPort_records {f : Fsv} {c : PortClass} (ho : ∀ k : FaultKey, k ≠ .port p c →
    ({ h with fsv := f } : Hub).faultRecord k = h.faultRecord k) :
    OffPort p h.fsv.portRecords f.portRecords ∧ f.donorRecords = h.fsv.donorRecords := by
  constructor
  · intro q hq
    refine Vector.ext fun i hi => ?_
    obtain ⟨d, hd⟩ := PortClass.idx_surj ⟨i, hi⟩
    have hrec := ho (.port q d) fun he => hq (FaultKey.port.inj he).1
    obtain rfl : d.idx.val = i := congrArg Fin.val hd
    exact hrec
  · refine Vector.ext fun i hi => ?_
    exact ho (.donor ⟨i, hi⟩) nofun

theorem decides_present (h : Hub) (p : PortId) (c : PortClass) : h.Decides p (h.present (.port p c)) := by
  have hassign := (supervised_present h (.port p c)).assign p
  obtain ⟨f, b, m, he, ⟨hrec, -, hsup, hmga, hmarks⟩, hdets⟩ := present_blocks h p c
  rw [he] at hassign ⊢
  obtain ⟨hoff, hdonors⟩ := offPort_records (h := h) fun k hk => (hrec k).trans (if_neg hk)
  unfold Hub.supervises at hsup
  dsimp only at hsup hmga hmarks
  have hports (q : PortId) (hq : q ≠ p ∨ h.isQuiet p = false) : b.ports[q] = h.sbl.ports[q] := by
    rw [hsup]
    refine (tab_get _ q).trans ?_
    split
    next w hw =>
      split
      next hquiet =>
        refine absurd hw ?_
        rcases hq with hq | hq
        · rw [if_neg fun hc => hq hc.1]
          exact nofun
        · rw [if_neg]
          · exact nofun
          · rintro ⟨rfl, -⟩
            exact ne_true_of_eq_false hq hquiet
      next => rfl
    next => rfl
  have hturns : h.Turns { h with fsv := f, sbl := b, mga := m } :=
    { hub := by
        rw [← hdonors, hmga]
        refine congrArg (fun x => { h with fsv := f, sbl := x, mga := { h.mga with marks := m.marks } }) ?_
        rw [hsup]
      flight := fun hn => by
        dsimp only
        rw [hsup]
        dsimp only
        rw [hn]
        rfl
      marks := marks_of_marked hmarks
      responses := ⟨[], by rw [List.append_nil]; exact (congrArg Mga.responses hmga).trans rfl⟩
      busy := fun hn => (congrArg Mga.busy hmga).trans hn }
  have hquiet (hq : h.isQuiet p = false) : ({ h with fsv := f, sbl := b, mga := m } : Hub).sbl.ports[p] = h.sbl.ports[p] :=
    hports p (.inr hq)
  exact { hturns with
    records := hoff, detectors := fun q _ => by rw [hdets], sbl := fun q hq => hports q (.inl hq), assign := hassign
    awake := fun hq => by
      unfold Hub.isQuiet at hq ⊢
      rw [hquiet hq]
      exact ⟨hq, rfl⟩ }

theorem decides_clear (h : Hub) (p : PortId) (c : PortClass) : h.Decides p (h.clearCondition (.port p c)) := by
  obtain ⟨f, he, hrec, -, hdets⟩ := clear_blocks h (.port p c)
  rw [he]
  obtain ⟨hoff, hdonors⟩ := offPort_records (h := h) fun k hk => (hrec k).trans (if_neg hk)
  exact { hub := by rw [← hdonors], records := hoff, detectors := fun q _ => by rw [hdets] }

theorem decides_measurementDone (h : Hub) (p : PortId) : h.Decides p (h.measurementDone p) := by
  unfold Hub.measurementDone
  dsimp only
  refine .ite _ (fun _ => ?_) fun _ => .same p h
  generalize h.lnk.remote[p].meas.minimum.getD (0, false) = x
  refine (decides_onRemote h p fun r => { r with lastRT := x.1, delay := (x.1 + 1) / 2, rtRange := x.2 }).trans ?_
  generalize h.onRemote p (fun r => { r with lastRT := x.1, delay := (x.1 + 1) / 2, rtRange := x.2 }) = g
  cases ho : g.lnk.remote[p].meas.origin with
  | entry =>
    rw [endMeasurement_entry ho]
    exact decides_onRemote g p _
  | request tag =>
    rw [endMeasurement_request ho]
    exact { remote := offPort_upd p _ _, responses := ⟨_, rfl⟩, busy := fun _ => rfl }

theorem decides_answered (h : Hub) (p : PortId) (fill : PortCte → PortCte) : h.Decides p (h.answeredBy p fill) where
  cte := offPort_upd p _ _
  transaction := nofun

theorem decides_answerTransaction (h : Hub) (p : PortId) (fill : PortCte → PortCte) :
    h.Decides p ((h.answerTransaction p).onCte p fill) :=
  ((decides_answered h p id).trans (decides_clear _ p _)).trans (decides_onCte _ p fill)

theorem decides_raise (h : Hub) (p : PortId) (n : Notice) : h.Decides p (h.raise n) where
  marks := marks_of_marked (h.mga.marked_raised n)

theorem decides_goodIdentify (h : Hub) (p : PortId) (mask : LaneMask) : h.Decides p (h.goodIdentify p mask) := by
  unfold Hub.goodIdentify
  dsimp only
  refine (decides_onRemote h p _).trans (.ite _ (fun _ => ?_) fun _ => .same p _)
  exact ((decides_onRemote _ p _).trans (decides_raise _ p .link)).trans (decides_clear _ p _)

/-- A transaction in flight is one of port `p`. -/
def Cte.onlyOf (c : Cte) (p : PortId) : Prop := ∀ x : Transaction, c.transaction = some x → x.port = p

theorem onlyOf_of_inFlight {c : Cte} (hf : c.inFlight p = true) : c.onlyOf p := fun x hx => by
  unfold Cte.inFlight at hf
  rw [hx] at hf
  exact of_decide_eq_true hf

theorem decides_identifyReply (h : Hub) (hf : h.cte.onlyOf p) : h.Decides p h.identifyReply := by
  by_cases hn : ∃ x f, h.cte.transaction = some x ∧ x.kind = .identify ∧ h.replyOf x = some f
  · obtain ⟨x, f, hx, hk, hr⟩ := hn
    obtain rfl := hf x hx
    rw [identifyReply_eq hx hk hr]
    exact (decides_answerTransaction h x.port _).trans (decides_goodIdentify _ x.port _)
  · rw [identifyReply_of_not hn]
    exact .same p h

theorem decides_statusReply (h : Hub) (hf : h.cte.onlyOf p) : h.Decides p h.statusReply := by
  by_cases hn : ∃ x f, h.cte.transaction = some x ∧ x.kind = .status ∧ h.replyOf x = some f
  · obtain ⟨x, f, hx, hk, hr⟩ := hn
    obtain rfl := hf x hx
    rw [statusReply_eq hx hk hr]
    exact (decides_answerTransaction h x.port _).trans
      (.ite _ (fun _ => decides_present _ x.port _) fun _ => decides_clear _ x.port _)
  · rw [statusReply_of_not hn]
    exact .same p h

theorem decides_takeDue (h : Hub) (p : PortId) : h.Decides p (h.takeDue p) := by
  unfold Hub.takeDue
  dsimp only
  refine (decides_linkAligned h p).trans (.ite _ (fun _ => ?_) fun _ => .same p _)
  refine (decides_measurementDone _ p).trans (.ite _ (fun hf => ?_) fun _ => .same p _)
  have hidentify := decides_identifyReply _ (onlyOf_of_inFlight hf)
  exact hidentify.trans (decides_statusReply _ fun x hx => onlyOf_of_inFlight hf x (hidentify.transaction x hx))

theorem decides_exited (h : Hub) (p : PortId) (leave : LinkCore → LinkCore) : h.Decides p (h.exited p leave) := by
  have hmga := exited_mga h p leave
  have hsbl (q : PortId) (hq : q ≠ p ∨ h.isQuiet p = false) : (h.exited p leave).sbl.ports[q] = h.sbl.ports[q] := by
    unfold Hub.exited
    dsimp only
    split
    · rcases hq with hq | hq
      · exact upd_get_other _ _ hq.symm
      · rw [hq]
        rw [upd_same (v := h.sbl.ports) rfl]
    · rfl
  have hports : (h.exited p leave).sbl = { h.sbl with
      ports := (h.exited p leave).sbl.ports, flight := (h.exited p leave).sbl.flight } := by
    unfold Hub.exited
    cases h.isUp p <;> rfl
  have hagent : (h.exited p leave).mga = { h.mga with
      responses := (h.exited p leave).mga.responses, busy := (h.exited p leave).mga.busy
      busyRipe := (h.exited p leave).mga.busyRipe, marks := (h.exited p leave).mga.marks } := by
    rw [hmga]
    rfl
  have hshape (b : Sbl) (m : Mga) (hb : (h.exited p leave).sbl = b) (hm : (h.exited p leave).mga = m) :
      h.exited p leave = { h with
        lnk := { h.lnk with remote := (h.exited p leave).lnk.remote }
        dlc := { h.dlc with combining := (h.exited p leave).dlc.combining }
        ulc := { h.ulc with gates := (h.exited p leave).ulc.gates }
        lvm := { h.lvm with ports := (h.exited p leave).lvm.ports }
        cte := { h.cte with ports := (h.exited p leave).cte.ports, transaction := (h.exited p leave).cte.transaction }
        sbl := b, mga := m } := by
    subst hb hm
    rfl
  exact {
    hub := hshape _ _ hports hagent
    flight := fun hn => by
      unfold Hub.exited
      dsimp only
      split
      · dsimp only
        rw [hn]
        rfl
      · exact hn
    transaction := fun x hx => by
      unfold Hub.exited at hx
      dsimp only at hx
      split at hx
      · cases hx
      · exact hx
    marks := marks_of_marked (exited_marked h p leave)
    responses := ⟨h.exitAnswers p, (congrArg Mga.responses hmga).trans rfl⟩
    busy := fun hn => by
      rw [hmga]
      unfold Mga.given
      dsimp only
      rw [hn, ite_self]
    remote := offPort_upd p _ _, combining := offPort_set p _ _, gates := offPort_upd p _ _, lvm := offPort_upd p _ _
    cte := offPort_upd p _ _, sbl := fun q hq => hsbl q (.inl hq)
    assign := by
      unfold Hub.assignOf Hub.exited
      dsimp only
      split
      · dsimp only
        rw [upd_get_same]
        split <;> rfl
      · rfl
    awake := fun hq => by
      unfold Hub.isQuiet at hq ⊢
      rw [hsbl p (.inr hq)]
      exact ⟨hq, rfl⟩ }

theorem decides_exitRemote (h : Hub) (p : PortId) (leave : LinkCore → LinkCore) (loss : Bool) :
    h.Decides p (h.exitRemote p leave loss) := by
  rw [exitRemote_eq]
  refine .ite _ (fun _ => ?_) fun _ => decides_exited h p leave
  exact ((decides_exited h p leave).trans (decides_onRemote _ p _)).trans (decides_present _ p _)

theorem decides_alignmentLost (h : Hub) (p : PortId) : h.Decides p (h.alignmentLost (.remote p)) :=
  .ite _ (fun _ => (decides_takeDue h p).trans (decides_exitRemote _ p _ true)) fun _ => .same p h

/-- Flags and detections come without a change of links, carriers or transactions. -/
structure Hub.Detects (p : PortId) (h g : Hub) : Prop extends Hub.Decides p h g where
  lnk : g.lnk = h.lnk := by rfl
  dlc : g.dlc = h.dlc := by rfl
  ulc : g.ulc = h.ulc := by rfl
  lvmSame : g.lvm = h.lvm := by rfl
  cteSame : g.cte = h.cte := by rfl
  answers : g.mga = { h.mga with marks := g.mga.marks } := by rfl

theorem Hub.Detects.same (p : PortId) (h : Hub) : h.Detects p h where

theorem Hub.Detects.trans (x : h.Detects p g) (y : g.Detects p k) : h.Detects p k where
  toDecides := x.toDecides.trans y.toDecides
  lnk := y.lnk.trans x.lnk
  dlc := y.dlc.trans x.dlc
  ulc := y.ulc.trans x.ulc
  lvmSame := y.lvmSame.trans x.lvmSame
  cteSame := y.cteSame.trans x.cteSame
  answers := by
    have hx := x.answers
    have hy := y.answers
    rw [hy, hx]

theorem Hub.Detects.ite (c : Prop) [Decidable c] (x : c → h.Detects p g) (y : ¬ c → h.Detects p k) :
    h.Detects p (if c then g else k) := by
  split
  next hc => exact x hc
  next hc => exact y hc

theorem detects_present (h : Hub) (p : PortId) (c : PortClass) : h.Detects p (h.present (.port p c)) := by
  have hdecides := decides_present h p c
  obtain ⟨f, b, m, he, ⟨-, -, -, hmga, -⟩, -⟩ := present_blocks h p c
  rw [he] at hdecides ⊢
  exact { hdecides with answers := hmga }

theorem detects_clear (h : Hub) (p : PortId) (c : PortClass) : h.Detects p (h.clearCondition (.port p c)) := by
  have hdecides := decides_clear h p c
  obtain ⟨f, he, -⟩ := clear_blocks h (.port p c)
  rw [he] at hdecides ⊢
  exact { hdecides with }

theorem detects_presentDue (h : Hub) (p : PortId) : h.Detects p (h.presentDue p) := by
  have hturn (g : Hub) (b : Bool) (f : Detectors → Detectors) (c : PortClass) :
      g.Detects p (if b then (g.onDet p f).present (.port p c) else g) :=
    .ite _ (fun _ => Hub.Detects.trans { decides_onDet g p f with } (detects_present _ p c)) fun _ => .same p g
  exact (hturn h _ _ _).trans ((hturn _ _ _ _).trans (hturn _ _ _ _))

theorem detects_flag (h : Hub) (p : PortId) (b : Bool) : h.Detects p (h.onPlm p fun m => { m with flag := b }) where
  plm := offPort_upd p _ _
  lanes := by
    unfold Hub.onPlm
    dsimp only
    rw [upd_get_same]

theorem limiterUpdate_done (hd : h.bd.limiterDone = true) : h.limiterUpdate = h := if_pos hd

theorem detects_overdriveDue (h : Hub) (p : PortId) : h.Detects p (h.overdriveDue p) := by
  unfold Hub.overdriveDue
  refine .ite _ (fun hd => ?_) fun _ => .same p h
  have hpresent (g : Hub) (hd : g.bd.limiterDone = true) : g.Detects p (g.overdrivePresent p) := by
    unfold Hub.overdrivePresent
    rw [limiterUpdate_done hd]
    dsimp only
    refine .ite _ (fun _ => ?_) fun _ => .same p g
    exact .ite _ (fun _ => detects_flag g p true) fun _ => (detects_flag g p true).trans (detects_present _ p _)
  have hclear (g : Hub) (hd : g.bd.limiterDone = true) : g.Detects p (g.overdriveClear p) := by
    unfold Hub.overdriveClear
    rw [limiterUpdate_done hd]
    dsimp only
    refine .ite _ (fun _ => ?_) fun _ => .same p g
    exact .ite _ (fun _ => detects_flag g p false) fun _ => (detects_flag g p false).trans (detects_clear _ p _)
  have hfirst := hpresent h hd
  have hbd : (h.overdrivePresent p).bd = h.bd := (congrArg Hub.bd hfirst.hub).trans rfl
  exact hfirst.trans (hclear _ (hbd ▸ hd))

theorem decides_takePortDue (h : Hub) (p : PortId) : h.Decides p (h.takePortDue p) :=
  ((decides_takeDue h p).trans (decides_alignmentLost _ p)).trans
    ((detects_presentDue _ p).trans (detects_overdriveDue _ p)).toDecides

end Steps

end Sys2Proof.Machine
end

section
/-! A PORT activation starts, ends or keeps one port (O41, R33, R64). -/

namespace Sys2Proof.Machine

section Port
variable (h : Hub) (p : PortId)

/-- What the enabling of port `p` does after what its boundary has decided of it (R33). -/
def Hub.started : Hub := { h with
  lnk := { h.lnk with remote := upd h.lnk.remote p fun r => { r with
    meas := { r.meas with running := false }, core := r.core.enterDown, mask := 0, rtRange := false } }
  plm := upd h.plm p (PortLimiter.clear true)
  deq := { h.deq with ports := upd h.deq.ports p PortEq.zeroLines }
  ulc := { h.ulc with gates := upd h.ulc.gates p fun _ => .replicate 4 .closed }
  lvm := { h.lvm with ports := upd h.lvm.ports p fun m => { m.clear with loop := .none } }
  sbl := { h.sbl with ports := upd h.sbl.ports p PortBalance.clear }
  fsv := { h.fsv with
    portRecords := upd h.fsv.portRecords p (mapTab (FaultRecord.resetTo false))
    detectors := h.fsv.detectors.set p.val .init p.isLt }
  cte := { h.cte with ports := upd h.cte.ports p fun c => { c with
    hold := false, nextAttempt := 1, misses := 0, identify := none, status := none } } }

/-- What the disabling of port `p` does after its exit (R33). -/
def Hub.stripped : Hub := { h with
  lnk := { h.lnk with remote := upd h.lnk.remote p fun r => { r with rtRange := false } }
  plm := upd h.plm p (PortLimiter.clear true)
  ulc := { h.ulc with gates := upd h.ulc.gates p fun _ => .replicate 4 .closed }
  lvm := { h.lvm with ports := upd h.lvm.ports p PortMeter.clear }
  sbl := { h.sbl with ports := upd h.sbl.ports p PortBalance.clear }
  fsv := { h.fsv with
    portRecords := upd h.fsv.portRecords p (mapTab (FaultRecord.resetTo true))
    detectors := h.fsv.detectors.set p.val .init p.isLt }
  cte := { h.cte with ports := upd h.cte.ports p fun c =>
    if (h.faultRecord (.port p .rauNoReply)).state = .idle then c else { c with hold := false, nextAttempt := 1 } } }

theorem newIdentify_unaligned {h : Hub} {p : PortId} (ha : (h.linkOf p).aligned = false) :
    h.newIdentify p = h.onCte p fun c => { c with hold := false, nextAttempt := 1 } := by
  unfold Hub.newIdentify
  rw [ha]
  simp only [Bool.or_false]

theorem enterDown_unaligned (c : LinkCore) : (c.enterDown.state).aligned = false := by
  unfold LinkCore.enterDown
  dsimp only
  split <;> rfl

theorem resetRecords_unaligned {h : Hub} {p : PortId} (ha : (h.linkOf p).aligned = false) (keep : Bool) :
    h.resetRecords p keep = { h with
      fsv := { h.fsv with
        portRecords := upd h.fsv.portRecords p (mapTab (FaultRecord.resetTo keep))
        detectors := h.fsv.detectors.set p.val .init p.isLt }
      cte := { h.cte with ports := upd h.cte.ports p fun c =>
        if (h.faultRecord (.port p .rauNoReply)).state = .idle then c else { c with hold := false, nextAttempt := 1 } } } := by
  unfold Hub.resetRecords
  dsimp only
  split
  · rw [upd_same (v := h.cte.ports) rfl]
  · refine (newIdentify_unaligned ?_).trans rfl
    exact ha

/-- A RAU_NO_REPLY record that was not IDLE adds nothing to the new identify sequence of an enabled port (R33, R155). -/
theorem startedCte_eq (b : Prop) [Decidable b] (c : PortCte) :
    (fun c : PortCte => { c with identify := none, status := none })
      ((fun c : PortCte => { c with hold := false, nextAttempt := 1 })
        ((fun c : PortCte => { c with misses := 0 }) (if b then c else { c with hold := false, nextAttempt := 1 }))) =
    { c with hold := false, nextAttempt := 1, misses := 0, identify := none, status := none } := by
  split <;> rfl

theorem enablePort_eq : h.enablePort p = (h.takePortDue p).started p := by
  unfold Hub.enablePort
  dsimp only
  generalize h.takePortDue p = d
  have hlink (k : Hub) (hk : k.lnk = { d.lnk with remote := upd d.lnk.remote p fun r =>
      { r.stopMeasuring with core := r.core.enterDown, mask := 0, rtRange := false } }) : (k.linkOf p).aligned = false := by
    unfold Hub.linkOf
    rw [hk]
    dsimp only
    rw [upd_get_same]
    exact enterDown_unaligned _
  rw [resetRecords_unaligned (hlink _ rfl), newIdentify_unaligned (hlink _ rfl)]
  unfold Hub.started Hub.clearRau
  dsimp only [Hub.onRemote, Hub.onPlm, Hub.onEq, Hub.closeGates, Hub.onGates, Hub.onMeter, Hub.onBal, Hub.onCte]
  rw [upd_upd, upd_upd, upd_upd]
  refine congrArg (fun v : Vector PortCte 24 => { d.started p with cte := { d.cte with ports := v } }) (upd_congr ?_)
  exact startedCte_eq _ _

/-- The port's way out of its state when it is disabled: the exit of R10 without LINK_LOSS where it is aligned. -/
def Hub.dropped : Hub :=
  if (h.linkOf p).aligned then h.exited p LinkCore.disable else h.onCore (.remote p) LinkCore.disable

theorem dropped_disabled : (h.dropped p).linkOf p = .disabled := by
  unfold Hub.dropped
  split
  · exact congrArg (fun r : RemoteLink => r.core.state) (upd_get_same ..)
  · exact congrArg (fun r : RemoteLink => r.core.state) (upd_get_same ..)

theorem disablePort_eq : h.disablePort p = ((h.takePortDue p).dropped p).stripped p := by
  have hexit (d : Hub) : (if (d.linkOf p).aligned then d.exitRemote p LinkCore.disable false
      else d.onCore (.remote p) LinkCore.disable) = d.dropped p := by
    unfold Hub.dropped
    rw [exitRemote_eq]
    rfl
  have hlink := dropped_disabled (h.takePortDue p) p
  unfold Hub.disablePort
  dsimp only
  rw [hexit]
  generalize (h.takePortDue p).dropped p = e at hlink
  have hunaligned (k : Hub) (hk : k.lnk = { e.lnk with remote := upd e.lnk.remote p fun r => { r with rtRange := false } }) :
      (k.linkOf p).aligned = false := by
    unfold Hub.linkOf at hlink ⊢
    rw [hk]
    dsimp only
    rw [upd_get_same]
    dsimp only
    rw [hlink]
    rfl
  rw [resetRecords_unaligned (hunaligned _ rfl)]
  rfl

end Port

section Touch
variable (h : Hub) (p : PortId)

theorem touches_started : h.Touches p (h.started p) where
  remote := offPort_upd p _ _
  plm := offPort_upd p _ _
  deq := offPort_upd p _ _
  gates := offPort_upd p _ _
  lvm := offPort_upd p _ _
  records := offPort_upd p _ _
  detectors := offPort_set p _ _
  cte := offPort_upd p _ _
  sbl := offPort_upd p _ _
  assign := (congrArg PortBalance.assign (upd_get_same ..)).trans rfl
  awake _ := by
    unfold Hub.isQuiet Hub.started
    dsimp only
    rw [upd_get_same]
    exact ⟨rfl, rfl⟩

theorem touches_stripped : h.Touches p (h.stripped p) where
  remote := offPort_upd p _ _
  plm := offPort_upd p _ _
  gates := offPort_upd p _ _
  lvm := offPort_upd p _ _
  records := offPort_upd p _ _
  detectors := offPort_set p _ _
  cte := offPort_upd p _ _
  sbl := offPort_upd p _ _
  assign := (congrArg PortBalance.assign (upd_get_same ..)).trans rfl
  awake _ := by
    unfold Hub.isQuiet Hub.stripped
    dsimp only
    rw [upd_get_same]
    exact ⟨rfl, rfl⟩

theorem decides_dropped : h.Decides p (h.dropped p) :=
  .ite _ (fun _ => decides_exited h p _) fun _ => decides_onRemote h p _

theorem touches_enablePort : h.Touches p (h.enablePort p) := by
  rw [enablePort_eq]
  exact (decides_takePortDue h p).toTouches.trans (touches_started _ p)

theorem touches_disablePort : h.Touches p (h.disablePort p) := by
  rw [disablePort_eq]
  exact ((decides_takePortDue h p).trans (decides_dropped _ p)).toTouches.trans (touches_stripped _ p)

theorem touches_portActivated (old : Tables) : h.Touches p (h.portActivated old p) := by
  unfold Hub.portActivated
  cases old.portOn p with
  | false =>
    cases h.tables.portOn p with
    | false => exact .same p h
    | true => exact touches_enablePort h p
  | true =>
    cases h.tables.portOn p with
    | false => exact touches_disablePort h p
    | true => exact { plm := offPort_upd p _ _ }

end Touch

end Sys2Proof.Machine
end

section
/-! What SITE, CARRIER and RESPONSE activations do (O41, R34 to R36, R107). -/

namespace Sys2Proof.Machine

/-! ## A restarted window (R95, R107) -/

/-- A port's meters at a restart of the window: what was running has ended, what was waiting begins (R95, R107). -/
def PortMeter.restarted (m : PortMeter) : PortMeter := { m with
  void := false
  loop := match m.loop with
    | .pending tag => .running tag
    | _ => .none
  meters := mapTab (fun x => { x with acc := 0, held := 0 }) m.meters }

/-- The answer to a loop test that a restart of the window ends (R107). -/
def Hub.restartAnswer (h : Hub) (p : PortId) : Option Response :=
  match h.lvm.ports[p].loop with
  | .running tag => some (badResponse tag .timeout 0 [0])
  | _ => none

theorem mapTab_mapTab {α β γ : Type} {n : Nat} (f : α → β) (g : β → γ) (v : Vector α n) :
    mapTab g (mapTab f v) = mapTab (g ∘ f) v := by
  ext i hi
  rw [mapTab_getElem, mapTab_getElem, mapTab_getElem]
  rfl

theorem dropWindow_dropWindow (m : PortMeter) : m.dropWindow.dropWindow = m.dropWindow := by
  unfold PortMeter.dropWindow
  dsimp only
  rw [mapTab_mapTab]
  rfl

theorem restarted_idle {m : PortMeter} (hr : m.loop.isRunning = false) :
    { m.dropWindow.startTest with void := false } = m.restarted := by
  have hdrop := dropWindow_dropWindow m
  have hloop : m.dropWindow.loop = m.loop := rfl
  unfold PortMeter.startTest PortMeter.restarted
  rw [hloop]
  cases hl : m.loop with
  | none =>
    dsimp only
    exact congrArg (fun l => { m.dropWindow with loop := l, void := false }) hl
  | pending tag =>
    dsimp only
    rw [hdrop]
    rfl
  | running tag =>
    rw [hl] at hr
    cases hr

theorem restarted_running {m : PortMeter} {tag : Byte} (hr : m.loop = .running tag) (v : Bool) :
    { ({ m.dropWindow with loop := .none, void := v } : PortMeter).dropWindow.startTest with void := false } =
      m.restarted := by
  have hidle := restarted_idle (m := { m.dropWindow with loop := .none, void := v }) rfl
  refine hidle.trans ?_
  unfold PortMeter.restarted PortMeter.dropWindow
  rw [hr]
  dsimp only
  rw [mapTab_mapTab]
  rfl

theorem restartPort_eq (h : Hub) (p : PortId) : h.restartPort p = { h with
    lvm := { h.lvm with ports := upd h.lvm.ports p PortMeter.restarted }
    mga := h.mga.given (h.restartAnswer p).toList } := by
  have hidle (hr : h.lvm.ports[p].loop.isRunning = false) :
      (h.onMeter p fun m => { m.dropWindow.startTest with void := false }) =
      { h with lvm := { h.lvm with ports := upd h.lvm.ports p PortMeter.restarted }, mga := h.mga.given [] } := by
    rw [Mga.given_nil]
    exact congrArg (fun v => { h with lvm := { h.lvm with ports := v } }) (upd_congr (v := h.lvm.ports) (i := p)
      (f := fun m => { m.dropWindow.startTest with void := false }) (g := PortMeter.restarted) (restarted_idle hr))
  unfold Hub.restartPort Hub.restartAnswer
  cases hl : h.lvm.ports[p].loop with
  | none => exact hidle (by rw [hl]; rfl)
  | pending tag => exact hidle (by rw [hl]; rfl)
  | running tag =>
    refine (congrArg (fun g : Hub => g.onMeter p fun m => { m.dropWindow.startTest with void := false })
      (loopAbort_eq h p false)).trans ?_
    unfold Hub.testAnswers
    rw [hl]
    dsimp only [Hub.onMeter]
    rw [upd_upd]
    refine congrArg (fun v => { h with
      lvm := { h.lvm with ports := v }, mga := h.mga.given [badResponse tag .timeout 0 [0]] }) (upd_congr ?_)
    rw [if_pos fun hn => by rw [hl] at hn; cases hn]
    exact restarted_running hl _

/-- The turns of the ports `pre` of a restart of the window. -/
def Hub.restartedAt (h : Hub) (pre : List PortId) : Hub := { h with
  lvm := { h.lvm with ports := tab fun p => if p ∈ pre then (h.lvm.ports[p]).restarted else h.lvm.ports[p] }
  mga := h.mga.given (pre.filterMap h.restartAnswer) }

theorem restartPort_restartedAt (h : Hub) {pre : List PortId} {p : PortId} (hp : p ∉ pre) :
    (h.restartedAt pre).restartPort p = h.restartedAt (pre ++ [p]) := by
  have hport : (h.restartedAt pre).lvm.ports[p] = h.lvm.ports[p] := (tab_get _ p).trans (if_neg hp)
  have hanswer : (h.restartedAt pre).restartAnswer p = h.restartAnswer p := by
    unfold Hub.restartAnswer
    rw [hport]
  have hfilter : (pre ++ [p]).filterMap h.restartAnswer = pre.filterMap h.restartAnswer ++ (h.restartAnswer p).toList := by
    rw [List.filterMap_append]
    cases ha : h.restartAnswer p <;> simp [ha]
  rw [restartPort_eq, hanswer]
  unfold Hub.restartedAt
  rw [hfilter, ← Mga.given_given]
  refine congrArg (fun v => { h with
    lvm := { h.lvm with ports := v }
    mga := (h.mga.given (pre.filterMap h.restartAnswer)).given (h.restartAnswer p).toList })
    (turn_tab (fun _ => PortMeter.restarted) h.lvm.ports hp)

theorem restartWindow_eq (h : Hub) : h.restartWindow = { h with
    lvm := { windowCount := 0, windowNumber := 0, ports := tab fun p => (h.lvm.ports[p]).restarted }
    mga := h.mga.given ((List.finRange 24).filterMap h.restartAnswer) } := by
  have hstart : h = h.restartedAt [] := by
    unfold Hub.restartedAt
    simp only [List.not_mem_nil, if_false, List.filterMap_nil]
    rw [tab_eta, Mga.given_nil]
  have hall : each Hub.restartPort h = h.restartedAt (List.finRange 24) :=
    each_prefix (P := fun pre g => g = h.restartedAt pre) h hstart fun pre p g hp hg =>
      (congrArg (Hub.restartPort p) hg).trans (restartPort_restartedAt h hp)
  unfold Hub.restartWindow
  rw [hall]
  unfold Hub.restartedAt
  simp only [List.mem_finRange, if_true]

/-- SITE_ACTIVATION_EFFECTS (R35). -/
theorem siteActivated_eq (h : Hub) (old : Tables) : h.siteActivated old = { h with
    mga := if old.windowCode ≠ h.tables.windowCode then h.mga.given ((List.finRange 24).filterMap h.restartAnswer) else h.mga
    lvm := if old.windowCode ≠ h.tables.windowCode then
      { windowCount := 0, windowNumber := 0, ports := tab fun p => (h.lvm.ports[p]).restarted } else h.lvm
    sbl := { h.sbl with intervalCount := if old.interval ≠ h.tables.interval then 0 else h.sbl.intervalCount }
    cte := { h.cte with pollCount := if old.pollInterval ≠ h.tables.pollInterval then 0 else h.cte.pollCount } } := by
  unfold Hub.siteActivated
  dsimp only
  rw [restartWindow_eq]
  by_cases hw : old.windowCode ≠ h.tables.windowCode
  · by_cases hi : old.interval ≠ h.tables.interval
    · by_cases hp : old.pollInterval ≠ h.tables.pollInterval
      · simp only [if_pos hw, if_pos hi, if_pos hp]
      · simp only [if_pos hw, if_pos hi, if_neg hp]
    · by_cases hp : old.pollInterval ≠ h.tables.pollInterval
      · simp only [if_pos hw, if_neg hi, if_pos hp]
      · simp only [if_pos hw, if_neg hi, if_neg hp]
  · by_cases hi : old.interval ≠ h.tables.interval
    · by_cases hp : old.pollInterval ≠ h.tables.pollInterval
      · simp only [if_neg hw, if_pos hi, if_pos hp]
      · simp only [if_neg hw, if_pos hi, if_neg hp]
    · by_cases hp : old.pollInterval ≠ h.tables.pollInterval
      · simp only [if_neg hw, if_neg hi, if_pos hp]
      · simp only [if_neg hw, if_neg hi, if_neg hp]

theorem restartAnswers_nil (h : Hub) : (List.finRange 24).filterMap h.restartAnswer = [] ↔
    ¬ ∃ p : PortId, h.lvm.ports[p].loop.isRunning = true := by
  rw [List.filterMap_eq_nil_iff, not_exists]
  refine ⟨fun hn p => ?_, fun hn p _ => ?_⟩
  all_goals
    have hp := hn p
    unfold Hub.restartAnswer at *
  · have hnone := hp (List.mem_finRange p)
    cases hl : h.lvm.ports[p].loop with
    | none => exact Bool.false_ne_true
    | pending tag => exact Bool.false_ne_true
    | running tag =>
      rw [hl] at hnone
      cases hnone
  · cases hl : h.lvm.ports[p].loop with
    | none => rfl
    | pending tag => rfl
    | running tag =>
      rw [hl] at hp
      exact absurd rfl hp

/-- The answers to the loop tests that a changed window code ends (R107). -/
theorem restart_given (h : Hub) (m : Mga) (anew : Prop) [Decidable anew]
    [Decidable (∃ p : PortId, anew ∧ h.lvm.ports[p].loop.isRunning = true)] :
    (if anew then m.given ((List.finRange 24).filterMap h.restartAnswer) else m) = { m with
      responses := m.responses ++ (List.finRange 24).filterMap fun p =>
        match h.lvm.ports[p].loop with
        | .running tag => if anew then some (badResponse tag .timeout 0 [0]) else none
        | _ => none
      busy := if ∃ p : PortId, anew ∧ h.lvm.ports[p].loop.isRunning = true then none else m.busy
      busyRipe := if ∃ p : PortId, anew ∧ h.lvm.ports[p].loop.isRunning = true then false else m.busyRipe } := by
  by_cases ha : anew
  · simp only [ha, true_and, if_true]
    unfold Mga.given
    simp only [restartAnswers_nil, ite_not]
    rfl
  · have hnone : ((List.finRange 24).filterMap fun p => match h.lvm.ports[p].loop with
        | .running tag => if anew then some (badResponse tag .timeout 0 [0]) else none
        | _ => none) = [] := List.filterMap_eq_nil_iff.mpr fun p _ => by
      cases h.lvm.ports[p].loop with
      | none => rfl
      | pending tag => rfl
      | running tag => exact if_neg ha
    rw [if_neg ha, hnone, List.append_nil, if_neg fun ⟨_, hp⟩ => ha hp.1, if_neg fun ⟨_, hp⟩ => ha hp.1]

end Sys2Proof.Machine
end

section
/-! What CARRIER and RESPONSE activations do (O41, R34, R36). -/

namespace Sys2Proof.Machine

theorem carrierStateNow_eq (h : Hub) (k : CarrierId) : h.carrierStateNow k =
    if h.tables.carrierOn k = false then .absent
    else if h.lnk.donor[carrierDonor k].state ≠ .up then .lost
    else if h.dlc.holds[h.tables.operator k] then .held else .active :=
  if_congr (by rw [Bool.not_eq_true']) rfl rfl

/-! ## RESPONSE (R36) -/

/-- A port of the engine whose RAU_NO_REPLY record is back in IDLE starts a new identify sequence (R36, R155). -/
def Hub.carryCte (h : Hub) (wasIdle : Vector Bool 24) (q : PortId) (c : PortCte) : PortCte :=
  if !wasIdle[q] ∧ (h.faultRecord (.port q .rauNoReply)).state = .idle then
    { c with hold := false, nextAttempt := 1, pending := c.pending || (h.linkOf q).aligned } else c

/-- An action that enters marks the move in flight (R36, R126). -/
def Hub.carryMove (h : Hub) (old : Vector ActionSet 24) (m : MoveRecord) : MoveRecord :=
  if m.ending = none ∧ ((h.actions m.entry.port).minus old[m.entry.port]).silences = true then
    { m with ending := some .action } else m

/-- The turns of the ports `pre` of a carry-over. -/
def Hub.carriedAt (h : Hub) (wasIdle : Vector Bool 24) (old : Vector ActionSet 24) (pre : List PortId) : Hub := { h with
  cte := { h.cte with
    ports := tab fun q => if q ∈ pre then h.carryCte wasIdle q h.cte.ports[q] else h.cte.ports[q] }
  sbl := { h.sbl with
    flight := h.sbl.flight.map fun m => if m.entry.port ∈ pre then h.carryMove old m else m } }

theorem portCarried_eq (h : Hub) (wasIdle : Vector Bool 24) (old : Vector ActionSet 24) (p : PortId) :
    h.portCarried wasIdle old p = { h with
      cte := { h.cte with ports := upd h.cte.ports p (h.carryCte wasIdle p) }
      sbl := { h.sbl with
        flight := h.sbl.flight.map fun m => if m.entry.port = p then h.carryMove old m else m } } := by
  have hidentify : (if !wasIdle[p] ∧ (h.faultRecord (.port p .rauNoReply)).state = .idle then h.newIdentify p else h) =
      h.onCte p (h.carryCte wasIdle p) := by
    by_cases hr : (!wasIdle[p]) = true ∧ (h.faultRecord (.port p .rauNoReply)).state = .idle
    · refine (if_pos hr).trans (congrArg (h.onCte p) (funext fun c => ?_))
      exact (if_pos hr).symm
    · have hid : h.carryCte wasIdle p = id := funext fun c => if_neg hr
      rw [if_neg hr, hid]
      unfold Hub.onCte
      rw [show upd h.cte.ports p id = h.cte.ports from upd_id ..]
  have hmove (m : MoveRecord) : (if m.entry.port = p then h.carryMove old m else m) =
      if ((h.actions p).minus old[p]).silences = true then
        (if m.entry.port = p ∧ m.ending = none then { m with ending := some .action } else m) else m := by
    by_cases hm : m.entry.port = p
    · subst hm
      unfold Hub.carryMove
      by_cases ha : ((h.actions m.entry.port).minus old[m.entry.port]).silences = true
      · simp only [ha, and_true, true_and, if_true]
      · simp only [ha, Bool.false_eq_true, and_false, if_false, if_true]
    · simp only [hm, false_and, if_false, ite_self]
  unfold Hub.portCarried
  dsimp only
  rw [hidentify]
  unfold Hub.actionsEntered
  have hactions : (h.onCte p (h.carryCte wasIdle p)).actions p = h.actions p := rfl
  rw [hactions, markMove_eq]
  simp only [hmove]
  by_cases ha : ((h.actions p).minus old[p]).silences = true
  · simp only [if_pos ha]
    rfl
  · simp only [if_neg ha, Option.map_id']
    rfl

theorem portCarried_carriedAt (h : Hub) (wasIdle : Vector Bool 24) (old : Vector ActionSet 24)
    {pre : List PortId} {p : PortId} (hp : p ∉ pre) :
    (h.carriedAt wasIdle old pre).portCarried wasIdle old p = h.carriedAt wasIdle old (pre ++ [p]) := by
  have hcte : (h.carriedAt wasIdle old pre).carryCte wasIdle p = h.carryCte wasIdle p := rfl
  have hcarry : (h.carriedAt wasIdle old pre).carryMove old = h.carryMove old := rfl
  have hmove (m : MoveRecord) : (h.carryMove old m).entry.port = m.entry.port := by
    unfold Hub.carryMove
    split <;> rfl
  have hflight : (fun m => if m.entry.port = p then h.carryMove old m else m) ∘
      (fun m => if m.entry.port ∈ pre then h.carryMove old m else m) =
      fun m => if m.entry.port ∈ pre ++ [p] then h.carryMove old m else m := funext fun m => by
    dsimp only [Function.comp]
    by_cases hm : m.entry.port ∈ pre
    · have hne : (h.carryMove old m).entry.port ≠ p := fun he => hp (he ▸ (hmove m).symm ▸ hm)
      simp only [if_pos hm, if_neg hne, if_pos (List.mem_append_left [p] hm)]
    · simp only [if_neg hm]
      exact if_congr (by rw [List.mem_append, List.mem_singleton, or_iff_right hm]) rfl rfl
  rw [portCarried_eq, hcte, hcarry]
  unfold Hub.carriedAt
  dsimp only
  rw [Option.map_map, hflight, turn_tab (h.carryCte wasIdle) h.cte.ports hp]

theorem carried_eq (h : Hub) (wasIdle : Vector Bool 24) (old : Vector ActionSet 24) :
    each (Hub.portCarried wasIdle old) h = { h with
      cte := { h.cte with ports := tab fun q => h.carryCte wasIdle q h.cte.ports[q] }
      sbl := { h.sbl with flight := h.sbl.flight.map (h.carryMove old) } } := by
  have hstart : h = h.carriedAt wasIdle old [] := by
    unfold Hub.carriedAt
    simp only [List.not_mem_nil, if_false, Option.map_id']
    rw [tab_eta]
  have hall : each (Hub.portCarried wasIdle old) h = h.carriedAt wasIdle old (List.finRange 24) :=
    each_prefix (P := fun pre g => g = h.carriedAt wasIdle old pre) h hstart fun pre p g hp hg =>
      (congrArg (Hub.portCarried wasIdle old p) hg).trans (portCarried_carriedAt h wasIdle old hp)
  rw [hall]
  unfold Hub.carriedAt
  simp only [List.mem_finRange, if_true]

/-- The fault records after a carry-over. -/
def Fsv.carried (f : Fsv) (t : Tables) : Fsv := { f with
  portRecords := mapTab (carryPort t) f.portRecords
  donorRecords := mapTab (FaultRecord.carryOver (t.responseMode 8)) f.donorRecords }

/-- RESPONSE_CARRY_OVER (R36). -/
theorem responseActivated_eq (h : Hub) (old : Vector ActionSet 24) :
    let g := { h with fsv := h.fsv.carried h.tables }
    let wasIdle := tab fun p : PortId => decide ((h.faultRecord (.port p .rauNoReply)).state = .idle)
    h.responseActivated old = { g with
      cte := { h.cte with ports := tab fun q => g.carryCte wasIdle q h.cte.ports[q] }
      sbl := { h.sbl with flight := h.sbl.flight.map (g.carryMove old) } } :=
  carried_eq _ _ _

theorem carried_record (h : Hub) (k : FaultKey) :
    ({ h with fsv := h.fsv.carried h.tables } : Hub).faultRecord k =
      (h.faultRecord k).carryOver (h.tables.responseMode k.row) := by
  cases k with
  | port p c =>
    have hport : (h.fsv.carried h.tables).portRecords[p] = carryPort h.tables h.fsv.portRecords[p] :=
      mapTab_get ..
    exact (congrArg (fun v : Vector FaultRecord 8 => v[c.idx]) hport).trans (tab_get _ c.idx)
  | donor d => exact mapTab_get ..

end Sys2Proof.Machine
end

section
/-! The membership rebuild of a SECTOR or PORT activation in SERVICE (O41, R32, R131). -/

namespace Sys2Proof.Machine

section Rebuild
variable (h : Hub)

/-- The end of the move in flight that a rebuild brings (R32, R127). -/
def Hub.flightEnds : List (MoveEntry × MoveOutcome) :=
  match h.sbl.flight with
  | some m => [(m.entry, .abandonedActivation)]
  | none => []

/-- The moves that a rebuild ends (R32, R127). -/
def Hub.rebuildEnds : List (MoveEntry × MoveOutcome) :=
  h.flightEnds ++ h.sbl.queue.map fun e => (e, .cancelledActivation)

/-- Port `p` may stay QUIET under the active tables (R131). -/
def Hub.mayQuiet (p : PortId) : Bool := h.tables.portOn p && h.tables.quietOn p

/-- A QUIET port wakes with cause TABLE (R131). -/
def Hub.tableWakes (p : PortId) : Bool := h.isQuiet p && !h.mayQuiet p

/-- The hub with no move in flight, and the port of the one that was at its source: `landed` but for the log (R127). -/
def Hub.flightless : Hub := { h with
  sbl := { h.sbl with
    flight := none
    ports := match h.sbl.flight with
      | some m => upd h.sbl.ports m.entry.port fun b => { b with assign := .one m.entry.source }
      | none => h.sbl.ports }
  bd := { h.bd with
    rampDue := if h.sbl.flight = none then h.bd.rampDue else false
    abandonDue := if h.sbl.flight = none then h.bd.abandonDue else false } }

theorem landed_logs : h.flightless.Logs h.landed h.flightEnds := by
  unfold Hub.landed Hub.flightless Hub.flightEnds
  cases hf : h.sbl.flight with
  | none =>
    have hsame : { h with sbl := { h.sbl with flight := none } } = h := by rw [← hf]
    exact (congrArg (fun g : Hub => g.Logs h []) hsame).mpr (logs_nil h)
  | some m => exact logs_logMove _ m.entry .abandonedActivation

theorem cancelled_logs (queue : List MoveEntry) :
    h.Logs (queue.foldl (fun g e => g.logMove e .cancelledActivation) h) (queue.map fun e => (e, .cancelledActivation)) := by
  induction queue generalizing h with
  | nil => exact logs_nil h
  | cons e queue ih => exact (logs_logMove h e .cancelledActivation).trans (ih _)

theorem Hub.Logs.emptied {h g : Hub} {xs : List (MoveEntry × MoveOutcome)} (x : h.Logs g xs) :
    Hub.Logs { h with sbl := { h.sbl with queue := [] } } { g with sbl := { g.sbl with queue := [] } } xs := by
  obtain ⟨hhub, hl, hm⟩ := x
  refine ⟨?_, hl, hm⟩
  rw [hhub]

theorem flightless_port (p : PortId) (f : PortBalance → PortBalance) (hf : ∀ b a, f { b with assign := a } = f b) :
    f h.flightless.sbl.ports[p] = f h.sbl.ports[p] := by
  unfold Hub.flightless
  cases h.sbl.flight with
  | none => rfl
  | some m =>
    dsimp only
    rw [upd_get]
    split
    · exact hf _ _
    · rfl

/-! ## QUIET ports that wake (R131) -/

/-- A port of the balancer that wakes with cause TABLE where it is QUIET and may not stay so (R131). -/
def Hub.tableWoken (p : PortId) (b : PortBalance) : PortBalance := { b with
  quiet := b.quiet && h.mayQuiet p
  quietDue := b.quietDue && h.mayQuiet p
  quietCount := if h.tableWakes p then 0 else b.quietCount
  wakeCause := if h.tableWakes p then .table else b.wakeCause }

theorem awake_stays {b : PortBalance} (hq : b.quiet = false) (hd : b.quietDue = false) (k : Bool) :
    { b with quiet := b.quiet && k, quietDue := b.quietDue && k } = b := by
  cases b
  dsimp only at hq hd ⊢
  rw [hq, hd, Bool.false_and]

theorem tableWake_eq (p : PortId) : (if h.tables.portOn p && h.tables.quietOn p then h else h.wakePort p .table) =
    { h with
      sbl := { h.sbl with ports := upd h.sbl.ports p (h.tableWoken p) }
      mga := if h.tableWakes p then h.mga.raised .quiet else h.mga } := by
  have hsame (hs : h.tableWoken p h.sbl.ports[p] = h.sbl.ports[p]) (hn : h.tableWakes p = false) :
      h = { h with
        sbl := { h.sbl with ports := upd h.sbl.ports p (h.tableWoken p) }
        mga := if h.tableWakes p then h.mga.raised .quiet else h.mga } := by
    rw [hn, if_neg Bool.false_ne_true, upd_same hs]
  cases hm : h.mayQuiet p with
  | true =>
    have hn : h.tableWakes p = false := by
      unfold Hub.tableWakes
      rw [hm]
      exact Bool.and_false _
    refine (if_pos hm).trans (hsame ?_ hn)
    unfold Hub.tableWoken
    rw [hm, hn, Bool.and_true, Bool.and_true]
    rfl
  | false =>
    have hw : h.tableWakes p = h.isQuiet p := by
      unfold Hub.tableWakes
      rw [hm]
      exact Bool.and_true _
    refine (if_neg (ne_true_of_eq_false hm)).trans ?_
    rw [wakePort_eq]
    cases hq : h.isQuiet p with
    | true =>
      have hwoken : h.tableWoken p = fun b =>
          { b with quiet := false, quietDue := false, quietCount := 0, wakeCause := .table } := funext fun b => by
        unfold Hub.tableWoken
        rw [hm, hw, hq, Bool.and_false, Bool.and_false]
        rfl
      rw [hw, hq, hwoken]
      rfl
    | false =>
      obtain ⟨hquiet, hdue⟩ := Bool.or_eq_false_iff.mp hq
      rw [if_neg Bool.false_ne_true]
      refine hsame ?_ (hw.trans hq)
      unfold Hub.tableWoken
      rw [hw, hq]
      exact awake_stays hquiet hdue _

/-- The ports `pre` have woken where they have to (R131). -/
def Hub.wokenAt (g : Hub) (pre : List PortId) : Prop :=
  g = { h with
    sbl := { h.sbl with
      ports := tab fun q => if q ∈ pre then h.tableWoken q h.sbl.ports[q] else h.sbl.ports[q] }
    mga := { h.mga with marks := g.mga.marks } }
  ∧ h.mga.marked g.mga fun n => n = .quiet ∧ ∃ q ∈ pre, h.tableWakes q = true

theorem tableWake_wokenAt {g : Hub} {pre : List PortId} {p : PortId} (hp : p ∉ pre) (hg : h.wokenAt g pre) :
    h.wokenAt (if g.tables.portOn p && g.tables.quietOn p then g else g.wakePort p .table) (pre ++ [p]) := by
  obtain ⟨hhub, hmarked⟩ := hg
  have htables : g.tables = h.tables := (congrArg Hub.tables hhub).trans rfl
  have hport : g.sbl.ports[p] = h.sbl.ports[p] := by
    rw [hhub]
    exact (tab_get _ p).trans (if_neg hp)
  have hwakes : g.tableWakes p = h.tableWakes p := by
    unfold Hub.tableWakes Hub.mayQuiet Hub.isQuiet
    rw [htables, hport]
  have hwoken : g.tableWoken p = h.tableWoken p := by
    unfold Hub.tableWoken Hub.mayQuiet
    rw [htables, hwakes]
  rw [tableWake_eq, hwakes, hwoken]
  constructor
  · rw [hhub]
    dsimp only
    rw [turn_tab h.tableWoken h.sbl.ports hp]
    cases h.tableWakes p <;> rfl
  · refine (hmarked.raise_if (h.tableWakes p) .quiet).congr fun n => ?_
    rw [← and_or_left]
    simp only [List.mem_append, List.mem_singleton, or_and_right, exists_or, exists_eq_left]

theorem tableWakes_all : ∃ g, g = each (fun p k => if k.tables.portOn p && k.tables.quietOn p then k else k.wakePort p .table) h
    ∧ h.wokenAt g (List.finRange 24) := by
  refine ⟨_, rfl, each_prefix (P := fun pre g => h.wokenAt g pre) h ⟨?_, ?_⟩ fun pre p g => tableWake_wokenAt h⟩
  · simp only [List.not_mem_nil, if_false]
    rw [tab_eta]
  · exact (Mga.marked.same rfl).congr fun n => by simp

/-! ## The whole rebuild -/

/-- A port of the balancer after a rebuild (R32, R131). -/
def Hub.rebuiltPort (p : PortId) : PortBalance := { h.sbl.ports[p] with
  assign := if h.tables.portOn p then .one (h.tables.home p) else .none
  holdOff := 0
  returns := 0
  quietCount := 0
  quiet := h.sbl.ports[p].quiet && h.mayQuiet p
  quietDue := h.sbl.ports[p].quietDue && h.mayQuiet p
  wakeCause := if h.tableWakes p then .table else h.sbl.ports[p].wakeCause }

/-- `g` is the rebuilt hub (R32). -/
structure Hub.Rebuilds (g : Hub) : Prop where
  hub : g = { h with
    sbl := { h.sbl with
      ports := tab h.rebuiltPort
      flight := none
      queue := []
      advice := []
      log := g.sbl.log
      logSequence := h.sbl.logSequence + BitVec.ofNat 32 h.rebuildEnds.length }
    mga := { h.mga with marks := g.mga.marks }
    bd := { h.bd with
      rampDue := if h.sbl.flight = none then h.bd.rampDue else false
      abandonDue := if h.sbl.flight = none then h.bd.abandonDue else false } }
  log : h.sbl.log.length ≤ 16 → g.sbl.log = logged h.sbl.log h.sbl.logSequence h.mga.seconds h.rebuildEnds
  marked : h.mga.marked g.mga fun n => n = .move ∧ h.rebuildEnds ≠ [] ∨ n = .quiet ∧ ∃ p, h.tableWakes p = true

/-- A port of the balancer placed at its home, its counts cleared (R32). -/
def Hub.homed (p : PortId) (b : PortBalance) : PortBalance := { b with
  assign := if h.tables.portOn p then .one (h.tables.home p) else .none
  holdOff := 0
  returns := 0
  quietCount := 0 }

/-- The membership placed at home, before QUIET ports wake (R32). -/
def Hub.placed : Hub :=
  let g := { h.landed with sbl := { h.landed.sbl with queue := [] } }
  let g := h.landed.sbl.queue.foldl (fun k e => k.logMove e .cancelledActivation) g
  { g with sbl := { g.sbl with advice := [], ports := tab fun p => g.homed p g.sbl.ports[p] } }

theorem rebuild_placed : h.rebuild =
    each (fun p k => if k.tables.portOn p && k.tables.quietOn p then k else k.wakePort p .table) h.placed := by
  unfold Hub.rebuild Hub.placed
  dsimp only
  have hplace (g : Hub) : each Hub.placeHome g = _ := each_onBal (f := fun g p b =>
    { b with assign := if g.tables.portOn p then .one (g.tables.home p) else .none }) (fun _ _ => rfl) g
  rw [hplace, each_onBal (f := fun _ _ b => { b with holdOff := 0, returns := 0, quietCount := 0 }) (fun _ _ => rfl)]
  simp only [tab_get]
  rfl

/-- The hub before QUIET ports wake: no move is left, and every port is at its place (R32). -/
theorem placed_eq : ∃ k : Hub, h.placed = { h with
      sbl := { h.sbl with
        ports := tab fun p => h.homed p h.sbl.ports[p]
        flight := none
        queue := []
        advice := []
        log := k.sbl.log
        logSequence := h.sbl.logSequence + BitVec.ofNat 32 h.rebuildEnds.length }
      mga := { h.mga with marks := k.mga.marks }
      bd := h.flightless.bd }
    ∧ (h.sbl.log.length ≤ 16 → k.sbl.log = logged h.sbl.log h.sbl.logSequence h.mga.seconds h.rebuildEnds)
    ∧ h.mga.marked k.mga fun n => n = .move ∧ h.rebuildEnds ≠ [] := by
  have hlanded := landed_logs h
  have hqueue : h.landed.sbl.queue = h.sbl.queue := by
    rw [hlanded.hub]
    rfl
  obtain ⟨k, hk⟩ : ∃ k, k = h.landed.sbl.queue.foldl (fun k e => k.logMove e .cancelledActivation)
    { h.landed with sbl := { h.landed.sbl with queue := [] } } := ⟨_, rfl⟩
  have hlogs : Hub.Logs { h.flightless with sbl := { h.flightless.sbl with queue := [] } } k h.rebuildEnds := by
    rw [hk, hqueue]
    exact hlanded.emptied.trans (cancelled_logs _ _)
  obtain ⟨hhub, hlog, hmarked⟩ := hlogs
  refine ⟨k, ?_, hlog, hmarked⟩
  have hports : (fun p => h.homed p h.flightless.sbl.ports[p]) = fun p => h.homed p h.sbl.ports[p] := funext fun p =>
    flightless_port h p (h.homed p) fun _ _ => rfl
  unfold Hub.placed
  dsimp only
  rw [← hk]
  refine (congrArg (fun k : Hub => { k with sbl := { k.sbl with
    advice := [], ports := tab fun p => k.homed p k.sbl.ports[p] } }) hhub).trans ?_
  exact congrArg (fun f => { h with
      sbl := { h.sbl with
        ports := tab f
        flight := none
        queue := []
        advice := []
        log := k.sbl.log
        logSequence := h.sbl.logSequence + BitVec.ofNat 32 h.rebuildEnds.length }
      mga := { h.mga with marks := k.mga.marks }
      bd := h.flightless.bd }) hports

theorem rebuild_rebuilds : h.Rebuilds h.rebuild := by
  obtain ⟨k, hplaced, hlog, hmoves⟩ := placed_eq h
  obtain ⟨g, hg, hhub, hquiets⟩ := tableWakes_all h.placed
  rw [rebuild_placed, ← hg]
  have hport (p : PortId) : h.placed.sbl.ports[p] = h.homed p h.sbl.ports[p] := by
    rw [hplaced]
    exact tab_get _ p
  have hmay (p : PortId) : h.placed.mayQuiet p = h.mayQuiet p := by
    rw [hplaced]
    rfl
  have hwakes (p : PortId) : h.placed.tableWakes p = h.tableWakes p := by
    unfold Hub.tableWakes Hub.isQuiet
    rw [hmay, hport]
    rfl
  have hwoken : (fun p => if p ∈ List.finRange 24 then h.placed.tableWoken p h.placed.sbl.ports[p] else
      h.placed.sbl.ports[p]) = h.rebuiltPort := funext fun p => by
    rw [if_pos (List.mem_finRange p), hport]
    unfold Hub.tableWoken Hub.rebuiltPort
    rw [hmay, hwakes]
    unfold Hub.homed
    dsimp only
    rw [ite_self]
  rw [hwoken] at hhub
  have hsbl : g.sbl.log = k.sbl.log := by
    rw [hhub, hplaced]
  refine ⟨?_, fun hl => hsbl.trans (hlog hl), ?_⟩
  · rw [hsbl]
    refine hhub.trans ?_
    rw [hplaced]
    rfl
  · have hmga : k.mga.marks = h.placed.mga.marks := by rw [hplaced]
    refine ((show h.mga.marked h.placed.mga _ from fun n => hmga ▸ hmoves n).trans hquiets).congr fun n => ?_
    simp only [List.mem_finRange, true_and, hwakes]

end Rebuild

end Sys2Proof.Machine
end

section
/-! What a boundary has decided of a port before a PORT activation ends it (O41, R5, R10, R33). -/

namespace Sys2Proof.Machine

/-! ## The frame of the boundary -/

/-- `g` is `h` after the frame of the boundary of port `p`: an aligned or an UP port is so still, its loop test stands, and
nothing counts as a loss of its link. -/
structure Hub.Readies (p : PortId) (h g : Hub) : Prop where
  lvm : g.lvm = h.lvm := by rfl
  up : h.isUp p = true → g.isUp p = true := by exact id
  aligned : (h.linkOf p).aligned = true → (g.linkOf p).aligned = true := by exact id
  drops : g.lnk.remote[p].core.drops = h.lnk.remote[p].core.drops := by rfl
  losses : (g.faultRecord (.port p .linkLoss)).occurrences = (h.faultRecord (.port p .linkLoss)).occurrences := by rfl

section Steps
variable {p : PortId} {h g k : Hub}

theorem Hub.Readies.same (p : PortId) (h : Hub) : h.Readies p h where

theorem Hub.Readies.trans (x : h.Readies p g) (y : g.Readies p k) : h.Readies p k where
  lvm := y.lvm.trans x.lvm
  up := y.up ∘ x.up
  aligned := y.aligned ∘ x.aligned
  drops := y.drops.trans x.drops
  losses := y.losses.trans x.losses

theorem Hub.Readies.ite (c : Prop) [Decidable c] (x : c → h.Readies p g) (y : ¬ c → h.Readies p k) :
    h.Readies p (if c then g else k) := by
  split
  next hc => exact x hc
  next hc => exact y hc

/-- Steps that leave the links, the meters and the record of LINK_LOSS. -/
theorem readies_of_keepsLoss (x : h.keepsLoss p g) (hl : g.lvm = h.lvm) : h.Readies p g where
  lvm := hl
  up hu := by
    unfold Hub.isUp Hub.linkOf
    rw [x.1]
    exact hu
  aligned ha := by
    unfold Hub.linkOf
    rw [x.1]
    exact ha
  drops := by rw [x.1]
  losses := congrArg FaultRecord.occurrences x.2

/-- Steps of the boundary's frame that leave the port's core and the record of LINK_LOSS. -/
theorem readies_of_core (hc : g.lnk.remote[p].core = h.lnk.remote[p].core) (hl : g.lvm = h.lvm)
    (hr : (g.faultRecord (.port p .linkLoss)).occurrences = (h.faultRecord (.port p .linkLoss)).occurrences) :
    h.Readies p g where
  lvm := hl
  up hu := by
    unfold Hub.isUp Hub.linkOf
    rw [hc]
    exact hu
  aligned ha := by
    unfold Hub.linkOf
    rw [hc]
    exact ha
  drops := by rw [hc]
  losses := hr

/-- A port that aligns at the boundary has taken one frame, and its count of bad markers has started at 0 (R4). -/
theorem readies_linkAligned (h : Hub) (p : PortId) : h.Readies p (h.linkAligned (.remote p))
    ∧ ((h.linkOf p).aligned = false → ((h.linkAligned (.remote p)).linkOf p).aligned = true →
      ((h.linkAligned (.remote p)).lnk.remote[p]).core.bad ≤ 1) := by
  by_cases hn : (h.core (.remote p)).state = .hunt ∧ 4 ≤ (h.core (.remote p)).good ∧ (h.core (.remote p)).arrival ≠ none
  · obtain ⟨hs, hg, harr⟩ := hn
    obtain ⟨a, ha⟩ := Option.ne_none_iff_exists'.mp harr
    have hhunt : h.linkOf p = .hunt := hs
    have hcore := deliver_core (h.enterAligned (.remote p)) (.remote p) a
    rw [← linkAligned_eq hs hg ha] at hcore
    have henter : (h.enterAligned (.remote p)).core (.remote p) =
        { h.lnk.remote[p].core with state := .proving, bad := 0 } := by
      rw [enterAligned_remote]
      exact congrArg RemoteLink.core (upd_get_same ..)
    rw [henter] at hcore
    have hremote : ((h.linkAligned (.remote p)).lnk.remote[p]).core = _ := hcore
    refine ⟨⟨?_, fun hu => ?_, fun hal => ?_, ?_, ?_⟩, fun _ _ => ?_⟩
    · rw [linkAligned_eq hs hg ha, deliver_remote, enterAligned_remote]
    · unfold Hub.isUp at hu
      rw [hhunt] at hu
      cases hu
    · rw [hhunt] at hal
      cases hal
    · rw [hremote]
      rfl
    · rw [linkAligned_eq hs hg ha, deliver_remote, enterAligned_remote]
      rfl
    · rw [hremote]
      unfold LinkCore.delivered
      dsimp only
      split <;> decide
  · rw [linkAligned_of_not hn]
    refine ⟨.same p h, fun ha hc => ?_⟩
    rw [ha] at hc
    cases hc

theorem readies_measurementDone (h : Hub) (p : PortId) : h.Readies p (h.measurementDone p)
    ∧ (h.measurementDone p).fsv = h.fsv := by
  obtain ⟨-, -, hcore, -⟩ := measurementDone_keeps h p
  have hrest : (h.measurementDone p).lvm = h.lvm ∧ (h.measurementDone p).fsv = h.fsv := by
    unfold Hub.measurementDone
    dsimp only
    split
    · generalize h.lnk.remote[p].meas.minimum.getD (0, false) = x
      obtain ⟨g, hg⟩ : ∃ g, g = h.onRemote p fun r => { r with lastRT := x.1, delay := (x.1 + 1) / 2, rtRange := x.2 } :=
        ⟨_, rfl⟩
      have hl : g.lvm = h.lvm ∧ g.fsv = h.fsv := by
        rw [hg]
        exact ⟨rfl, rfl⟩
      rw [← hg]
      cases ho : g.lnk.remote[p].meas.origin with
      | entry =>
        rw [endMeasurement_entry ho]
        exact hl
      | request tag =>
        rw [endMeasurement_request ho]
        exact hl
    · exact ⟨rfl, rfl⟩
  refine ⟨readies_of_core hcore hrest.1 ?_, hrest.2⟩
  unfold Hub.faultRecord
  dsimp only
  rw [hrest.2]

theorem readies_answerTransaction (h : Hub) (p q : PortId) (fill : PortCte → PortCte) :
    h.Readies p ((h.answerTransaction q).onCte q fill) := by
  obtain ⟨f, he, hrec, -⟩ := answerTransaction_blocks h q fill
  rw [he]
  refine readies_of_keepsLoss ⟨rfl, ?_⟩ rfl
  exact (hrec _).trans (if_neg fun heq => PortClass.noConfusion (FaultKey.port.inj heq).2)

theorem readies_identifyReply (h : Hub) (p : PortId) : h.Readies p h.identifyReply := by
  by_cases hn : ∃ x f, h.cte.transaction = some x ∧ x.kind = .identify ∧ h.replyOf x = some f
  · obtain ⟨x, f, hx, hk, hf⟩ := hn
    rw [identifyReply_eq hx hk hf]
    have hans := readies_answerTransaction h p x.port fun c =>
      { c with nextAttempt := 1, identify := some (identifyFields f) }
    refine hans.trans ?_
    generalize (h.answerTransaction x.port).onCte x.port _ = g
    obtain ⟨v, he, hrec, -⟩ := goodIdentify_blocks g x.port (identifyFields f).mask
    rw [he]
    have hstate : ∃ st, (g.identified x.port (identifyFields f).mask).lnk.remote[p].core =
        { g.lnk.remote[p].core with state := st } ∧ (st = g.linkOf p ∨ g.linkOf p = .proving ∧ st = .up) := by
      unfold Hub.identified
      dsimp only
      rw [upd_get]
      split
      case isTrue hp =>
        subst hp
        refine ⟨_, rfl, ?_⟩
        split
        case isTrue hprove => exact .inr ⟨hprove, rfl⟩
        case isFalse => exact .inl rfl
      case isFalse => exact ⟨_, rfl, .inl rfl⟩
    obtain ⟨st, hcore, hst⟩ := hstate
    have hlink : (g.identified x.port (identifyFields f).mask).linkOf p = st := congrArg LinkCore.state hcore
    have hlinkv : ({ g.identified x.port (identifyFields f).mask with fsv := v } : Hub).linkOf p = st := hlink
    refine ⟨rfl, fun hu => ?_, fun ha => ?_, ?_, ?_⟩
    · unfold Hub.isUp at hu ⊢
      rw [hlinkv]
      rcases hst with rfl | ⟨-, rfl⟩
      · exact hu
      · rfl
    · rw [hlinkv]
      rcases hst with rfl | ⟨-, rfl⟩
      · exact ha
      · rfl
    · exact (congrArg LinkCore.drops hcore).trans rfl
    · refine (congrArg FaultRecord.occurrences (hrec (.port p .linkLoss))).trans ?_
      split
      · rfl
      · rfl
  · rw [identifyReply_of_not hn]
    exact .same p h

theorem readies_statusReply (h : Hub) (p : PortId) : h.Readies p h.statusReply := by
  by_cases hn : ∃ x f, h.cte.transaction = some x ∧ x.kind = .status ∧ h.replyOf x = some f
  · obtain ⟨x, f, hx, hk, hf⟩ := hn
    rw [statusReply_eq hx hk hf]
    have hans := readies_answerTransaction h p x.port fun c =>
      { c with status := some (statusFields f h.mga.seconds) }
    refine hans.trans ?_
    generalize (h.answerTransaction x.port).onCte x.port _ = g
    refine .ite _ (fun _ => ?_) fun _ => ?_
    · obtain ⟨v, b, m, he, ⟨hrec, -⟩, -⟩ := present_blocks g x.port .rauAlarm
      rw [he]
      refine readies_of_keepsLoss ⟨rfl, ?_⟩ rfl
      exact (hrec _).trans (if_neg fun heq => PortClass.noConfusion (FaultKey.port.inj heq).2)
    · obtain ⟨v, he, hrec, -⟩ := clear_blocks g (.port x.port .rauAlarm)
      rw [he]
      refine readies_of_keepsLoss ⟨rfl, ?_⟩ rfl
      exact (hrec _).trans (if_neg fun heq => PortClass.noConfusion (FaultKey.port.inj heq).2)
  · rw [statusReply_of_not hn]
    exact .same p h

theorem readies_takeDue (h : Hub) (p : PortId) : h.Readies p (h.takeDue p) := by
  unfold Hub.takeDue
  dsimp only
  refine (readies_linkAligned h p).1.trans (.ite _ (fun _ => ?_) fun _ => .same p _)
  refine (readies_measurementDone _ p).1.trans (.ite _ (fun _ => ?_) fun _ => .same p _)
  exact (readies_identifyReply _ p).trans (readies_statusReply _ p)

end Steps

end Sys2Proof.Machine
end

section
/-! The end of a port that a PORT activation disables (O41, R5, R10, R33). -/

namespace Sys2Proof.Machine

section Disable
variable {p : PortId} {h g k : Hub}

/-- A port that has just aligned has no eight bad markers (R4, R5). -/
theorem takeDue_just_aligned (ha : (h.linkOf p).aligned = false) (hc : ((h.takeDue p).linkOf p).aligned = true) :
    ((h.takeDue p).lnk.remote[p]).core.bad ≤ 1 := by
  obtain ⟨-, hbad⟩ := readies_linkAligned h p
  by_cases hb : ((h.linkAligned (.remote p)).linkOf p).aligned = true
  · have htake : h.takeDue p = (h.linkAligned (.remote p)).takeDue p := by
      rw [takeDue_of_aligned hb]
      unfold Hub.takeDue
      exact if_pos hb
    rw [htake, takeDue_bad hb]
    exact hbad ha hb
  · have htake : h.takeDue p = h.linkAligned (.remote p) := by
      unfold Hub.takeDue
      exact if_neg hb
    rw [htake] at hc
    exact absurd hc hb

/-- The port's exit is due by its eighth bad marker (R5). -/
def Hub.loses (h : Hub) (p : PortId) : Prop := (h.linkOf p).aligned = true ∧ 8 ≤ h.lnk.remote[p].core.bad

theorem takePortDue_stays (hn : ¬ h.loses p) : h.takePortDue p = ((h.takeDue p).presentDue p).overdriveDue p := by
  unfold Hub.takePortDue
  rw [alignmentLost_of_not (l := .remote p)]
  rintro ⟨hc, hb⟩
  by_cases ha : (h.linkOf p).aligned = true
  · exact hn ⟨ha, (takeDue_bad ha).symm ▸ hb⟩
  · have hle := takeDue_just_aligned (Bool.eq_false_iff.mpr ha) hc
    exact absurd (Nat.le_trans hb hle) (by decide)

theorem takePortDue_leaves (hl : h.loses p) : h.takePortDue p =
    (((((h.takeDue p).takeDue p).exited p fun c => c.enterHunt.countDrop).present (.port p .linkLoss)).presentDue p).overdriveDue p := by
  unfold Hub.takePortDue
  rw [alignmentLost_remote (h.takeDue p) p (takeDue_aligned hl.1) ((takeDue_bad hl.1).symm ▸ hl.2)]

/-! ## The exit (R10) -/

/-- `g` is `h` with the aligned port `p` gone from the engine and the downlink, and its loop test answered where it was UP
(R10, R19, R107, R156). -/
structure Hub.Leaves (p : PortId) (h g : Hub) : Prop where
  mask : g.lnk.remote[p].mask = 0
  meas : g.lnk.remote[p].meas.running = false
  combining : g.dlc.combining[p] = false
  pending : g.cte.ports[p].pending = false
  transaction : ∀ x : Transaction, g.cte.transaction = some x → x.port ≠ p
  loop : h.isUp p = true → g.lvm.ports[p].loop = .none
  marked : h.isUp p = true → g.mga.marks[Notice.link.idx] = true
  answered : h.isUp p = true → ∀ tag : Byte, h.lvm.ports[p].loop = .pending tag ∨ h.lvm.ports[p].loop = .running tag →
    badResponse tag .timeout 0 [0] ∈ g.mga.responses ∧ g.mga.busy = none

theorem testAnswer_mem {tag : Byte} (hu : h.isUp p = true)
    (hl : h.lvm.ports[p].loop = .pending tag ∨ h.lvm.ports[p].loop = .running tag) :
    badResponse tag .timeout 0 [0] ∈ h.exitAnswers p := by
  rw [exitAnswers_eq, if_pos hu]
  refine List.mem_append_right _ ?_
  unfold Hub.testAnswers
  rcases hl with hl | hl
  · rw [hl]
    exact List.mem_singleton_self _
  · rw [hl]
    exact List.mem_singleton_self _

theorem leaves_exited (h : Hub) (p : PortId) (leave : LinkCore → LinkCore) : h.Leaves p (h.exited p leave) := by
  have hremote : (h.exited p leave).lnk.remote[p] = _ := upd_get_same ..
  have hcte : (h.exited p leave).cte.ports[p] = _ := upd_get_same ..
  have hmga := exited_mga h p leave
  refine ⟨?_, ?_, ?_, ?_, fun x hx => ?_, fun hu => ?_, fun hu => ?_, fun hu tag hl => ?_⟩
  · rw [hremote]
  · rw [hremote]
  · exact Vector.getElem_set_self ..
  · rw [hcte]
  · have htransaction : (h.exited p leave).cte.transaction = _ := transaction_of_others h p
    rw [htransaction, Option.filter_eq_some_iff] at hx
    exact of_decide_eq_true hx.2
  · unfold Hub.exited
    dsimp only
    rw [upd_get_same, hu]
    by_cases hl : h.lvm.ports[p].loop = .none
    · rw [if_neg fun hn => hn.2 hl]
      exact hl
    · rw [if_pos ⟨rfl, hl⟩]
  · exact (exited_marked h p leave .link).mpr (.inr (.inl ⟨rfl, hu⟩))
  · have hmem := testAnswer_mem hu hl
    have hne : h.exitAnswers p ≠ [] := List.ne_nil_of_mem hmem
    rw [hmga]
    exact ⟨List.mem_append_right _ hmem, if_neg hne⟩

theorem Hub.Leaves.ready (x : g.Leaves p k) (y : h.Readies p g) : h.Leaves p k where
  mask := x.mask
  meas := x.meas
  combining := x.combining
  pending := x.pending
  transaction := x.transaction
  loop := x.loop ∘ y.up
  marked := x.marked ∘ y.up
  answered hu tag hl := x.answered (y.up hu) tag (by rw [y.lvm]; exact hl)

theorem Hub.Leaves.detects (x : h.Leaves p g) (y : g.Detects p k) : h.Leaves p k where
  mask := y.lnk ▸ x.mask
  meas := y.lnk ▸ x.meas
  combining := y.dlc ▸ x.combining
  pending := y.cteSame ▸ x.pending
  transaction := y.cteSame ▸ x.transaction
  loop := y.lvmSame ▸ x.loop
  marked hu := y.marks .link (x.marked hu)
  answered hu tag hl := by
    obtain ⟨hmem, hbusy⟩ := x.answered hu tag hl
    rw [y.answers]
    exact ⟨hmem, hbusy⟩

theorem Hub.Leaves.onCore (x : h.Leaves p g) (f : LinkCore → LinkCore) : h.Leaves p (g.onCore (.remote p) f) where
  mask := (congrArg RemoteLink.mask (upd_get_same ..)).trans x.mask
  meas := (congrArg (fun r : RemoteLink => r.meas.running) (upd_get_same ..)).trans x.meas
  combining := x.combining
  pending := x.pending
  transaction := x.transaction
  loop := x.loop
  marked := x.marked
  answered := x.answered

theorem Hub.Leaves.stripped (x : h.Leaves p g) : h.Leaves p (g.stripped p) where
  mask := (congrArg RemoteLink.mask (upd_get_same ..)).trans x.mask
  meas := (congrArg (fun r : RemoteLink => r.meas.running) (upd_get_same ..)).trans x.meas
  combining := x.combining
  pending := by
    refine (congrArg PortCte.pending (upd_get_same ..)).trans ?_
    split
    · exact x.pending
    · exact x.pending
  transaction := x.transaction
  loop hu := (congrArg PortMeter.loop (upd_get_same ..)).trans (x.loop hu)
  marked := x.marked
  answered := x.answered

theorem Hub.Leaves.apart (x : h.Leaves p g) (y : g.Apart p k) : h.Leaves p k where
  mask := y.remote ▸ x.mask
  meas := y.remote ▸ x.meas
  combining := y.combining ▸ x.combining
  pending := y.cte ▸ x.pending
  transaction t ht := x.transaction t (y.transaction t ht)
  loop hu := y.lvm ▸ x.loop hu
  marked hu := y.marks .link (x.marked hu)
  answered hu tag hl := by
    obtain ⟨hmem, hbusy⟩ := x.answered hu tag hl
    obtain ⟨rs, hrs⟩ := y.responses
    rw [hrs]
    exact ⟨List.mem_append_left _ hmem, y.busy hbusy⟩

theorem linkOf_detects (x : h.Detects p g) : g.linkOf p = h.linkOf p := by
  unfold Hub.linkOf
  rw [x.lnk]

/-- An aligned port that is disabled takes its exit, by its eighth bad marker or by the activation (R5, R10, R33). -/
theorem leaves_disablePort (ha : (h.linkOf p).aligned = true) : h.Leaves p (h.disablePort p) := by
  rw [disablePort_eq]
  refine Hub.Leaves.stripped ?_
  have hready := readies_takeDue h p
  by_cases hl : h.loses p
  · have hdue : h.Leaves p (h.takePortDue p) := by
      rw [takePortDue_leaves hl]
      refine Hub.Leaves.ready ?_ (hready.trans (readies_takeDue _ p))
      generalize (h.takeDue p).takeDue p = a
      have hdetects := (detects_present (a.exited p fun c => c.enterHunt.countDrop) p .linkLoss).trans
        ((detects_presentDue _ p).trans (detects_overdriveDue _ p))
      exact (leaves_exited a p _).detects hdetects
    have hhunt := (takePortDue_lost ha hl.2).1
    unfold Hub.dropped
    rw [hhunt, if_neg (by decide)]
    exact hdue.onCore _
  · rw [takePortDue_stays hl]
    generalize h.takeDue p = a at hready
    have hdetects := (detects_presentDue a p).trans (detects_overdriveDue _ p)
    generalize (a.presentDue p).overdriveDue p = d at hdetects
    have hd : (d.linkOf p).aligned = true := by
      rw [linkOf_detects hdetects]
      exact hready.aligned ha
    unfold Hub.dropped
    rw [if_pos hd]
    refine Hub.Leaves.ready ?_ hready
    have hexit := leaves_exited d p LinkCore.disable
    have hup : d.isUp p = a.isUp p := by
      unfold Hub.isUp
      rw [linkOf_detects hdetects]
    have hlvm : d.lvm = a.lvm := hdetects.lvmSame
    exact ⟨hexit.mask, hexit.meas, hexit.combining, hexit.pending, hexit.transaction, hup ▸ hexit.loop,
      hup ▸ hexit.marked, hup ▸ hlvm ▸ hexit.answered⟩

/-! ## The drop count and LINK_LOSS (R13, R33) -/

/-- `g` is `h` with the drop count and the occurrences of LINK_LOSS of port `p` standing. -/
def Hub.countsStand (p : PortId) (h g : Hub) : Prop :=
  g.lnk.remote[p].core.drops = h.lnk.remote[p].core.drops
  ∧ (g.faultRecord (.port p .linkLoss)).occurrences = (h.faultRecord (.port p .linkLoss)).occurrences

theorem countsStand_keeps (x : h.keepsLoss p g) : h.countsStand p g :=
  ⟨by rw [x.1], congrArg FaultRecord.occurrences x.2⟩

theorem stripped_record (h : Hub) (p : PortId) (c : PortClass) :
    (h.stripped p).faultRecord (.port p c) = (h.faultRecord (.port p c)).resetTo true := by
  have hown : (h.stripped p).fsv.portRecords[p] = mapTab (FaultRecord.resetTo true) h.fsv.portRecords[p] := upd_get_same ..
  exact (congrArg (fun v : Vector FaultRecord 8 => v[c.idx]) hown).trans (mapTab_get ..)

theorem countsStand_end (h : Hub) (p : PortId) : h.countsStand p ((h.dropped p).stripped p) := by
  have hdrop : (h.dropped p).lnk.remote[p].core.drops = h.lnk.remote[p].core.drops ∧ (h.dropped p).fsv = h.fsv := by
    unfold Hub.dropped
    split
    · exact ⟨(congrArg (fun r : RemoteLink => r.core.drops) (upd_get_same ..)).trans rfl, rfl⟩
    · exact ⟨(congrArg (fun r : RemoteLink => r.core.drops) (upd_get_same ..)).trans rfl, rfl⟩
  constructor
  · exact (congrArg (fun r : RemoteLink => r.core.drops) (upd_get_same ..)).trans hdrop.1
  · rw [stripped_record]
    unfold Hub.faultRecord
    dsimp only
    rw [hdrop.2]
    rfl

theorem countsStand_disablePort (hn : ¬ h.loses p) : h.countsStand p (h.disablePort p) := by
  have hready := readies_takeDue h p
  have hkeeps := countsStand_keeps ((keepsLoss_presentDue (h.takeDue p) p).trans (keepsLoss_overdriveDue _ p))
  have hend := countsStand_end (h.takePortDue p) p
  rw [← disablePort_eq, takePortDue_stays hn] at hend
  exact ⟨hend.1.trans (hkeeps.1.trans hready.drops), hend.2.trans (hkeeps.2.trans hready.losses)⟩

/-- The frame of a port that has handed no control field on answers no transaction (R154). -/
theorem takeDue_no_field (ha : (h.linkOf p).aligned = true) (hf : h.cte.ports[p].field = none) :
    h.takeDue p = h.measurementDone p := by
  rw [takeDue_of_aligned ha]
  obtain ⟨hcte, -⟩ := measurementDone_keeps h p
  generalize h.measurementDone p = g at hcte
  dsimp only
  split
  case isFalse => rfl
  case isTrue hfly =>
    exact replies_of_no_field hfly (hcte ▸ hf)

/-- The eighth bad marker counts a drop and presents LINK_LOSS (R5, R10, R13). -/
theorem loses_disablePort (hl : h.loses p) :
    (h.disablePort p).lnk.remote[p].core.drops = min (h.lnk.remote[p].core.drops + 1) (2 ^ 32 - 1)
    ∧ (h.cte.ports[p].field = none → ((h.disablePort p).faultRecord (.port p .linkLoss)).occurrences =
        ((h.faultRecord (.port p .linkLoss)).presented h.tables (FaultKey.port p .linkLoss).row).occurrences) := by
  have hready := (readies_takeDue h p).trans (readies_takeDue _ p)
  have hend := countsStand_end (h.takePortDue p) p
  rw [← disablePort_eq, takePortDue_leaves hl] at hend
  obtain ⟨a, hA⟩ : ∃ a, a = (h.takeDue p).takeDue p := ⟨_, rfl⟩
  rw [← hA] at hready hend
  obtain ⟨e, he⟩ : ∃ e, e = a.exited p fun c => c.enterHunt.countDrop := ⟨_, rfl⟩
  rw [← he] at hend
  have hkeeps := countsStand_keeps ((keepsLoss_presentDue (e.present (.port p .linkLoss)) p).trans (keepsLoss_overdriveDue _ p))
  have hcore : e.lnk.remote[p].core.drops = sat32 a.lnk.remote[p].core.drops 1 := by
    rw [he]
    exact congrArg (fun r : RemoteLink => r.core.drops) (upd_get_same ..)
  obtain ⟨⟨hrec, -⟩, -⟩ := present_spec e p .linkLoss
  constructor
  · rw [hend.1, hkeeps.1, lnk_present, hcore, hready.drops]
    rfl
  · intro hf
    have hfirst := takeDue_no_field hl.1 hf
    obtain ⟨hcte, -⟩ := measurementDone_keeps h p
    have hfield : (h.takeDue p).cte.ports[p].field = none := by rw [hfirst, hcte, hf]
    have hsecond := takeDue_no_field (takeDue_aligned hl.1) hfield
    have hfsv : e.fsv = h.fsv := by
      have hexit : e.fsv = a.fsv := by rw [he]; rfl
      rw [hexit, hA, hsecond, (readies_measurementDone _ p).2, hfirst, (readies_measurementDone _ p).2]
    have htables : e.tables = h.tables := by
      have hexit : e.tables = a.tables := by rw [he]; rfl
      have hturns := ((decides_takeDue h p).trans (decides_takeDue _ p)).hub
      rw [hexit, hA, hturns]
    have hsame : e.faultRecord (.port p .linkLoss) = h.faultRecord (.port p .linkLoss) := by
      unfold Hub.faultRecord
      rw [hfsv]
    rw [hend.2, hkeeps.2, hrec, if_pos rfl, hsame, htables]

end Disable

end Sys2Proof.Machine
end

section
/-! Each port before and after a PORT activation (O41, R33, R64). -/

namespace Sys2Proof.Machine

/-- Two hubs agree on port `p` in every block but the balancer. -/
structure Hub.Agrees (p : PortId) (h g : Hub) : Prop where
  remote : g.lnk.remote[p] = h.lnk.remote[p] := by rfl
  combining : g.dlc.combining[p] = h.dlc.combining[p] := by rfl
  plm : g.plm[p] = h.plm[p] := by rfl
  deq : g.deq.ports[p] = h.deq.ports[p] := by rfl
  gates : g.ulc.gates[p] = h.ulc.gates[p] := by rfl
  lvm : g.lvm.ports[p] = h.lvm.ports[p] := by rfl
  records : g.fsv.portRecords[p] = h.fsv.portRecords[p] := by rfl
  detectors : g.fsv.detectors[p] = h.fsv.detectors[p] := by rfl
  cte : g.cte.ports[p] = h.cte.ports[p] := by rfl

/-- Port `p` of `g` is cleared in the limiter, the gates, the meters, FSV and the balancer; the attack counters are those
of `h` (R33). -/
def Hub.clearedFrom (p : PortId) (h g : Hub) : Prop :=
  g.plm[p] = { PortLimiter.init with
    cleared := true
    lanes := tab fun b => { LaneLimiter.init 0 with attack := h.plm[p].lanes[b].attack } }
  ∧ g.ulc.gates[p] = .replicate 4 Gate.closed
  ∧ g.lvm.ports[p].meters = .replicate 4 Meter.init ∧ g.lvm.ports[p].activity = 0 ∧ g.lvm.ports[p].smoothed = 0
  ∧ g.lvm.ports[p].cleared = true
  ∧ g.fsv.detectors[p] = Detectors.init ∧ g.actions p = ActionSet.empty
  ∧ g.sbl.ports[p].holdOff = 0 ∧ g.sbl.ports[p].returns = 0
  ∧ g.sbl.ports[p].quietCount = 0 ∧ g.isQuiet p = false

section Ports
variable {p : PortId} {h g k : Hub}

theorem Hub.Agrees.trans (x : h.Agrees p g) (y : g.Agrees p k) : h.Agrees p k where
  remote := y.remote.trans x.remote
  combining := y.combining.trans x.combining
  plm := y.plm.trans x.plm
  deq := y.deq.trans x.deq
  gates := y.gates.trans x.gates
  lvm := y.lvm.trans x.lvm
  records := y.records.trans x.records
  detectors := y.detectors.trans x.detectors
  cte := y.cte.trans x.cte

theorem Hub.Apart.agrees (x : h.Apart p g) : h.Agrees p g where
  remote := x.remote
  combining := x.combining
  plm := x.plm
  deq := x.deq
  gates := x.gates
  lvm := x.lvm
  records := x.records
  detectors := x.detectors
  cte := x.cte

theorem Hub.Agrees.link (x : h.Agrees p g) : g.linkOf p = h.linkOf p := congrArg (fun r : RemoteLink => r.core.state) x.remote

theorem Hub.Agrees.isUp (x : h.Agrees p g) : g.isUp p = h.isUp p := by
  unfold Hub.isUp
  rw [x.link]

theorem Hub.Agrees.record (x : h.Agrees p g) (c : PortClass) : g.faultRecord (.port p c) = h.faultRecord (.port p c) :=
  congrArg (fun v : Vector FaultRecord 8 => v[c.idx]) x.records

theorem Hub.Agrees.nothingDue (x : h.Agrees p g) (hb : g.bd.limiterDone = h.bd.limiterDone) (hn : h.nothingDue p) :
    g.nothingDue p := by
  unfold Hub.nothingDue at hn ⊢
  rwa [x.link, x.remote, x.cte, x.detectors, hb]

theorem reset_actions {keep : Bool} {v : Vector FaultRecord 8} (hr : g.fsv.portRecords[p] = mapTab (FaultRecord.resetTo keep) v) :
    g.actions p = ActionSet.empty := by
  have hidle (c : PortClass) (m : ResponseMode) : (g.fsv.portRecords[p][c.idx]).acts m = false := by
    rw [hr, mapTab_get]
    cases m <;> rfl
  unfold Hub.actions actionsOf
  simp only [hidle, Bool.false_eq_true, if_false]
  rfl

theorem clearedFrom_of {m : PortLimiter} (hplm : g.plm[p] = m.clear true) (hlanes : m.lanes = h.plm[p].lanes)
    (hgates : g.ulc.gates[p] = .replicate 4 Gate.closed)
    (hlvm : ∃ x l, g.lvm.ports[p] = { PortMeter.clear x with loop := l })
    (hrec : ∃ keep v, g.fsv.portRecords[p] = mapTab (FaultRecord.resetTo keep) v)
    (hdet : g.fsv.detectors[p] = Detectors.init) (hsbl : ∃ b, g.sbl.ports[p] = PortBalance.clear b) :
    h.clearedFrom p g := by
  obtain ⟨x, l, hx⟩ := hlvm
  obtain ⟨keep, v, hv⟩ := hrec
  obtain ⟨b, hb⟩ := hsbl
  refine ⟨?_, hgates, by rw [hx]; rfl, by rw [hx]; rfl, by rw [hx]; rfl, by rw [hx]; rfl, hdet, reset_actions hv,
    by rw [hb]; rfl, by rw [hb]; rfl, by rw [hb]; rfl, ?_⟩
  · rw [hplm]
    unfold PortLimiter.clear
    rw [hlanes]
    rfl
  · unfold Hub.isQuiet
    rw [hb]
    rfl

theorem clearedFrom_started (h : Hub) (p : PortId) : h.clearedFrom p (h.started p) :=
  clearedFrom_of (upd_get_same ..) rfl (upd_get_same ..) ⟨_, _, upd_get_same ..⟩ ⟨_, _, upd_get_same ..⟩
    (Vector.getElem_set_self ..) ⟨_, upd_get_same ..⟩

theorem clearedFrom_stripped (h : Hub) (p : PortId) : h.clearedFrom p (h.stripped p) :=
  clearedFrom_of (upd_get_same ..) rfl (upd_get_same ..) ⟨_, _, upd_get_same ..⟩ ⟨_, _, upd_get_same ..⟩
    (Vector.getElem_set_self ..) ⟨_, upd_get_same ..⟩

theorem Hub.clearedFrom.lanes (x : g.clearedFrom p k) (hl : g.plm[p].lanes = h.plm[p].lanes) : h.clearedFrom p k := by
  unfold Hub.clearedFrom at x ⊢
  rwa [hl] at x

theorem Hub.clearedFrom.apart (x : h.clearedFrom p g) (y : g.Apart p k) : h.clearedFrom p k := by
  obtain ⟨hplm, hgates, hmeters, hactivity, hsmoothed, hcleared, hdet, hactions, hrest⟩ := x
  have htables : k.tables = g.tables := (congrArg Hub.tables y.hub).trans rfl
  have hact : k.actions p = g.actions p := by
    unfold Hub.actions
    rw [htables, y.records]
  unfold Hub.clearedFrom Hub.isQuiet at *
  rw [y.plm, y.gates, y.lvm, y.detectors, hact, y.sbl]
  exact ⟨hplm, hgates, hmeters, hactivity, hsmoothed, hcleared, hdet, hactions, hrest⟩

/-! ## A port that is enabled -/

theorem detects_of_disabled (hl : h.linkOf p = .disabled) : h.Detects p (h.takePortDue p) := by
  have hunaligned : (h.linkOf p).aligned = false := by rw [hl]; rfl
  have hsame : h.linkAligned (.remote p) = h := linkAligned_of_not fun hn => by
    have hs : h.linkOf p = .hunt := hn.1
    rw [hl] at hs
    cases hs
  have htake : h.takeDue p = h := by
    unfold Hub.takeDue
    rw [hsame]
    exact if_neg (ne_true_of_eq_false hunaligned)
  have hstays : ¬ h.loses p := fun hn => ne_true_of_eq_false hunaligned hn.1
  rw [takePortDue_stays hstays, htake]
  exact (detects_presentDue h p).trans (detects_overdriveDue _ p)

theorem started_record (h : Hub) (p : PortId) (c : PortClass) :
    (h.started p).faultRecord (.port p c) = (h.faultRecord (.port p c)).resetTo false := by
  have hown : (h.started p).fsv.portRecords[p] = mapTab (FaultRecord.resetTo false) h.fsv.portRecords[p] := upd_get_same ..
  exact (congrArg (fun v : Vector FaultRecord 8 => v[c.idx]) hown).trans (mapTab_get ..)

theorem portActivated_enables {old : Tables} (ho : old.portOn p = false) (hn : g.tables.portOn p = true) :
    g.portActivated old p = g.enablePort p := by
  unfold Hub.portActivated
  rw [ho, hn]

theorem portActivated_disables {old : Tables} (ho : old.portOn p = true) (hn : g.tables.portOn p = false) :
    g.portActivated old p = g.disablePort p := by
  unfold Hub.portActivated
  rw [ho, hn]

theorem aligned_of_isUp (hu : h.isUp p = true) : (h.linkOf p).aligned = true := by
  have hs : h.linkOf p = .up := of_decide_eq_true hu
  rw [hs]
  rfl

/-- A disabled port that is enabled is as after its reset, but for its counters (R33). -/
theorem enabled_port (x : h.Agrees p g) (hl : h.linkOf p = .disabled) (y : (g.enablePort p).Apart p k) :
    h.clearedFrom p k ∧ k.lvm.ports[p].loop = .none
    ∧ k.lnk.remote[p] = { h.lnk.remote[p] with
        mask := 0, rtRange := false
        meas := { h.lnk.remote[p].meas with running := false }
        core := { h.lnk.remote[p].core with
          state := if h.lnk.remote[p].core.signal then .hunt else .down
          good := 0, bad := 0, cand := none, last := none } }
    ∧ k.deq.ports[p] = { h.deq.ports[p] with downLine := zeroLine, upLine := zeroLine }
    ∧ k.dlc.combining[p] = h.dlc.combining[p]
    ∧ (∀ c : PortClass, k.faultRecord (.port p c) = FaultRecord.init)
    ∧ k.cte.ports[p] = { h.cte.ports[p] with
        hold := false, nextAttempt := 1, misses := 0, identify := none, status := none } := by
  rw [enablePort_eq] at y
  have hdetects := detects_of_disabled (x.link.trans hl)
  obtain ⟨d, hd⟩ : ∃ d, d = g.takePortDue p := ⟨_, rfl⟩
  rw [← hd] at y hdetects
  have hagrees := y.agrees
  refine ⟨?_, ?_, ?_, ?_, ?_, fun c => ?_, ?_⟩
  · refine Hub.clearedFrom.lanes ((clearedFrom_started d p).apart y) ?_
    rw [hdetects.lanes, x.plm]
  · rw [hagrees.lvm]
    exact (congrArg PortMeter.loop (upd_get_same ..)).trans rfl
  · rw [hagrees.remote, ← x.remote, ← hdetects.lnk]
    exact upd_get_same ..
  · rw [hagrees.deq, ← x.deq, ← hdetects.lines]
    exact upd_get_same ..
  · rw [hagrees.combining, ← x.combining, ← hdetects.dlc]
    rfl
  · rw [hagrees.record, started_record]
    rfl
  · rw [hagrees.cte, ← x.cte, ← hdetects.cteSame]
    exact upd_get_same ..

/-! ## A port that is disabled -/

/-- A port that is disabled where nothing else is due of it (R33). -/
theorem disablePort_exact (hn : h.nothingDue p) : let r := h.lnk.remote[p]
    let exits := (h.linkOf p).aligned
    (h.disablePort p).lnk.remote[p] = { r with
      mask := if exits then 0 else r.mask
      rtRange := false
      meas := { r.meas with running := r.meas.running && !exits }
      core := { r.core with state := .disabled, good := 0, bad := 0, cand := none, last := none } }
    ∧ (h.disablePort p).cte.ports[p] =
      (let c := h.cte.ports[p]
       let c := if exits then { c with pending := false, misses := 0 } else c
       if (h.faultRecord (.port p .rauNoReply)).state = .idle then c else { c with hold := false, nextAttempt := 1 })
    ∧ ∀ c : PortClass, ((h.disablePort p).faultRecord (.port p c)).occurrences =
        (h.faultRecord (.port p c)).occurrences := by
  have ⟨_, _, _, hfield, _⟩ := hn
  rw [disablePort_eq, takePortDue_of_nothingDue hn]
  have hremote : ((h.dropped p).stripped p).lnk.remote[p] = { (h.dropped p).lnk.remote[p] with rtRange := false } :=
    upd_get_same ..
  have hcte : ((h.dropped p).stripped p).cte.ports[p] = if ((h.dropped p).faultRecord (.port p .rauNoReply)).state = .idle
      then (h.dropped p).cte.ports[p] else { (h.dropped p).cte.ports[p] with hold := false, nextAttempt := 1 } :=
    upd_get_same ..
  have hrec (c : PortClass) := stripped_record (h.dropped p) p c
  have hfsv : (h.dropped p).fsv = h.fsv := by
    unfold Hub.dropped
    split <;> rfl
  have hsame (c : PortClass) : (h.dropped p).faultRecord (.port p c) = h.faultRecord (.port p c) := by
    unfold Hub.faultRecord
    rw [hfsv]
  rw [hremote, hcte, hsame]
  refine ⟨?_, ?_, fun c => ?_⟩
  · unfold Hub.dropped
    cases ha : (h.linkOf p).aligned with
    | true =>
      rw [if_pos rfl, Bool.not_true, Bool.and_false]
      have hexit : (h.exited p LinkCore.disable).lnk.remote[p] = _ := upd_get_same ..
      rw [hexit]
      rfl
    | false =>
      rw [if_neg Bool.false_ne_true, Bool.not_false, Bool.and_true]
      have hexit : (h.onCore (.remote p) LinkCore.disable).lnk.remote[p] = _ := upd_get_same ..
      rw [hexit]
      rfl
  · unfold Hub.dropped
    cases ha : (h.linkOf p).aligned with
    | true =>
      have hexit : (h.exited p LinkCore.disable).cte.ports[p] = { h.cte.ports[p] with pending := false, misses := 0 } := by
        refine (upd_get_same ..).trans ?_
        rw [← hfield]
      rw [if_pos rfl, hexit]
      rfl
    | false => rfl
  · rw [hrec, hsame]
    rfl

/-- What a disabled port keeps: nothing but its counters, its delay lines and its measured delay (R33). -/
theorem disabled_port (x : h.Agrees p g) (y : (g.disablePort p).Apart p k) :
    h.clearedFrom p k ∧ k.linkOf p = .disabled ∧ k.lnk.remote[p].rtRange = false ∧ k.deq.ports[p] = h.deq.ports[p]
    ∧ (∀ c : PortClass, (k.faultRecord (.port p c)).state = .idle ∧ (k.faultRecord (.port p c)).present = false
      ∧ (k.faultRecord (.port p c)).retries = 0 ∧ (k.faultRecord (.port p c)).timer = 0) := by
  rw [disablePort_eq] at y
  have hdecides := (decides_takePortDue g p).trans (decides_dropped _ p)
  have hlink := dropped_disabled (g.takePortDue p) p
  obtain ⟨e, he⟩ : ∃ e, e = (g.takePortDue p).dropped p := ⟨_, rfl⟩
  rw [← he] at y hdecides hlink
  have hagrees := y.agrees
  have hremote : (e.stripped p).lnk.remote[p] = { e.lnk.remote[p] with rtRange := false } := upd_get_same ..
  refine ⟨?_, ?_, ?_, ?_, fun c => ?_⟩
  · refine Hub.clearedFrom.lanes ((clearedFrom_stripped e p).apart y) ?_
    rw [hdecides.lanes, x.plm]
  · rw [hagrees.link]
    exact (congrArg (fun r : RemoteLink => r.core.state) hremote).trans hlink
  · rw [hagrees.remote, hremote]
  · rw [hagrees.deq, ← x.deq, ← hdecides.lines]
    rfl
  · rw [hagrees.record, stripped_record]
    exact ⟨rfl, rfl, rfl, rfl⟩

/-- The drop count and the occurrences of LINK_LOSS of a disabled port (R5, R13, R33). -/
theorem disabled_counts (x : h.Agrees p g) (y : (g.disablePort p).Apart p k) :
    let lost := (h.linkOf p).aligned = true ∧ 8 ≤ h.lnk.remote[p].core.bad
    k.lnk.remote[p].core.drops =
      (if lost then min (h.lnk.remote[p].core.drops + 1) (2 ^ 32 - 1) else h.lnk.remote[p].core.drops)
    ∧ (h.cte.ports[p].field = none → (k.faultRecord (.port p .linkLoss)).occurrences =
        if lost then
          ((h.faultRecord (.port p .linkLoss)).presented g.tables (FaultKey.port p .linkLoss).row).occurrences
        else (h.faultRecord (.port p .linkLoss)).occurrences) := by
  have hagrees := y.agrees
  intro lost
  have hloses : g.loses p ↔ lost := by
    unfold Hub.loses
    rw [x.link, x.remote]
  rw [hagrees.remote, hagrees.record]
  by_cases hl : lost
  · rw [if_pos hl, if_pos hl, ← x.remote, ← x.record, ← x.cte]
    have hloss := loses_disablePort (hloses.mpr hl)
    with_reducible exact hloss
  · rw [if_neg hl, if_neg hl, ← x.remote, ← x.record, ← x.cte]
    obtain ⟨hdrops, hlosses⟩ := countsStand_disablePort (mt hloses.mp hl)
    with_reducible exact ⟨hdrops, fun _ => hlosses⟩

/-- What the exit of a disabled port that was aligned leaves (R10, R33). -/
theorem disabled_leaves (x : h.Agrees p g) (ha : (h.linkOf p).aligned = true) (y : (g.disablePort p).Apart p k) :
    h.Leaves p k := by
  have hleaves := (leaves_disablePort (h := g) (p := p) (by rw [x.link]; exact ha)).apart y
  exact { hleaves with
    loop := x.isUp ▸ hleaves.loop
    marked := x.isUp ▸ hleaves.marked
    answered := x.isUp ▸ x.lvm ▸ hleaves.answered }

theorem disabled_exact (x : h.Agrees p g) (hb : g.bd.limiterDone = h.bd.limiterDone) (y : (g.disablePort p).Apart p k)
    (hn : h.nothingDue p) : let r := h.lnk.remote[p]
    let exits := (h.linkOf p).aligned
    k.lnk.remote[p] = { r with
      mask := if exits then 0 else r.mask
      rtRange := false
      meas := { r.meas with running := r.meas.running && !exits }
      core := { r.core with state := .disabled, good := 0, bad := 0, cand := none, last := none } }
    ∧ k.cte.ports[p] =
      (let c := h.cte.ports[p]
       let c := if exits then { c with pending := false, misses := 0 } else c
       if (h.faultRecord (.port p .rauNoReply)).state = .idle then c else { c with hold := false, nextAttempt := 1 })
    ∧ ∀ c : PortClass, (k.faultRecord (.port p c)).occurrences = (h.faultRecord (.port p c)).occurrences := by
  have hagrees := y.agrees
  have hexact := disablePort_exact (x.nothingDue hb hn)
  simp only [x.remote, x.link, x.cte, x.record] at hexact
  rw [hagrees.remote, hagrees.cte]
  simp only [hagrees.record]
  exact hexact

/-! ## A port that stays enabled, or disabled -/

/-- A limiter of a port that the activation keeps (R64). -/
theorem kept_port {old : Tables} (x : h.Agrees p g) (ho : old.portOn p = g.tables.portOn p)
    (y : (g.portActivated old p).Apart p k) :
    k.lnk.remote[p] = h.lnk.remote[p] ∧ k.dlc.combining[p] = h.dlc.combining[p]
    ∧ k.deq.ports[p] = h.deq.ports[p] ∧ k.ulc.gates[p] = h.ulc.gates[p]
    ∧ k.lvm.ports[p] = h.lvm.ports[p] ∧ k.fsv.detectors[p] = h.fsv.detectors[p]
    ∧ (∀ c : PortClass, k.faultRecord (.port p c) = h.faultRecord (.port p c))
    ∧ k.cte.ports[p] = h.cte.ports[p]
    ∧ k.plm[p] = { h.plm[p] with
        lanes := tab fun b =>
          if old.portOn p = true ∧ (old.limiterCode p ≠ g.tables.limiterCode p
              ∨ old.ceiling p b ≠ g.tables.ceiling p b) then
            { h.plm[p].lanes[b] with hold := 0 }
          else h.plm[p].lanes[b] }
    ∧ k.sbl.ports[p] = g.sbl.ports[p] := by
  unfold Hub.portActivated at y
  rw [← ho] at y
  cases hp : old.portOn p with
  | false =>
    rw [hp] at y
    have hagrees := x.trans y.agrees
    refine ⟨hagrees.remote, hagrees.combining, hagrees.deq, hagrees.gates, hagrees.lvm, hagrees.detectors, hagrees.record,
      hagrees.cte, ?_, y.sbl⟩
    simp only [Bool.false_eq_true, false_and, if_false]
    rw [tab_eta]
    exact hagrees.plm
  | true =>
    rw [hp] at y
    have hother (c : PortClass) : (g.keepPort old p).faultRecord (.port p c) = g.faultRecord (.port p c) := rfl
    refine ⟨y.remote.trans x.remote, y.combining.trans x.combining, y.deq.trans x.deq, y.gates.trans x.gates,
      y.lvm.trans x.lvm, y.detectors.trans x.detectors, fun c => ?_, y.cte.trans x.cte, ?_, y.sbl⟩
    · rw [y.agrees.record, hother, x.record]
    · rw [y.plm, ← x.plm]
      simp only [true_and]
      exact upd_get_same ..

end Ports

end Sys2Proof.Machine
end

section
/-! The responses and notices of a PORT activation (O41, R18, R19, R33, R107, R156). -/

namespace Sys2Proof.Machine

/-- The port whose exit ends what the agent is at (R18, R19, R107). -/
def Busy.leaver : Busy → Option PortId
  | .measureStart _ q => some q
  | .measuring q => some q
  | .loopTest q => some q
  | _ => none

section Turn
variable {p : PortId} {h g k : Hub} {old : Tables}

/-! ## The answers of an exit -/

theorem exitAnswers_agrees (x : h.Agrees p g) (hb : g.mga.busy = h.mga.busy) : g.exitAnswers p = h.exitAnswers p := by
  unfold Hub.exitAnswers
  rw [x.remote, x.lvm, x.isUp, hb]

/-- An agent that is free owes nothing but what the port itself is at. -/
theorem exitAnswers_free (x : h.Agrees p g) (hb : g.mga.busy = none) (hn : h.exitAnswers p = []) : g.exitAnswers p = [] := by
  rw [exitAnswers_eq, List.append_eq_nil_iff] at hn ⊢
  obtain ⟨hmeasure, htest⟩ := hn
  constructor
  · unfold Hub.measureAnswers at hmeasure ⊢
    rw [List.append_eq_nil_iff] at hmeasure ⊢
    rw [x.remote, hb]
    exact ⟨hmeasure.1, rfl⟩
  · unfold Hub.testAnswers at htest ⊢
    rwa [x.isUp, x.lvm]

/-- A port that has an answer to give is the one of the request the agent is at (R171). -/
theorem exitAnswers_busy (hb : h.answersBounded) (hp : h.exitAnswers p ≠ []) :
    ∃ b, h.mga.busy = some b ∧ b.leaver = some p := by
  obtain ⟨-, hloop, hmeas⟩ := hb
  rw [exitAnswers_eq, ne_eq, List.append_eq_nil_iff, not_and_or] at hp
  rcases hp with hp | hp
  · unfold Hub.measureAnswers at hp
    rw [List.append_eq_nil_iff, not_and_or] at hp
    rcases hp with hp | hp
    · cases hr : h.lnk.remote[p].meas.running with
      | false =>
        rw [hr] at hp
        exact absurd rfl hp
      | true =>
        cases ho : h.lnk.remote[p].meas.origin with
        | entry =>
          rw [hr, ho] at hp
          exact absurd rfl hp
        | request tag => exact ⟨_, hmeas p tag hr ho, rfl⟩
    · cases hbusy : h.mga.busy with
      | none =>
        rw [hbusy] at hp
        exact absurd rfl hp
      | some b =>
        rw [hbusy] at hp
        cases b with
        | measureStart tag q =>
          by_cases hq : q = p
          · exact ⟨_, rfl, congrArg some hq⟩
          · exact absurd (if_neg fun hn => hq hn.1) hp
        | _ => exact absurd rfl hp
  · refine ⟨_, hloop p fun hn => hp ?_, rfl⟩
    unfold Hub.testAnswers
    rw [hn]
    exact ite_self _

/-- One port at most has an answer to give (R171). -/
theorem exitAnswers_one {q : PortId} (hb : h.answersBounded) (hq : h.exitAnswers q ≠ []) (hne : p ≠ q) :
    h.exitAnswers p = [] := by
  by_contra hp
  obtain ⟨b, hbusy, hleaver⟩ := exitAnswers_busy hb hq
  obtain ⟨c, hbusy', hleaver'⟩ := exitAnswers_busy hb hp
  obtain rfl := Option.some.inj (hbusy.symm.trans hbusy')
  exact hne (Option.some.inj (hleaver'.symm.trans hleaver))

/-! ## One port's turn -/

/-- Port `p` takes its exit when the PORT activation disables it (R33). -/
def Hub.endsAt (h : Hub) (old : Tables) (p : PortId) : Bool :=
  old.portOn p && !h.tables.portOn p && (h.linkOf p).aligned

/-- What the turn of a port of which nothing else is due does in MGA, FSV and the engine (R33, R156). -/
structure Hub.TurnOf (old : Tables) (p : PortId) (h g : Hub) : Prop where
  mga : g.mga = { (if h.endsAt old p then h.mga.given (h.exitAnswers p) else h.mga) with marks := g.mga.marks }
  marked : h.mga.marked g.mga fun n => n = .link ∧ h.endsAt old p = true ∧ h.isUp p = true
    ∨ n = .quiet ∧ h.isQuiet p = true ∧ h.endsAt old p = true ∧ h.isUp p = true
  fsv : g.fsv = { h.fsv with portRecords := g.fsv.portRecords, detectors := g.fsv.detectors }
  transaction : g.cte.transaction =
    if h.endsAt old p then h.cte.transaction.filter fun x => x.port ≠ p else h.cte.transaction

theorem turnOf_silent (hn : h.endsAt old p = false) (hm : g.mga = h.mga)
    (hf : g.fsv = { h.fsv with portRecords := g.fsv.portRecords, detectors := g.fsv.detectors })
    (ht : g.cte.transaction = h.cte.transaction) : h.TurnOf old p g where
  mga := by rw [hn, if_neg Bool.false_ne_true, hm]
  marked := (Mga.marked.same (congrArg Mga.marks hm)).congr fun n => by simp [hn]
  fsv := hf
  transaction := by rw [hn, if_neg Bool.false_ne_true, ht]

theorem turnOf_disablePort (hn : h.nothingDue p) (ho : old.portOn p = true) (ht : h.tables.portOn p = false) :
    h.TurnOf old p (h.disablePort p) := by
  have hends : h.endsAt old p = (h.linkOf p).aligned := by
    unfold Hub.endsAt
    rw [ho, ht]
    rfl
  rw [disablePort_eq, takePortDue_of_nothingDue hn]
  unfold Hub.dropped
  cases ha : (h.linkOf p).aligned with
  | false =>
    rw [if_neg Bool.false_ne_true]
    exact turnOf_silent (hends.trans ha) rfl rfl rfl
  | true =>
    rw [if_pos rfl]
    have htrue := hends.trans ha
    have hmarked := exited_marked h p LinkCore.disable
    refine ⟨?_, hmarked.congr fun n => ?_, rfl, ?_⟩
    · rw [if_pos htrue]
      exact exited_mga h p LinkCore.disable
    · simp only [htrue, true_and]
    · rw [if_pos htrue]
      exact transaction_of_others h p

theorem turnOf_portActivated (hn : old.portOn p ≠ h.tables.portOn p → h.nothingDue p) :
    h.TurnOf old p (h.portActivated old p) := by
  unfold Hub.portActivated
  cases ho : old.portOn p with
  | false =>
    have hends : h.endsAt old p = false := by
      unfold Hub.endsAt
      rw [ho]
      rfl
    cases ht : h.tables.portOn p with
    | false => exact turnOf_silent hends rfl rfl rfl
    | true =>
      have hdue := hn (by rw [ho, ht]; decide)
      dsimp only
      rw [enablePort_eq, takePortDue_of_nothingDue hdue]
      exact turnOf_silent hends rfl rfl rfl
  | true =>
    cases ht : h.tables.portOn p with
    | false => exact turnOf_disablePort (hn (by rw [ho, ht]; decide)) ho ht
    | true =>
      have hends : h.endsAt old p = false := by
        unfold Hub.endsAt
        rw [ht, ho]
        rfl
      exact turnOf_silent hends rfl rfl rfl

/-! ## All the ports -/

/-- The answers of the ports `pre` at a PORT activation. -/
def Hub.leftAnswers (h : Hub) (ends : PortId → Bool) (pre : List PortId) : List Response :=
  pre.flatMap fun p => if ends p then h.exitAnswers p else []

/-- What the turns of the ports `pre` have done to the hub `r`, `h` but for the membership rebuild (R32, R33). -/
structure Hub.TurnsOf (h r : Hub) (old : Tables) (pre : List PortId) (g : Hub) : Prop where
  apart : ∀ q, q ∉ pre → r.Apart q g
  mga : g.mga = { h.mga.given (h.leftAnswers (r.endsAt old) pre) with marks := g.mga.marks }
  marked : r.mga.marked g.mga fun n => n = .link ∧ (∃ p ∈ pre, r.endsAt old p = true ∧ r.isUp p = true)
    ∨ n = .quiet ∧ ∃ p ∈ pre, r.isQuiet p = true ∧ r.endsAt old p = true ∧ r.isUp p = true
  fsv : g.fsv = { h.fsv with portRecords := g.fsv.portRecords, detectors := g.fsv.detectors }
  transaction : g.cte.transaction = h.cte.transaction.filter fun x => !(decide (x.port ∈ pre) && r.endsAt old x.port)

theorem Hub.Apart.endsAt (x : h.Apart p g) : g.endsAt old p = h.endsAt old p := by
  have htables : g.tables = h.tables := (congrArg Hub.tables x.hub).trans rfl
  unfold Hub.endsAt
  rw [htables, x.agrees.link]

theorem Hub.Apart.isQuiet (x : h.Apart p g) : g.isQuiet p = h.isQuiet p := by
  unfold Hub.isQuiet
  rw [x.sbl]

/-- The answers of the port whose turn it is are those it had (R171). -/
theorem leftAnswers_step {ends : PortId → Bool} {pre : List PortId} (hb : h.answersBounded) (hp : p ∉ pre)
    (x : h.Agrees p g) (hm : g.mga.busy = (h.mga.given (h.leftAnswers ends pre)).busy) : g.exitAnswers p = h.exitAnswers p := by
  by_cases hnone : h.leftAnswers ends pre = []
  · exact exitAnswers_agrees x (hm.trans (if_pos hnone))
  · have hbusy : g.mga.busy = none := hm.trans (if_neg hnone)
    have hmine : h.exitAnswers p = [] := by
      unfold Hub.leftAnswers at hnone
      rw [List.flatMap_eq_nil_iff, not_forall] at hnone
      obtain ⟨q, hq⟩ := hnone
      rw [not_forall] at hq
      obtain ⟨hmem, hq⟩ := hq
      refine exitAnswers_one hb (q := q) (fun he => hq ?_) fun he => hp (he ▸ hmem)
      rw [he, ite_self]
    rw [hmine]
    exact exitAnswers_free x hbusy hmine

theorem turnsOf_step {r : Hub} {pre : List PortId} (hb : h.answersBounded) (hr : ∀ q, h.Agrees q r)
    (hdone : r.bd.limiterDone = h.bd.limiterDone) (hn : old.portOn p ≠ r.tables.portOn p → h.nothingDue p)
    (hp : p ∉ pre) (x : h.TurnsOf r old pre g) : h.TurnsOf r old (pre ++ [p]) (g.portActivated old p) := by
  have hapart := x.apart p hp
  have hagrees := (hr p).trans hapart.agrees
  have htables : g.tables = r.tables := (congrArg Hub.tables hapart.hub).trans rfl
  have hbd : g.bd.limiterDone = h.bd.limiterDone := (congrArg (fun k : Hub => k.bd.limiterDone) hapart.hub).trans hdone
  obtain ⟨hmga, hmarked, hfsv, htransaction⟩ := turnOf_portActivated (h := g) (p := p) (old := old)
    fun ho => hagrees.nothingDue hbd (hn (htables ▸ ho))
  have hanswers := leftAnswers_step hb hp hagrees ((congrArg Mga.busy x.mga).trans rfl)
  rw [hapart.endsAt] at hmga htransaction
  rw [hanswers] at hmga
  refine ⟨fun q hq => ?_, ?_, ?_, ?_, ?_⟩
  · rw [List.mem_append, List.mem_singleton, not_or] at hq
    exact (x.apart q hq.1).trans ((touches_portActivated g p old).apart hq.2)
  · have hx := x.mga
    have hleft : h.leftAnswers (r.endsAt old) (pre ++ [p]) = h.leftAnswers (r.endsAt old) pre ++
        if r.endsAt old p then h.exitAnswers p else [] := by
      unfold Hub.leftAnswers
      rw [List.flatMap_append, List.flatMap_singleton]
    rw [hmga, hleft, ← Mga.given_given, hx]
    cases r.endsAt old p with
    | true => rfl
    | false =>
      rw [if_neg Bool.false_ne_true, if_neg Bool.false_ne_true, Mga.given_nil]
  · rw [hapart.endsAt, hapart.isQuiet, hapart.agrees.isUp] at hmarked
    refine (x.marked.trans hmarked).congr fun n => ?_
    simp only [List.mem_append, List.mem_singleton, or_and_right, exists_or, exists_eq_left]
    rw [and_or_left, and_or_left]
    exact or_or_or_comm
  · have hx := x.fsv
    rw [hfsv, hx]
  · have hother (t : Transaction) (ht : t.port ≠ p) : decide (t.port ∈ pre ++ [p]) = decide (t.port ∈ pre) :=
      decide_eq_decide.mpr (by rw [List.mem_append, List.mem_singleton, or_iff_left ht])
    have hmem : decide (p ∈ pre ++ [p]) = true := decide_eq_true (List.mem_append_right _ (List.mem_singleton_self p))
    rw [htransaction, x.transaction]
    cases he : r.endsAt old p with
    | true =>
      rw [if_pos rfl, Option.filter_filter]
      refine congrArg (fun f => h.cte.transaction.filter f) (funext fun t => ?_)
      by_cases ht : t.port = p
      · simp [ht, he]
      · simp [ht]
    | false =>
      refine (if_neg Bool.false_ne_true).trans (congrArg (fun f => h.cte.transaction.filter f) (funext fun t => ?_))
      by_cases ht : t.port = p
      · rw [ht, he, Bool.and_false, Bool.and_false]
      · rw [hother t ht]

/-- All that a PORT activation does in MGA, FSV and the engine where nothing else is due of the ports it changes. -/
theorem turnsOf_all {r : Hub} (hb : h.answersBounded) (hr : ∀ q, h.Agrees q r)
    (hdone : r.bd.limiterDone = h.bd.limiterDone) (hn : ∀ q, old.portOn q ≠ r.tables.portOn q → h.nothingDue q)
    (hmga : r.mga = { h.mga with marks := r.mga.marks }) (hfsv : r.fsv = h.fsv)
    (ht : r.cte.transaction = h.cte.transaction) :
    h.TurnsOf r old (List.finRange 24) (each (Hub.portActivated old) r) := by
  refine each_prefix (P := h.TurnsOf r old) r ⟨fun q _ => .same q r, ?_, ?_, ?_, ?_⟩ fun pre p g hp x =>
    turnsOf_step hb hr hdone (hn p) hp x
  · have hnone : h.leftAnswers (r.endsAt old) [] = [] := rfl
    rw [hnone, Mga.given_nil]
    exact hmga
  · exact (Mga.marked.same rfl).congr fun n => by simp
  · rw [hfsv]
  · rw [ht]
    simp only [List.not_mem_nil, decide_false, Bool.false_and, Bool.not_false]
    cases h.cte.transaction <;> rfl

end Turn

end Sys2Proof.Machine
end

section
/-! The balancer after a SECTOR or PORT activation (O41, R32, R33, R131). -/

namespace Sys2Proof.Machine

section Balance
variable {p : PortId} {u g k t : Hub} {old : Tables}

/-- A port's turn clears the balancer's state of it or leaves it; it leaves that of a port which stays enabled (R33). -/
theorem portActivated_balance (g : Hub) (p : PortId) (old : Tables) :
    ((g.portActivated old p).sbl.ports[p] = g.sbl.ports[p]
      ∨ ∃ b, (g.portActivated old p).sbl.ports[p] = PortBalance.clear b)
    ∧ (old.portOn p = g.tables.portOn p → (g.portActivated old p).sbl.ports[p] = g.sbl.ports[p]) := by
  unfold Hub.portActivated
  cases ho : old.portOn p with
  | false =>
    cases ht : g.tables.portOn p with
    | false => exact ⟨.inl rfl, fun _ => rfl⟩
    | true =>
      refine ⟨.inr ?_, nofun⟩
      dsimp only
      rw [enablePort_eq]
      exact ⟨_, upd_get_same ..⟩
  | true =>
    cases ht : g.tables.portOn p with
    | true => exact ⟨.inl rfl, fun _ => rfl⟩
    | false =>
      refine ⟨.inr ?_, nofun⟩
      dsimp only
      rw [disablePort_eq]
      exact ⟨_, upd_get_same ..⟩

theorem tableWakes_iff (u : Hub) (p : PortId) : u.tableWakes p = true ↔
    u.isQuiet p = true ∧ (u.tables.portOn p = false ∨ u.tables.quietOn p = false) := by
  unfold Hub.tableWakes Hub.mayQuiet
  rw [Bool.and_eq_true, Bool.not_eq_true', Bool.and_eq_false_iff]

/-- Each port's turn stands between what the others leave of it; a SECTOR activation has no turns. -/
theorem activated_split (u : Hub) (p : PortId) {id : TableId} (hid : id = .sector ∨ id = .port) (hs : u.inService = true)
    (acts : Vector ActionSet 24) : ∃ g k, u.rebuild.Apart p g ∧ g.Touches p k ∧ k.Apart p (u.activated id old acts)
      ∧ (k.sbl.ports[p] = g.sbl.ports[p] ∨ ∃ b, k.sbl.ports[p] = PortBalance.clear b)
      ∧ (id = .sector ∨ old.portOn p = true → u.tables.portOn p = true → k.sbl.ports[p] = g.sbl.ports[p]) := by
  rcases hid with rfl | rfl
  · have hsector : u.activated .sector old acts = u.rebuild := if_pos hs
    rw [hsector]
    exact ⟨_, _, .same p _, .same p _, .same p _, .inl rfl, fun _ _ => rfl⟩
  · have hport : u.activated .port old acts = each (Hub.portActivated old) u.rebuild := by
      unfold Hub.activated
      rw [if_pos hs]
    obtain ⟨g, x, y⟩ := each_split (fun q k => touches_portActivated k q old) p u.rebuild
    have htables : g.tables = u.tables := by
      have hg : g.tables = u.rebuild.tables := (congrArg Hub.tables x.hub).trans rfl
      rw [hg, (rebuild_rebuilds u).hub]
    obtain ⟨hb, hsame⟩ := portActivated_balance g p old
    rw [hport]
    refine ⟨g, _, x, touches_portActivated g p old, y, hb, fun hold hnew => hsame ?_⟩
    rw [htables, hnew]
    exact hold.resolve_left nofun

/-- A port of the balancer after a rebuild and its own turn (R32, R131). -/
theorem rebuilt_port (kept : Prop) (x : u.rebuild.Apart p g) (y : g.Touches p k) (z : k.Apart p t)
    (hb : k.sbl.ports[p] = g.sbl.ports[p] ∨ ∃ b, k.sbl.ports[p] = PortBalance.clear b)
    (hk : kept → u.tables.portOn p = true → k.sbl.ports[p] = g.sbl.ports[p]) : let b := t.sbl.ports[p]
    b.assign = (if u.tables.portOn p then .one (u.tables.home p) else .none)
    ∧ b.holdOff = 0 ∧ b.returns = 0 ∧ b.quietCount = 0
    ∧ (u.isQuiet p = false → b.wakeCause = u.sbl.ports[p].wakeCause)
    ∧ (u.tables.portOn p = true → u.tables.quietOn p = true → kept →
      b.quiet = u.sbl.ports[p].quiet ∧ b.quietDue = u.sbl.ports[p].quietDue ∧ b.wakeCause = u.sbl.ports[p].wakeCause)
    ∧ (u.tables.portOn p = false ∨ u.tables.quietOn p = false →
      t.isQuiet p = false ∧ (u.isQuiet p = true → b.wakeCause = .table ∧ t.mga.marks[Notice.quiet.idx] = true)) := by
  obtain ⟨hhub, -, hmarked⟩ := rebuild_rebuilds u
  have hrebuilt : g.sbl.ports[p] = u.rebuiltPort p := by
    rw [x.sbl, hhub]
    exact tab_get _ p
  have hassign : k.sbl.ports[p].assign = g.sbl.ports[p].assign := y.assign
  have hquiet : g.isQuiet p = (u.isQuiet p && u.mayQuiet p) := by
    unfold Hub.isQuiet
    rw [hrebuilt]
    exact (Bool.and_or_distrib_right ..).symm
  have hcause (hq : u.isQuiet p = false) : g.sbl.ports[p].wakeCause = u.sbl.ports[p].wakeCause := by
    rw [hrebuilt]
    unfold Hub.rebuiltPort Hub.tableWakes
    rw [hq]
    rfl
  have hzero : k.sbl.ports[p].holdOff = 0 ∧ k.sbl.ports[p].returns = 0 ∧ k.sbl.ports[p].quietCount = 0 := by
    rcases hb with hb | ⟨b, hb⟩
    · rw [hb, hrebuilt]
      exact ⟨rfl, rfl, rfl⟩
    · rw [hb]
      exact ⟨rfl, rfl, rfl⟩
  dsimp only
  rw [z.sbl, z.isQuiet]
  refine ⟨?_, hzero.1, hzero.2.1, hzero.2.2, fun hq => ?_, fun hon hqon hkept => ?_, fun hoff => ?_⟩
  · rw [hassign, hrebuilt]
    rfl
  · have hawake : g.isQuiet p = false := by rw [hquiet, hq, Bool.false_and]
    exact (y.awake hawake).2.trans (hcause hq)
  · have hmay : u.mayQuiet p = true := by
      unfold Hub.mayQuiet
      rw [hon, hqon]
      rfl
    have hwakes : u.tableWakes p = false := by
      unfold Hub.tableWakes
      rw [hmay]
      exact Bool.and_false _
    rw [hk hkept hon, hrebuilt]
    unfold Hub.rebuiltPort
    rw [hmay, hwakes, Bool.and_true, Bool.and_true]
    exact ⟨rfl, rfl, rfl⟩
  · have hmay : u.mayQuiet p = false := by
      unfold Hub.mayQuiet
      rcases hoff with hoff | hoff
      · rw [hoff]
        rfl
      · rw [hoff, Bool.and_false]
    have hawake : g.isQuiet p = false := by rw [hquiet, hmay, Bool.and_false]
    obtain ⟨hk', hsame⟩ := y.awake hawake
    refine ⟨hk', fun hq => ?_⟩
    have hwakes : u.tableWakes p = true := by
      unfold Hub.tableWakes
      rw [hmay, hq]
      rfl
    have hmark : u.rebuild.mga.marks[Notice.quiet.idx] = true := (hmarked .quiet).mpr (.inr (.inr ⟨rfl, p, hwakes⟩))
    refine ⟨?_, z.marks .quiet (y.marks .quiet (x.marks .quiet hmark))⟩
    rw [hsame, hrebuilt]
    unfold Hub.rebuiltPort
    exact if_pos hwakes

end Balance

end Sys2Proof.Machine
end

section
/-! An image becomes active, with the effects of its table (O41). -/

namespace Sys2Proof.Machine

section Activation
variable (h u : Hub)

theorem tableActivation_eq {h : Hub} {id : TableId} {img : List Byte} (hs : h.tld.scheduled = some (id, img))
    (hr : h.tld.scheduledRipe = true) :
    h.tableActivation = (h.installImage id img).activated id h.tables (tab h.actions) := by
  unfold Hub.tableActivation
  rw [hs]
  exact if_pos hr

/-- The hub before the turns of a PORT activation: rebuilt in SERVICE (R32). -/
def Hub.readied : Hub := if u.inService then u.rebuild else u

theorem readied_eq : u.readied = { u with
      sbl := u.readied.sbl, mga := { u.mga with marks := u.readied.mga.marks }, bd := u.readied.bd }
    ∧ u.readied.bd.limiterDone = u.bd.limiterDone
    ∧ (∀ n : Notice, u.mga.marks[n.idx] = true → u.readied.mga.marks[n.idx] = true) := by
  unfold Hub.readied
  split
  · obtain ⟨hhub, -, hmarked⟩ := rebuild_rebuilds u
    refine ⟨?_, (congrArg (fun g : Hub => g.bd.limiterDone) hhub).trans rfl, marks_of_marked hmarked⟩
    rw [hhub]
  · exact ⟨rfl, rfl, fun _ => id⟩

theorem readied_agrees (p : PortId) : u.Agrees p u.readied := by
  rw [(readied_eq u).1]
  exact {}

/-- An activation changes no table, and lifts no notice (R31, R174). -/
theorem activated_keeps (id : TableId) (old : Tables) (acts : Vector ActionSet 24) : (u.activated id old acts).tld = u.tld
    ∧ ∀ n : Notice, u.mga.marks[n.idx] = true → (u.activated id old acts).mga.marks[n.idx] = true := by
  obtain ⟨hready, -, hmarks⟩ := readied_eq u
  cases id with
  | site =>
    have hsite : u.activated .site old acts = u.siteActivated old := rfl
    rw [hsite, siteActivated_eq]
    refine ⟨rfl, fun n hn => ?_⟩
    dsimp only
    split
    · exact hn
    · exact hn
  | carrier => exact ⟨rfl, fun _ => id⟩
  | response =>
    have hresponse : u.activated .response old acts = u.responseActivated acts := rfl
    rw [hresponse, responseActivated_eq]
    exact ⟨rfl, fun _ => id⟩
  | sector =>
    have hsector : u.activated .sector old acts = u.readied := rfl
    rw [hsector]
    exact ⟨by rw [hready], hmarks⟩
  | port =>
    have hport : u.activated .port old acts = each (Hub.portActivated old) u.readied := rfl
    have hturns := each_turns (fun q k => touches_portActivated k q old) u.readied
    rw [hport]
    refine ⟨?_, fun n hn => hturns.marks n (hmarks n hn)⟩
    rw [hturns.hub, hready]

/-- What ports' turns leave of a rebuild (R32). -/
theorem rebuilt_turns {u t : Hub} (x : u.rebuild.Turns t) :
    t.sbl = { u.sbl with
      ports := t.sbl.ports, flight := none, queue := [], advice := []
      log := t.sbl.log, logSequence := u.sbl.logSequence + BitVec.ofNat 32 u.rebuildEnds.length }
    ∧ (u.sbl.log.length ≤ 16 → t.sbl.log = logged u.sbl.log u.sbl.logSequence u.mga.seconds u.rebuildEnds)
    ∧ (u.rebuildEnds ≠ [] → t.mga.marks[Notice.move.idx] = true)
    ∧ t.bd = { u.bd with
        rampDue := if u.sbl.flight = none then u.bd.rampDue else false
        abandonDue := if u.sbl.flight = none then u.bd.abandonDue else false } := by
  obtain ⟨hhub, hlog, hmarked⟩ := rebuild_rebuilds u
  have hflight : t.sbl.flight = none := x.flight (by rw [hhub])
  have hsbl : t.sbl = { u.rebuild.sbl with ports := t.sbl.ports, flight := t.sbl.flight } :=
    (congrArg Hub.sbl x.hub).trans rfl
  have hsame : t.sbl.log = u.rebuild.sbl.log := (congrArg Sbl.log hsbl).trans rfl
  refine ⟨?_, fun hl => hsame.trans (hlog hl), fun hne => x.marks .move ((hmarked .move).mpr (.inr (.inl ⟨rfl, hne⟩))), ?_⟩
  · rw [hflight] at hsbl
    refine hsbl.trans ?_
    rw [hsame]
    exact congrArg (fun b : Sbl => { b with ports := t.sbl.ports, flight := none }) ((congrArg Hub.sbl hhub).trans rfl)
  · exact ((congrArg Hub.bd x.hub).trans rfl).trans ((congrArg Hub.bd hhub).trans rfl)

theorem rebuildEnds_ne_nil : u.rebuildEnds ≠ [] ↔ u.sbl.flight ≠ none ∨ u.sbl.queue ≠ [] := by
  unfold Hub.rebuildEnds Hub.flightEnds
  rw [ne_eq, List.append_eq_nil_iff, List.map_eq_nil_iff, not_and_or]
  cases u.sbl.flight with
  | none => simp
  | some m => simp

theorem readied_marked : u.mga.marked u.readied.mga fun n =>
    n = .move ∧ u.inService = true ∧ (u.sbl.flight ≠ none ∨ u.sbl.queue ≠ [])
    ∨ n = .quiet ∧ u.inService = true ∧ ∃ p, u.tableWakes p = true := by
  unfold Hub.readied
  by_cases hs : u.inService = true
  · rw [if_pos hs]
    refine (rebuild_rebuilds u).marked.congr fun n => ?_
    rw [rebuildEnds_ne_nil]
    simp only [hs, true_and]
  · rw [if_neg hs]
    exact (Mga.marked.same rfl).congr fun n => by simp [hs]

theorem readied_isQuiet (p : PortId) : u.readied.isQuiet p = true ↔
    u.isQuiet p = true ∧ (u.inService = true → u.mayQuiet p = true) := by
  unfold Hub.readied
  by_cases hs : u.inService = true
  · have hport : u.rebuild.sbl.ports[p] = u.rebuiltPort p := by
      rw [(rebuild_rebuilds u).hub]
      exact tab_get _ p
    have hquiet : u.rebuild.isQuiet p = (u.isQuiet p && u.mayQuiet p) := by
      unfold Hub.isQuiet
      rw [hport]
      exact (Bool.and_or_distrib_right ..).symm
    rw [if_pos hs, hquiet, Bool.and_eq_true]
    exact and_congr_right' ⟨fun hm _ => hm, fun hm => hm hs⟩
  · rw [if_neg hs]
    exact (and_iff_left fun hn => absurd hn hs).symm

theorem readied_endsAt (old : Tables) : u.readied.endsAt old = u.endsAt old := funext fun p => by
  have htables : u.readied.tables = u.tables := by rw [(readied_eq u).1]
  unfold Hub.endsAt
  rw [htables, (readied_agrees u p).link]

/-- A port that is quiet and up as it ends wakes once: by the rebuild in SERVICE, else by its exit (R131). -/
theorem port_quiets {old : Tables} : ((u.inService = true ∧ ∃ p, u.tableWakes p = true)
      ∨ ∃ p, u.readied.isQuiet p = true ∧ u.endsAt old p = true ∧ u.isUp p = true) ↔
    ∃ p, u.isQuiet p = true ∧ (u.inService = true ∧ (u.tables.portOn p = false ∨ u.tables.quietOn p = false)
      ∨ u.endsAt old p = true ∧ u.isUp p = true) := by
  simp only [tableWakes_iff, readied_isQuiet]
  constructor
  · rintro (⟨hs, p, hq, hoff⟩ | ⟨p, ⟨hq, -⟩, he, hu⟩)
    · exact ⟨p, hq, .inl ⟨hs, hoff⟩⟩
    · exact ⟨p, hq, .inr ⟨he, hu⟩⟩
  · rintro ⟨p, hq, ⟨hs, hoff⟩ | ⟨he, hu⟩⟩
    · exact .inl ⟨hs, p, hq, hoff⟩
    · by_cases hs : u.inService = true
      · refine .inl ⟨hs, p, hq, .inl ?_⟩
        unfold Hub.endsAt at he
        rw [Bool.and_eq_true, Bool.and_eq_true, Bool.not_eq_true'] at he
        exact he.1.2
      · exact .inr ⟨p, ⟨hq, fun hn => absurd hn hs⟩, he, hu⟩

/-- What the ports' turns leave of the blocks (R33). -/
theorem port_frames {t : Hub} (x : u.readied.Turns t) : t.lnk = { u.lnk with remote := t.lnk.remote }
    ∧ t.dlc = { u.dlc with combining := t.dlc.combining } ∧ t.deq = { u.deq with ports := t.deq.ports }
    ∧ t.ulc = { u.ulc with gates := t.ulc.gates } ∧ t.lvm = { u.lvm with ports := t.lvm.ports }
    ∧ t.fsv.donorRecords = u.fsv.donorRecords ∧ t.mga.requests = u.mga.requests ∧ t.frame = u.frame
    ∧ t.cte = { u.cte with ports := t.cte.ports, transaction := t.cte.transaction } := by
  have hhub := x.hub
  rw [(readied_eq u).1] at hhub
  refine ⟨?_, ?_, ?_, ?_, ?_, ?_, ?_, ?_, ?_⟩
  · exact (congrArg Hub.lnk hhub).trans rfl
  · exact (congrArg Hub.dlc hhub).trans rfl
  · exact (congrArg Hub.deq hhub).trans rfl
  · exact (congrArg Hub.ulc hhub).trans rfl
  · exact (congrArg Hub.lvm hhub).trans rfl
  · exact (congrArg (fun k : Hub => k.fsv.donorRecords) hhub).trans rfl
  · exact (congrArg (fun k : Hub => k.mga.requests) hhub).trans rfl
  · exact (congrArg Hub.frame hhub).trans rfl
  · exact (congrArg Hub.cte hhub).trans rfl

/-- What a PORT activation in CONFIG leaves of the balancer (R33). -/
theorem port_config {u : Hub} {old : Tables} (hs : u.inService = false) :
    let t := each (Hub.portActivated old) u.readied
    (∀ p : PortId, t.assignOf p = u.assignOf p)
    ∧ t.sbl = { u.sbl with ports := t.sbl.ports, flight := t.sbl.flight }
    ∧ (u.sbl.flight = none → t.sbl.flight = none)
    ∧ (∀ p : PortId, (u.isQuiet p = false → t.sbl.ports[p].wakeCause = u.sbl.ports[p].wakeCause)
      ∧ (old.portOn p = u.tables.portOn p → t.sbl.ports[p] = u.sbl.ports[p]))
    ∧ t.bd = u.bd := by
  have hready : u.readied = u := if_neg (ne_true_of_eq_false hs)
  rw [hready]
  have hturns := each_turns (fun q k => touches_portActivated k q old) u
  refine ⟨fun p => ?_, (congrArg Hub.sbl hturns.hub).trans rfl, hturns.flight, fun p => ?_,
    (congrArg Hub.bd hturns.hub).trans rfl⟩
  · obtain ⟨g, x, y⟩ := each_split (fun q k => touches_portActivated k q old) p u
    have htouch := touches_portActivated g p old
    exact (congrArg PortBalance.assign y.sbl).trans (htouch.assign.trans (congrArg PortBalance.assign x.sbl))
  · obtain ⟨g, x, y⟩ := each_split (fun q k => touches_portActivated k q old) p u
    have htouch := touches_portActivated g p old
    have htables : g.tables = u.tables := (congrArg Hub.tables x.hub).trans rfl
    rw [y.sbl, ← x.sbl]
    refine ⟨fun hq => (htouch.awake (x.isQuiet.trans hq)).2, fun ho => (portActivated_balance g p old).2 ?_⟩
    rw [htables, ho]

theorem notices_reordered {L M A B : Prop} : (M ∨ A) ∨ L ∨ B ↔ L ∨ M ∨ A ∨ B := by
  rw [or_or_or_comm, or_comm (a := M), or_assoc]

/-- What a PORT activation answers, raises and ends where nothing else is due of the ports it changes (R18, R19, R107). -/
theorem port_answers {u : Hub} {old : Tables} (hb : u.answersBounded)
    (hn : ∀ p, old.portOn p ≠ u.tables.portOn p → u.nothingDue p) :
    let t := each (Hub.portActivated old) u.readied
    t.mga = { u.mga.given (u.leftAnswers (u.endsAt old) (List.finRange 24)) with marks := t.mga.marks }
    ∧ u.mga.marked t.mga (fun n => n = .link ∧ (∃ p, u.endsAt old p = true ∧ u.isUp p = true)
      ∨ n = .move ∧ u.inService = true ∧ (u.sbl.flight ≠ none ∨ u.sbl.queue ≠ [])
      ∨ n = .quiet ∧ ∃ p, u.isQuiet p = true
        ∧ (u.inService = true ∧ (u.tables.portOn p = false ∨ u.tables.quietOn p = false)
          ∨ u.endsAt old p = true ∧ u.isUp p = true))
    ∧ t.fsv = { u.fsv with portRecords := t.fsv.portRecords, detectors := t.fsv.detectors }
    ∧ t.cte.transaction = u.cte.transaction.filter fun x => !u.endsAt old x.port := by
  obtain ⟨hready, hdone, -⟩ := readied_eq u
  have htables : u.readied.tables = u.tables := by rw [hready]
  obtain ⟨-, hmga, hmarked, hfsv, htransaction⟩ := turnsOf_all (old := old) hb (readied_agrees u) hdone
    (fun q => by rw [htables]; exact hn q) ((congrArg Hub.mga hready).trans rfl) ((congrArg Hub.fsv hready).trans rfl)
    ((congrArg (fun k : Hub => k.cte.transaction) hready).trans rfl)
  rw [readied_endsAt] at hmga hmarked htransaction
  refine ⟨hmga, ?_, hfsv, ?_⟩
  · refine ((readied_marked u).trans hmarked).congr fun n => ?_
    simp only [List.mem_finRange, true_and, fun p => (readied_agrees u p).isUp]
    rw [← port_quiets, and_or_left (a := n = .quiet)]
    exact notices_reordered
  · rw [htransaction]
    simp only [List.mem_finRange, decide_true, Bool.true_and]

/-- Silencing actions that a set has and another lacks (R146). -/
theorem silences_minus (a b : ActionSet) : (a.minus b).silences = true ↔
    a.mute = true ∧ b.mute = false ∨ a.isolate = true ∧ b.isolate = false := by
  unfold ActionSet.silences ActionSet.minus
  simp only [Bool.or_eq_true, Bool.and_eq_true, Bool.not_eq_true']

theorem carryCte_eq (c : Hub) (q : PortId) (x : PortCte) :
    c.carryCte (tab fun p => decide ((h.faultRecord (.port p .rauNoReply)).state = .idle)) q x =
      if (h.faultRecord (.port q .rauNoReply)).state ≠ .idle ∧ (c.faultRecord (.port q .rauNoReply)).state = .idle then
        { x with hold := false, nextAttempt := 1, pending := x.pending || (c.linkOf q).aligned }
      else x :=
  if_congr (and_congr_left' (by rw [tab_get, Bool.not_eq_true', decide_eq_false_iff_not])) rfl rfl

theorem carryMove_eq (c : Hub) (m : MoveRecord) : c.carryMove (tab h.actions) m =
    let q := m.entry.port
    if m.ending = none
        ∧ ((c.actions q).mute = true ∧ (h.actions q).mute = false
          ∨ (c.actions q).isolate = true ∧ (h.actions q).isolate = false) then
      { m with ending := some .action }
    else m :=
  if_congr (and_congr_right' (by rw [silences_minus, tab_get])) rfl rfl

end Activation

end Sys2Proof.Machine
end

section
/-! The activation of a table, clause by clause (O41, R31 to R36). -/

namespace Sys2Proof
open Machine

/-- Settles O41. -/
theorem activationInstallsTheImage : Obligations.ActivationInstallsTheImage := by
  intro id img s h old new hsched hripe
  obtain ⟨u, hu⟩ : ∃ u, u = h.installImage id img := ⟨_, rfl⟩
  obtain ⟨t, ht⟩ : ∃ t, t = u.activated id old (tab h.actions) := ⟨_, rfl⟩
  have hexec : exec .tableActivation s = .next { s with hub := t } := by
    rw [ht, hu]
    exact next_congr (tableActivation_eq hsched hripe)
  have hinstalled : u = { h with tld := u.tld, mga := h.mga.raised .load, bd := { h.bd with before := some old } } := by
    rw [hu]
    rfl
  have htables : u.tables = new := by
    rw [hu]
    rfl
  obtain ⟨htld, hmarks⟩ := activated_keeps u id old (tab h.actions)
  rw [← ht] at htld hmarks
  have hload : u.mga.marks[Notice.load.idx] = true := by
    rw [hu]
    exact (h.mga.marked_raised .load .load).mpr (.inr rfl)
  refine ⟨_, hexec, rfl, ?_, hmarks .load hload, ?_, ?_, ?_, ?_, ?_, ?_, ?_⟩
  · refine htld.trans ?_
    rw [hu]
    rfl
  · rintro rfl
    have hsite : t = u.siteActivated old := ht
    rw [siteActivated_eq, restart_given] at hsite
    dsimp only
    rw [htld]
    rw [hu] at hsite ⊢
    exact hsite
  · rintro rfl
    have hcarrier : t = u.carrierActivated := ht
    unfold Hub.carrierActivated at hcarrier
    rw [show u.carrierStateNow = _ from funext (carrierStateNow_eq u)] at hcarrier
    dsimp only
    rw [htld]
    rw [hu] at hcarrier ⊢
    exact hcarrier
  · rintro rfl
    have hresponse : t = u.responseActivated (tab h.actions) := ht
    rw [responseActivated_eq] at hresponse
    have hrecord (k : FaultKey) : t.faultRecord k = ({ u with fsv := u.fsv.carried u.tables } : Hub).faultRecord k := by
      rw [hresponse]
      rfl
    have hactions (q : PortId) : t.actions q = ({ u with fsv := u.fsv.carried u.tables } : Hub).actions q := by
      rw [hresponse]
      rfl
    have hfsv : t.fsv = u.fsv.carried u.tables := by rw [hresponse]
    refine ⟨fun k => ?_, ?_⟩
    · dsimp only
      rw [hrecord, carried_record, htables, hu]
      rfl
    · dsimp only
      rw [htld, hfsv]
      simp only [hrecord, hactions]
      rw [hu] at hresponse ⊢
      refine hresponse.trans ?_
      simp only [carryCte_eq, funext (carryMove_eq _ _)]
      rfl
  · rintro rfl hs
    have hsector : t = u.readied := ht
    have hsame : u.readied = u := if_neg (ne_true_of_eq_false (hinstalled ▸ hs))
    dsimp only
    rw [htld, hsector, hsame]
    exact hinstalled
  · rintro rfl
    have hsector : t = u.readied := ht
    have hready := (readied_eq u).1
    rw [← hsector] at hready
    dsimp only
    rw [htld]
    rw [hu] at hready ⊢
    exact hready
  · intro hid hs
    have hrebuild : u.readied = u.rebuild := if_pos (hinstalled ▸ hs)
    have hturns : u.rebuild.Turns t := by
      rcases hid with rfl | rfl
      · have hsector : t = u.readied := ht
        rw [hsector, hrebuild]
        exact .same _
      · have hport : t = each (Hub.portActivated old) u.readied := ht
        rw [hport, hrebuild]
        exact each_turns (fun q k => touches_portActivated k q old) _
    obtain ⟨hsbl, hlog, hmove, hbd⟩ := rebuilt_turns hturns
    intro ends
    have hends : u.rebuildEnds = ends := by
      rw [hu]
      rfl
    rw [hends] at hsbl hlog hmove
    refine ⟨?_, ?_, ?_, hmove, ?_, fun p => ?_⟩
    · rw [hu] at hsbl
      exact hsbl
    · rw [hu] at hlog
      exact hlog
    · rintro rfl
      have hsector : t = u.rebuild := ht.trans (show u.readied = u.rebuild from hrebuild)
      have hmarked := (rebuild_rebuilds u).marked
      rw [← hsector, hends] at hmarked
      have hraised : h.mga.marked u.mga fun n => n = .load := by
        rw [hu]
        exact h.mga.marked_raised .load
      refine (hraised.trans hmarked).congr fun n => ?_
      simp only [tableWakes_iff]
      rw [htables, hu]
      exact Iff.rfl
    · rw [hu] at hbd
      exact hbd
    · obtain ⟨g, k, x, y, z, hb, hk⟩ := activated_split (old := old) u p hid (hinstalled ▸ hs) (tab h.actions)
      rw [← ht] at z
      have hport := rebuilt_port (id = .sector ∨ old.portOn p = true) x y z hb hk
      dsimp only at hport
      rw [htables] at hport
      rw [hu] at hport
      exact hport
  · rintro rfl
    have hport : t = each (Hub.portActivated old) u.readied := ht
    have hturns : u.readied.Turns t := by
      rw [hport]
      exact each_turns (fun q k => touches_portActivated k q old) _
    obtain ⟨hlnk, hdlc, hdeq, hulc, hlvm, hdonors, hrequests, hframe, hcte⟩ := port_frames u hturns
    refine ⟨?_, ?_, ?_, ?_, ?_, ?_, ?_, ?_, ?_, ?_, fun p => ?_⟩
    · rw [hu] at hlnk
      exact hlnk
    · rw [hu] at hdlc
      exact hdlc
    · rw [hu] at hdeq
      exact hdeq
    · rw [hu] at hulc
      exact hulc
    · rw [hu] at hlvm
      exact hlvm
    · rw [hu] at hdonors
      exact hdonors
    · rw [hu] at hrequests
      exact hrequests
    · rw [hu] at hframe
      exact hframe
    · intro hb hn ends answers
      have hanswers := port_answers (u := u) (old := old) (by rw [hu]; exact hb) (by rw [htables, hu]; exact hn)
      dsimp only at hanswers
      rw [← hport] at hanswers
      obtain ⟨hmga, hmarked, hfsv, htransaction⟩ := hanswers
      have hends : u.endsAt old = ends := by
        rw [hu]
        rfl
      rw [hends] at hmga hmarked htransaction
      rw [htables] at hmarked
      have hraised : h.mga.marked u.mga fun n => n = .load := by
        rw [hu]
        exact h.mga.marked_raised .load
      refine ⟨?_, ?_, ?_, ?_⟩
      · rw [hu] at hmga
        exact hmga
      · rw [hu] at hmarked hraised
        exact hraised.trans hmarked
      · rw [hu] at hfsv
        exact hfsv
      · rw [htransaction] at hcte
        rw [hu] at hcte
        exact hcte
    · intro hs
      have hconfig := port_config (u := u) (old := old) (by rw [hu]; exact hs)
      dsimp only at hconfig
      rw [← hport, htables] at hconfig
      rw [hu] at hconfig
      exact hconfig
    · obtain ⟨g, x, y⟩ := each_split (fun q k => touches_portActivated k q old) p u.readied
      rw [← hport] at y
      obtain ⟨hready, hdone, -⟩ := readied_eq u
      have hagrees : h.Agrees p g := by
        refine Hub.Agrees.trans (g := u) ?_ ((readied_agrees u p).trans x.agrees)
        rw [hu]
        exact {}
      have hnew : g.tables = new := by
        refine Eq.trans ?_ htables
        rw [x.hub, hready]
      have hlimiter : g.bd.limiterDone = h.bd.limiterDone := by
        refine ((congrArg (fun k : Hub => k.bd.limiterDone) x.hub).trans hdone).trans ?_
        rw [hu]
        rfl
      intro v cleared
      refine ⟨fun ho hn hl => ?_, fun ho hn => ?_, fun ho => ?_⟩
      · rw [portActivated_enables ho (hnew ▸ hn)] at y
        exact enabled_port hagrees hl y
      · rw [portActivated_disables ho (hnew ▸ hn)] at y
        obtain ⟨hcleared, hlink, hrange, hlines, hrecords⟩ := disabled_port hagrees y
        have hcounts := disabled_counts hagrees y
        rw [hnew] at hcounts
        refine ⟨hcleared, hlink, hrange, hlines, hcounts, fun ha => ?_, fun hup => ?_, hrecords,
          fun hdue => ?_⟩
        · have hleaves := disabled_leaves hagrees ha y
          exact ⟨hleaves.mask, hleaves.meas, hleaves.combining, hleaves.pending, hleaves.transaction⟩
        · have hleaves := disabled_leaves hagrees (aligned_of_isUp hup) y
          exact ⟨hleaves.loop hup, hleaves.marked hup, hleaves.answered hup⟩
        · obtain ⟨hremote, hengine, hoccurrences⟩ := disabled_exact hagrees hlimiter y hdue
          exact ⟨⟨hremote, hengine⟩, hoccurrences⟩
      · obtain ⟨hremote, hcombining, hlines, hgates, hmeter, hdetectors, hrecords, hengine, hplm, -⟩ :=
          kept_port hagrees (ho.trans (congrArg (fun k : Tables => k.portOn p) hnew.symm)) y
        rw [hnew] at hplm
        exact ⟨hremote, hcombining, hlines, hgates, hmeter, hdetectors, hrecords, hengine, hplm⟩

end Sys2Proof
end
